-- ==== Sys2Proof/Word.lean ====
section
/-! DEFINITION. The word types of the Plan Link (spec/10, R182): a field of the link is a bit vector of its wire width.
Quantities the part computes with (ticks, currents, counts) are natural numbers or integers with the ranges the spec gives. -/

namespace Sys2Proof

/-- One byte of the Plan Link (R165, R182: `u8`, `s8`, `enum`, `bits`). -/
abbrev Byte := BitVec 8
/-- A two-byte field (R182: `u16`, `s16`). -/
abbrev U16 := BitVec 16
/-- A three-byte field (R182: `u24`). -/
abbrev U24 := BitVec 24
/-- A four-byte field (R182: `u32`, `s32`). -/
abbrev U32 := BitVec 32

end Sys2Proof
end

