-- ==== Sys2Proof/Config.lean ====
section
/-! DEFINITION. What the part fixes: its sizes and fixed times, and the one free value of the model (the order of events
that fall together, R2). -/

namespace Sys2Proof.Config

/-- Ticks in one millisecond of the Safety Timer (R48, R151). -/
def ticksPerMs : Nat := 500000
/-- Ticks in one character of the Plan Link (R165). -/
def charTicks : Nat := 50
/-- Ticks in one of the ten bits of a character (R165). -/
def bitTicks : Nat := 5
/-- The longest idle time inside a frame, in ticks (R168). -/
def gapLimit : Nat := 1000
/-- How long RSTN must stay low for a cold reset to begin, in ticks (R180). -/
def coldResetTicks : Nat := 500
/-- The margin of the admission time check, in ticks (R18). -/
def lateMargin : Nat := 512
/-- The leak interval, in ticks (R147). -/
def leakInterval : Nat := 1024
/-- Bursts per queue (R5). -/
def queueCapacity : Nat := 20
/-- Notices the Notice Queue holds (R174). -/
def noticeCapacity : Nat := 32
/-- BUSY replies that may wait at a time (R170). -/
def busyCapacity : Nat := 4
/-- The largest track (R3). -/
def maxTrack : Nat := 1048575
/-- Current-code ticks in one heat unit (R45). -/
def heatUnit : Nat := 4096
/-- The limit of a bucket, of a heat charge and of a light-up latency (R45, R46, R149). -/
def max16 : Nat := 65535
/-- The limit of the lifetime heat and of the time field of UNPLANNED_GATE (R78, R149). -/
def max32 : Nat := 4294967295
/-- The limit of a burst's 40-bit accumulator (R44). -/
def maxAcc : Nat := 1099511627775

/-- FREE VALUE (notes/assumptions/2.md). "When two events fall together at different blocks, the manual gives them no
order" (R2): which of several events that are due at one tick is taken first. It has no body on purpose: nothing can be
proved about the order it picks. -/
opaque order : Nat → Nat

end Sys2Proof.Config
end

