-- ==== Sys2Proof/Syntax.lean ====
section
/-! DEFINITION. The commands of the part: one constructor of `Instr` for each row of spec/opcode_table.json. A request
carries its frame's tag and its payload, decoded to fields of their wire widths (spec/10) and not yet judged; a line or
timed event carries its channel and, where the part stamps it, the time of its edge. -/

namespace Sys2Proof

/-- An actuator channel, 0 or 1. -/
inductive Chan where
  | c0
  | c1
deriving DecidableEq, Repr

/-- The other actuator channel. -/
def Chan.other : Chan → Chan
  | .c0 => .c1
  | .c1 => .c0

/-- The parts of a frame between its start byte and its check (R166). The length byte is that of the payload plus 2. -/
structure Frame where
  kind : Byte
  tag : Byte
  payload : List Byte
deriving DecidableEq, Repr

/-- One received character (R165): when its start bit, at the low level, began, and the nine levels of the line after it
in the order they came, the first in bit 0: the eight data bits, the least significant first, and the stop bit. The moment is
one of the timebase at the end of the stop bit, so it is negative for a character that was under way when the timebase
restarted. That such a character is received, from its own start bit on, is the model's choice (notes/assumptions/34.md). -/
structure Character where
  start : Int
  levels : BitVec 9
deriving DecidableEq, Repr

/-- One edge of SYNCn or INDEXn: the level it takes the line to, and when (R49, R50). -/
structure LineEdge where
  high : Bool
  time : Nat
deriving DecidableEq, Repr

/-- The payload of a request: of the length its kind requires, decoded to its fields, or of another length (R172). -/
inductive Payload (α : Type) where
  | fits (fields : α)
  | unfit
deriving DecidableEq, Repr

/-- The payload of a RESET apart from its scope, which names the row: of the right length, of another length, or with a
scope byte that is neither FULL nor RUN (R178). -/
inductive ResetBody where
  | fits
  | unfit
  | undefinedScope (scope : Byte)
deriving DecidableEq, Repr

/-- The payload of a HEAD_STATE apart from its action, which names the row: the head number, a wrong length, or a head
number with an action byte that is none of the four (R102). -/
inductive HeadStateBody where
  | fits (head : Byte)
  | unfit
  | undefinedAction (head action : Byte)
deriving DecidableEq, Repr

/-- CHANNEL_SET (spec/10, Channel configuration). -/
structure ChannelSetFields where
  channel : Byte
  w : U16
  pnom : U16
  tw : U16
  m : Byte
  syncFilter : Byte
  guardFilter : Byte
  lightFilter : Byte
  counter : Byte
  early : U16
  late : U16
  lightGrace : U16
  overrun : U16
  spacing : U16
  biasHold : U16
  reportOk : Byte
  profile : Byte
  policy : Byte
deriving DecidableEq, Repr

/-- CONDITIONS (spec/10, Conditions): the temperatures are signed bytes. -/
structure ConditionsFields where
  temp0 : Byte
  temp1 : Byte
  supply : U16
deriving DecidableEq, Repr

/-- HEAD_SET (spec/10, Head record): `ktemp` and `lt` are signed bytes. -/
structure HeadSetFields where
  head : Byte
  channel : Byte
  ith25 : U16
  ktemp : Byte
  gain : Byte
  imax : U16
  ibias : U16
  lightEst : U16
  coldExtra : U16
  lt : Byte
  samplePeriod : U16
  strikeLimit : Byte
  ceiling : U16
  leak : Byte
  wearThreshold : U32
deriving DecidableEq, Repr

/-- PROFILE_SET (spec/10, Profile record). -/
structure ProfileSetFields where
  index : Byte
  p : Byte
  db : Byte
  kb : U16
  fp : Byte
  lb : U16
  tt : U16
deriving DecidableEq, Repr

/-- One write of a RANGE_SET (spec/10, Range checker write): the bounds are signed. -/
structure RangeWrite where
  index : Byte
  field : Byte
  low : U32
  high : U32
deriving DecidableEq, Repr

/-- RULE_SET (spec/10, Rule entry): `dP` and `dL` are signed. -/
structure RuleSetFields where
  index : Byte
  flags : Byte
  stage : Byte
  headValue : Byte
  headMask : Byte
  kinds : Byte
  channel : Byte
  rangeValue : Byte
  rangeMask : Byte
  counter : Byte
  profile : Byte
  policy : Byte
  dP : Byte
  dL : U16
deriving DecidableEq, Repr

/-- COUNTERS (spec/10): first index, span and clear choice. -/
structure CountersFields where
  first : Byte
  span : Byte
  clear : Byte
deriving DecidableEq, Repr

/-- One entry of a PLAN (spec/10, PLAN; R3). -/
structure PlanEntry where
  tag : U16
  head : Byte
  wedge : U16
  laps : Byte
  offset : U16
  length : U16
  track : U24
  kind : Byte
deriving DecidableEq, Repr

/-- CANCEL (spec/10): the selector and its value. -/
structure CancelFields where
  selector : Byte
  value : U16
deriving DecidableEq, Repr

/-- SAFETY_SET (spec/10): the period in milliseconds and the window. -/
structure SafetySetFields where
  period : U16
  window : Byte
deriving DecidableEq, Repr

/-- The commands of the part, one for each row of spec/opcode_table.json. -/
inductive Instr where
  -- requests the link answers itself
  | ident (tag : Byte) (body : Payload Unit)
  | status (tag : Byte) (body : Payload Unit)
  | resetFull (tag : Byte) (body : ResetBody)
  | resetRun (tag : Byte) (body : ResetBody)
  -- requests of the channels and of the conditions
  | channelSet (tag : Byte) (body : Payload ChannelSetFields)
  | channelOnline (tag : Byte) (body : Payload Byte)
  | channelOffline (tag : Byte) (body : Payload Byte)
  | conditions (tag : Byte) (body : Payload ConditionsFields)
  -- requests of the head table
  | headSet (tag : Byte) (body : Payload HeadSetFields)
  | headGet (tag : Byte) (body : Payload Byte)
  | park (tag : Byte) (body : HeadStateBody)
  | unpark (tag : Byte) (body : HeadStateBody)
  | clearFault (tag : Byte) (body : HeadStateBody)
  | retire (tag : Byte) (body : HeadStateBody)
  -- requests of the profile, checker and rule tables
  | profileSet (tag : Byte) (body : Payload ProfileSetFields)
  | profileGet (tag : Byte) (body : Payload Byte)
  | rangeSet (tag : Byte) (body : Payload (List RangeWrite))
  | ruleSet (tag : Byte) (body : Payload RuleSetFields)
  | ruleGet (tag : Byte) (body : Payload Byte)
  | counters (tag : Byte) (body : Payload CountersFields)
  -- planning
  | plan (tag : Byte) (body : Payload (List PlanEntry))
  | planEntry
  | cancel (tag : Byte) (body : Payload CancelFields)
  -- the Safety Timer and Safe Dark
  | safetySet (tag : Byte) (body : Payload SafetySetFields)
  | tend (tag : Byte) (body : Payload Byte)
  | resume (tag : Byte) (body : Payload Unit)
  -- the link itself
  | undefinedRequest (kind tag : Byte)
  | frameArrival (chars : List Character)
  | gapLimitDiscard
  | transmitEnd
  | coldResetBegin (lowSince : Int)
  | coldResetAct
  -- recognised line events
  | syncRecognition (ch : Chan) (sync index : List LineEdge)
  | missExpiry (ch : Chan)
  | guardAssertion (ch : Chan) (edge : Nat)
  | guardDeassertion (ch : Chan) (edge : Nat)
  | lightAssertion (ch : Chan) (edge : Nat)
  | lightDeassertion (ch : Chan) (edge : Nat)
  | wgateRise (ch : Chan)
  | wgateFall (ch : Chan)
  | supfltRise
  -- timed events of the Laser Sequencers
  | arming (ch : Chan)
  | preheatEnd (ch : Chan)
  | windowClose (ch : Chan)
  | boostEnd (ch : Chan)
  | overrun (ch : Chan)
  | tailEnd (ch : Chan)
  | lightDeadline (ch : Chan)
  | biasHoldExpiry (ch : Chan)
  -- the Heat Monitor, the Safety Timer and the supply fault line
  | leakInstant
  | safetyExpiry
  | supfltFall
deriving DecidableEq, Repr

end Sys2Proof
end

