-- ==== Sys2Proof/WellFormed.lean ====
section
/-! DEFINITION. Which commands are well formed: the checks the wire widths of the fields do not make by themselves. A
command that fails one stands for no frame of its row, or for no train of characters or of edges. -/

namespace Sys2Proof

/-- The kinds that name a request (spec/10, section 10.2). -/
def definedKinds : List Byte :=
  [0x01, 0x02, 0x03, 0x08, 0x09, 0x0A, 0x0B, 0x10, 0x11, 0x12, 0x13, 0x14, 0x18, 0x19, 0x1A, 0x1B, 0x20, 0x21, 0x28,
    0x29, 0x2A]

/-- A PLAN that fits holds 1 to 4 entries (R14). -/
def planWf : Payload (List PlanEntry) → Bool
  | .unfit => true
  | .fits es => 1 ≤ es.length && es.length ≤ 4

/-- A RANGE_SET that fits holds 1 to 8 writes (R119). -/
def rangeWf : Payload (List RangeWrite) → Bool
  | .unfit => true
  | .fits ws => 1 ≤ ws.length && ws.length ≤ 8

/-- An undefined scope is neither FULL (0) nor RUN (1) (R178). -/
def resetWf : ResetBody → Bool
  | .fits => true
  | .unfit => true
  | .undefinedScope b => 2 ≤ b.toNat

/-- An undefined action is above RETIRE (3) (R102). -/
def headStateWf : HeadStateBody → Bool
  | .fits _ => true
  | .unfit => true
  | .undefinedAction _ a => 4 ≤ a.toNat

/-- Characters come one after another: each lasts 50 ticks (R165). -/
def trainWf : List Character → Bool
  | [] => false
  | [_] => true
  | a :: b :: rest => a.start + 50 ≤ b.start && trainWf (b :: rest)

/-- The edges of a line are told in the order they came. -/
def edgesWf : List LineEdge → Bool
  | [] => true
  | [_] => true
  | a :: b :: rest => a.time ≤ b.time && edgesWf (b :: rest)

/-- A command is well formed. -/
def Instr.wf : Instr → Bool
  | .resetFull _ b => resetWf b
  | .resetRun _ b => resetWf b
  | .park _ b => headStateWf b
  | .unpark _ b => headStateWf b
  | .clearFault _ b => headStateWf b
  | .retire _ b => headStateWf b
  | .rangeSet _ b => rangeWf b
  | .plan _ b => planWf b
  | .undefinedRequest k _ => !definedKinds.contains k
  | .frameArrival cs => trainWf cs
  | .syncRecognition _ sync index => edgesWf sync && edgesWf index
  | .ident _ _ | .status _ _ | .channelSet _ _ | .channelOnline _ _ | .channelOffline _ _ | .conditions _ _
  | .headSet _ _ | .headGet _ _ | .profileSet _ _ | .profileGet _ _ | .ruleSet _ _ | .ruleGet _ _ | .counters _ _
  | .planEntry | .cancel _ _ | .safetySet _ _ | .tend _ _ | .resume _ _ | .gapLimitDiscard | .transmitEnd
  | .coldResetBegin _ | .coldResetAct | .missExpiry _ | .guardAssertion _ _
  | .guardDeassertion _ _ | .lightAssertion _ _ | .lightDeassertion _ _ | .wgateRise _ | .wgateFall _ | .supfltRise
  | .arming _ | .preheatEnd _ | .windowClose _ | .boostEnd _ | .overrun _ | .tailEnd _ | .lightDeadline _
  | .biasHoldExpiry _ | .leakInstant | .safetyExpiry | .supfltFall => true

end Sys2Proof
end

