-- ==== Sys2Proof/Decode.lean ====
section
/-! DEFINITION. Decoding. The table gives none of its rows any bits, so no table word spells a command. What the part
does decode is a request frame: its kind and its payload bytes, by the layouts of spec/10, to the command that serves
it (R169, R172, R182). -/

namespace Sys2Proof

/-- The command that a table word spells: the rows of spec/opcode_table.json give no bits, so none does. -/
def decodeTableWord (_nbits _w : Nat) : Option Instr := none

/-- Byte `i` of a payload, 0 past its end. -/
def byteAt (p : List Byte) (i : Nat) : Byte := p.getD i 0

/-- The two bytes at `i`, least significant first (R182). -/
def u16At (p : List Byte) (i : Nat) : U16 := byteAt p (i + 1) ++ byteAt p i

/-- The three bytes at `i`, least significant first (R182). -/
def u24At (p : List Byte) (i : Nat) : U24 := byteAt p (i + 2) ++ u16At p i

/-- The four bytes at `i`, least significant first (R182). -/
def u32At (p : List Byte) (i : Nat) : U32 := u16At p (i + 2) ++ u16At p i

/-- `f` of the payload when it has exactly `n` bytes (R172). -/
def sized {α : Type} (n : Nat) (p : List Byte) (f : List Byte → α) : Payload α :=
  if p.length = n then .fits (f p) else .unfit

/-- CHANNEL_SET's layout (spec/10, Channel configuration). -/
def channelSetFields (p : List Byte) : ChannelSetFields where
  channel := byteAt p 0
  w := u16At p 1
  pnom := u16At p 3
  tw := u16At p 5
  m := byteAt p 7
  syncFilter := byteAt p 8
  guardFilter := byteAt p 9
  lightFilter := byteAt p 10
  counter := byteAt p 11
  early := u16At p 12
  late := u16At p 14
  lightGrace := u16At p 16
  overrun := u16At p 18
  spacing := u16At p 20
  biasHold := u16At p 22
  reportOk := byteAt p 24
  profile := byteAt p 25
  policy := byteAt p 26

/-- CONDITIONS' layout (spec/10, Conditions). -/
def conditionsFields (p : List Byte) : ConditionsFields where
  temp0 := byteAt p 0
  temp1 := byteAt p 1
  supply := u16At p 2

/-- HEAD_SET's layout: head, channel, then the calibration block at offset 2 (spec/10, Head record). -/
def headSetFields (p : List Byte) : HeadSetFields where
  head := byteAt p 0
  channel := byteAt p 1
  ith25 := u16At p 2
  ktemp := byteAt p 4
  gain := byteAt p 5
  imax := u16At p 6
  ibias := u16At p 8
  lightEst := u16At p 10
  coldExtra := u16At p 12
  lt := byteAt p 14
  samplePeriod := u16At p 15
  strikeLimit := byteAt p 17
  ceiling := u16At p 18
  leak := byteAt p 20
  wearThreshold := u32At p 21

/-- PROFILE_SET's layout: the index, then the record (spec/10, Profile record). -/
def profileSetFields (p : List Byte) : ProfileSetFields where
  index := byteAt p 0
  p := byteAt p 1
  db := byteAt p 2
  kb := u16At p 3
  fp := byteAt p 5
  lb := u16At p 6
  tt := u16At p 8

/-- The range checker write whose ten bytes begin at `i` (spec/10, Range checker write). -/
def rangeWriteAt (p : List Byte) (i : Nat) : RangeWrite where
  index := byteAt p i
  field := byteAt p (i + 1)
  low := u32At p (i + 2)
  high := u32At p (i + 6)

/-- RULE_SET's layout (spec/10, Rule entry). -/
def ruleSetFields (p : List Byte) : RuleSetFields where
  index := byteAt p 0
  flags := byteAt p 1
  stage := byteAt p 2
  headValue := byteAt p 3
  headMask := byteAt p 4
  kinds := byteAt p 5
  channel := byteAt p 6
  rangeValue := byteAt p 7
  rangeMask := byteAt p 8
  counter := byteAt p 9
  profile := byteAt p 10
  policy := byteAt p 11
  dP := byteAt p 12
  dL := u16At p 13

/-- The PLAN entry whose fourteen bytes begin at `i` (spec/10, PLAN). -/
def planEntryAt (p : List Byte) (i : Nat) : PlanEntry where
  tag := u16At p i
  head := byteAt p (i + 2)
  wedge := u16At p (i + 3)
  laps := byteAt p (i + 5)
  offset := u16At p (i + 6)
  length := u16At p (i + 8)
  track := u24At p (i + 10)
  kind := byteAt p (i + 13)

/-- A counted payload: the count at offset 0 lies in 1 to `most` and the payload is 1 + `size` bytes per item (R172). -/
def counted {α : Type} (most size : Nat) (p : List Byte) (item : List Byte → Nat → α) : Payload (List α) :=
  let n := (byteAt p 0).toNat
  if 1 ≤ n ∧ n ≤ most ∧ p.length = 1 + size * n then
    .fits ((List.range n).map fun k => item p (1 + size * k))
  else .unfit

/-- RESET: the scope byte names the row (spec/10.5: 0 FULL, 1 RUN). -/
def resetRequest (tag : Byte) (p : List Byte) : Instr :=
  if p.length ≠ 1 then .resetFull tag .unfit
  else if byteAt p 0 = 0 then .resetFull tag .fits
  else if byteAt p 0 = 1 then .resetRun tag .fits
  else .resetFull tag (.undefinedScope (byteAt p 0))

/-- HEAD_STATE: the action byte names the row (spec/10.5: 0 PARK, 1 UNPARK, 2 CLEAR_FAULT, 3 RETIRE). -/
def headStateRequest (tag : Byte) (p : List Byte) : Instr :=
  if p.length ≠ 2 then .park tag .unfit
  else if byteAt p 1 = 0 then .park tag (.fits (byteAt p 0))
  else if byteAt p 1 = 1 then .unpark tag (.fits (byteAt p 0))
  else if byteAt p 1 = 2 then .clearFault tag (.fits (byteAt p 0))
  else if byteAt p 1 = 3 then .retire tag (.fits (byteAt p 0))
  else .park tag (.undefinedAction (byteAt p 0) (byteAt p 1))

/-- The command that serves an intact frame: by its kind (spec/10, section 10.2), with its payload decoded by the
kind's layout. A kind that names no request is UNDEFINED_REQUEST (R169, R172). -/
def requestOf (f : Frame) : Instr :=
  let p := f.payload
  if f.kind = 0x01 then .ident f.tag (sized 0 p fun _ => ())
  else if f.kind = 0x02 then .status f.tag (sized 0 p fun _ => ())
  else if f.kind = 0x03 then resetRequest f.tag p
  else if f.kind = 0x08 then .channelSet f.tag (sized 27 p channelSetFields)
  else if f.kind = 0x09 then .channelOnline f.tag (sized 1 p fun q => byteAt q 0)
  else if f.kind = 0x0A then .channelOffline f.tag (sized 1 p fun q => byteAt q 0)
  else if f.kind = 0x0B then .conditions f.tag (sized 4 p conditionsFields)
  else if f.kind = 0x10 then .headSet f.tag (sized 25 p headSetFields)
  else if f.kind = 0x11 then .headGet f.tag (sized 1 p fun q => byteAt q 0)
  else if f.kind = 0x12 then headStateRequest f.tag p
  else if f.kind = 0x13 then .profileSet f.tag (sized 10 p profileSetFields)
  else if f.kind = 0x14 then .profileGet f.tag (sized 1 p fun q => byteAt q 0)
  else if f.kind = 0x18 then .rangeSet f.tag (counted 8 10 p rangeWriteAt)
  else if f.kind = 0x19 then .ruleSet f.tag (sized 15 p ruleSetFields)
  else if f.kind = 0x1A then .ruleGet f.tag (sized 1 p fun q => byteAt q 0)
  else if f.kind = 0x1B then .counters f.tag (sized 3 p fun q => ⟨byteAt q 0, byteAt q 1, byteAt q 2⟩)
  else if f.kind = 0x20 then .plan f.tag (counted 4 14 p planEntryAt)
  else if f.kind = 0x21 then .cancel f.tag (sized 3 p fun q => ⟨byteAt q 0, u16At q 1⟩)
  else if f.kind = 0x28 then .safetySet f.tag (sized 3 p fun q => ⟨u16At q 0, byteAt q 2⟩)
  else if f.kind = 0x29 then .tend f.tag (sized 1 p fun q => byteAt q 0)
  else if f.kind = 0x2A then .resume f.tag (sized 0 p fun _ => ())
  else .undefinedRequest f.kind f.tag

/-- The kind byte of a request command, 0 for a command that is no request (spec/10, section 10.2). -/
def requestKind : Instr → Byte
  | .ident _ _ => 0x01
  | .status _ _ => 0x02
  | .resetFull _ _ => 0x03
  | .resetRun _ _ => 0x03
  | .channelSet _ _ => 0x08
  | .channelOnline _ _ => 0x09
  | .channelOffline _ _ => 0x0A
  | .conditions _ _ => 0x0B
  | .headSet _ _ => 0x10
  | .headGet _ _ => 0x11
  | .park _ _ => 0x12
  | .unpark _ _ => 0x12
  | .clearFault _ _ => 0x12
  | .retire _ _ => 0x12
  | .profileSet _ _ => 0x13
  | .profileGet _ _ => 0x14
  | .rangeSet _ _ => 0x18
  | .ruleSet _ _ => 0x19
  | .ruleGet _ _ => 0x1A
  | .counters _ _ => 0x1B
  | .plan _ _ => 0x20
  | .cancel _ _ => 0x21
  | .safetySet _ _ => 0x28
  | .tend _ _ => 0x29
  | .resume _ _ => 0x2A
  | .undefinedRequest kind _ => kind
  | .planEntry | .frameArrival _ | .gapLimitDiscard | .transmitEnd | .coldResetBegin _ | .coldResetAct
  | .syncRecognition _ _ _ | .missExpiry _ | .guardAssertion _ _ | .guardDeassertion _ _ | .lightAssertion _ _
  | .lightDeassertion _ _ | .wgateRise _ | .wgateFall _ | .supfltRise | .arming _ | .preheatEnd _ | .windowClose _
  | .boostEnd _ | .overrun _ | .tailEnd _ | .lightDeadline _ | .biasHoldExpiry _ | .leakInstant | .safetyExpiry
  | .supfltFall => 0

/-- The tag of a request command, 0 for a command that is no request. -/
def requestTag : Instr → Byte
  | .ident tag _ | .status tag _ | .resetFull tag _ | .resetRun tag _ | .channelSet tag _ | .channelOnline tag _
  | .channelOffline tag _ | .conditions tag _ | .headSet tag _ | .headGet tag _ | .park tag _ | .unpark tag _
  | .clearFault tag _ | .retire tag _ | .profileSet tag _ | .profileGet tag _ | .rangeSet tag _ | .ruleSet tag _
  | .ruleGet tag _ | .counters tag _ | .plan tag _ | .cancel tag _ | .safetySet tag _ | .tend tag _ | .resume tag _
  | .undefinedRequest _ tag => tag
  | .planEntry | .frameArrival _ | .gapLimitDiscard | .transmitEnd | .coldResetBegin _ | .coldResetAct
  | .syncRecognition _ _ _ | .missExpiry _ | .guardAssertion _ _ | .guardDeassertion _ _ | .lightAssertion _ _
  | .lightDeassertion _ _ | .wgateRise _ | .wgateFall _ | .supfltRise | .arming _ | .preheatEnd _ | .windowClose _
  | .boostEnd _ | .overrun _ | .tailEnd _ | .lightDeadline _ | .biasHoldExpiry _ | .leakInstant | .safetyExpiry
  | .supfltFall => 0

/-- The kind of the reply to a received kind: the same with its most significant bit set (R169). -/
def replyKind (kind : Byte) : Byte := kind ||| 0x80

end Sys2Proof
end

