-- ==== Sys2Proof/Machine/State.lean ====
section
/-! DEFINITION. The state of the part as plain data: everything the spec gives it, one home for each piece, and its value
right after a cold reset. INVENTORY.md lists each piece with the rule that names it. -/

namespace Sys2Proof.Machine

/-! ## Bursts (spec/01) -/

/-- The kind of a write (R3). -/
inductive WriteKind where
  | data
  | rewrite
  | erase
  | test
deriving DecidableEq, Repr

/-- What a gate during HEATING does (R77). -/
inductive Policy where
  | veto
  | accept
deriving DecidableEq, Repr

/-- Why a burst was vetoed or aborted (R9). `none` goes with WRITTEN and MISSED. -/
inductive Reason where
  | none
  | underheat
  | hot
  | starved
  | guard
  | lightLoss
  | lightAbsent
  | overrun
deriving DecidableEq, Repr

/-- The outcomes a completion reports (R9). CANCELLED and FLUSHED bursts leave their queue without one. -/
inductive Result where
  | written
  | missed
  | vetoed
  | aborted
deriving DecidableEq, Repr

/-- An outcome with its reason (R9). -/
structure Verdict where
  result : Result
  reason : Reason
deriving DecidableEq, Repr

/-- The states of a burst (R7). A COOLING burst's outcome is decided (R9), and a BARRED burst holds the reason it was
barred for. -/
inductive BurstState where
  | queued
  | heating
  | ready
  | writing
  | cooling (verdict : Verdict)
  | barred (reason : Reason)
deriving DecidableEq, Repr

/-- Which of the two chosen rules' capture flags a burst cleared, and the key's range bits (R128). -/
structure CaptureMark where
  select : Bool
  trim : Bool
  rangeBits : Byte
deriving DecidableEq, Repr

/-- The frozen heating plan of a burst (R3, R28, R124). `selectRule = none` is DEFAULT and `trimRule = none` is NONE. -/
structure Plan where
  ith : Nat
  sustain : Nat
  boost : Nat
  preheat : Nat
  bias : Nat
  boostLen : Nat
  tailLen : Nat
  lead : Nat
  coldLead : Nat
  capped : Bool
  selectRule : Option (Fin 64)
  trimRule : Option (Fin 64)
  policy : Policy
  capture : Option CaptureMark
deriving DecidableEq, Repr

/-- The lead a burst was lit with, and whether it was the cold one (R3, R73). -/
structure LeadUsed where
  ticks : Nat
  cold : Bool
deriving DecidableEq, Repr

/-- The accepted gate of a burst: its time, the gate error formed at acceptance, and its end once it has one (R3, R76,
R81). -/
structure AcceptedGate where
  start : Nat
  error : Int
  stop : Option Nat
deriving DecidableEq, Repr

/-- A burst record (R3). The fields after `state` are absent or clear until the event that gives them. `decidedBar` is the
bar that a failed handover decided for a QUEUED burst (R84). `gateVetoed` says that a gate vetoed for the BARRED burst is
still asserted, and `barOver` that the first of R79's two moments has passed. `sampledArming` is the sampling decision
of R107; the burst carries SAMPLED when it also has a latency. -/
structure Burst where
  tag : U16
  head : Fin 24
  wedge : Nat
  laps : Nat
  offset : Nat
  length : Nat
  track : Nat
  kind : WriteKind
  channel : Chan
  target : Nat
  position : Nat
  plan : Plan
  state : BurstState
  decidedBar : Option Reason
  leadUsed : Option LeadUsed
  derate : Option Nat
  derated : Bool
  hotChain : Bool
  underheat : Bool
  sampledArming : Bool
  latency : Option Nat
  gate : Option AcceptedGate
  acc : Nat
  gateVetoed : Bool
  barOver : Bool
deriving DecidableEq, Repr

/-! ## Channels, trackers and sequencers (spec/03, spec/04) -/

/-- A filter setting (R49). -/
inductive Filter where
  | off
  | ticks8
  | ticks32
  | ticks128
deriving DecidableEq, Repr

/-- The channel configuration (R52). -/
structure ChanConfig where
  w : Nat
  pnom : Nat
  tw : Nat
  m : Nat
  syncFilter : Filter
  guardFilter : Filter
  lightFilter : Filter
  early : Nat
  late : Nat
  lightGrace : Nat
  overrun : Nat
  spacing : Nat
  biasHold : Nat
  reportOk : Bool
  profile : Fin 16
  policy : Policy
  counter : Option (Fin 16)
deriving DecidableEq, Repr

/-- The states of a Wedge Tracker (R55). OFF is OFFLINE. -/
inductive TrackerState where
  | off
  | acquiring
  | locked
  | coasting
deriving DecidableEq, Repr

/-- An anchor: its time, wedge index and absolute count (R55). -/
structure Anchor where
  time : Nat
  wedge : Nat
  count : Nat
deriving DecidableEq, Repr

/-- A Wedge Tracker (R55). -/
structure Tracker where
  state : TrackerState
  anchor : Option Anchor
  pest : Nat
  good : Nat
  miss : Nat
deriving DecidableEq, Repr

/-- A filtered line, SYNCn, GUARDn or LSENSEn (R49): the level of the pin, the moment from which a movement can follow (the edge
that took the pin to its level, or the recognition of that edge), and the filtered level. Of SYNCn, whose falls are no events,
`filtered` says that the rise it is high by has been recognised. -/
structure Line where
  high : Bool
  since : Nat
  filtered : Bool
deriving DecidableEq, Repr

/-- A line that is read by its level alone, INDEXn (R50): the level, and the moment since which it is known to hold it. -/
structure Pin where
  high : Bool
  since : Nat
deriving DecidableEq, Repr

/-- The laser states (R66). -/
inductive LaserState where
  | dark
  | bias
  | preheat
  | hold
  | boost
  | sustain
  | tail
deriving DecidableEq, Repr

/-- The burst whose currents the laser runs: none, the front burst of the queue, or a burst already removed from it whose
tail runs on (R66, a detached tail). -/
inductive Active where
  | idle
  | front
  | detached (b : Burst)
deriving DecidableEq, Repr

/-- The light status of the present lit span; AWAITING holds the light deadline (R66, R88). -/
inductive LightStatus where
  | none
  | awaiting (deadline : Nat)
  | seen
deriving DecidableEq, Repr

/-- What the drive lane last carried (R68): the head, or NONE, and the current code. -/
structure Lane where
  head : Option (Fin 24)
  code : Nat
deriving DecidableEq, Repr

/-- What is left of a lit span that a flush of the whole queue darkened while a cause of a head fault stood (R113): the
head it was lit on, the moment of the darkening, and the light status it ended with. -/
structure DarkenedSpan where
  head : Fin 24
  moment : Nat
  light : LightStatus
deriving DecidableEq, Repr

/-- A Laser Sequencer (R66). `lane` holds the applied current with its head. `phaseStart` is when the running lit phase
began (R44) and `litSince` when PREHEAT was last entered (R88). `darkened` is the span whose fault is still to be taken
after the flush that darkened it (R113). -/
structure Sequencer where
  laser : LaserState
  selected : Option (Fin 24)
  active : Active
  lane : Lane
  committed : Nat
  biasCurrent : Nat
  biasCount : Nat
  light : LightStatus
  phaseEnd : Option Nat
  overrunAt : Option Nat
  veto : Bool
  phaseStart : Nat
  litSince : Nat
  darkened : Option DarkenedSpan
deriving DecidableEq, Repr

/-- The expected gate time of the front burst, and whether its target wedge has fixed it (R69). `closed` says that the close
of the gate window about this time has been taken while the burst was BARRED (R75, R94). -/
structure GateTime where
  time : Int
  fixed : Bool
  closed : Bool
deriving DecidableEq, Repr

/-- All that belongs to one actuator channel. `wgate` is the level of WGATEn, `gate` the expected gate time of the front burst. -/
structure Channel where
  config : ChanConfig
  temp : Int
  tracker : Tracker
  syncLine : Line
  indexPin : Pin
  guardLine : Line
  lightLine : Line
  wgate : Bool
  queue : List Burst
  gate : Option GateTime
  seq : Sequencer
deriving DecidableEq, Repr

/-! ## Heads and tables (spec/05, spec/06) -/

/-- Why a head is in FAULT (R95). -/
inductive FaultCause where
  | lightAbsent
  | dropout
deriving DecidableEq, Repr

/-- The states of a head; FAULT holds its cause (R95, R96). -/
inductive HeadState where
  | absent
  | ready
  | parked
  | fault (cause : FaultCause)
deriving DecidableEq, Repr

/-- A head record (R95). -/
structure Head where
  state : HeadState
  channel : Chan
  ith25 : Nat
  ktemp : Int
  gain : Nat
  imax : Nat
  ibias : Nat
  lightEst : Nat
  coldExtra : Nat
  lt : Int
  samplePeriod : Nat
  sampleCountdown : Nat
  strikeLimit : Nat
  strikes : Nat
  ceiling : Nat
  leak : Nat
  bucket : Nat
  lifetime : Nat
  wearThreshold : Nat
  wearNoticed : Bool
deriving DecidableEq, Repr

/-- A profile (R114). -/
structure Profile where
  p : Nat
  db : Nat
  kb : Nat
  fp : Nat
  lb : Nat
  tt : Nat
deriving DecidableEq, Repr

/-- What a Range Checker compares (R117). -/
inductive CheckerField where
  | track
  | temperature
  | offset
deriving DecidableEq, Repr

/-- A Range Checker (R118). -/
structure RangeChecker where
  field : CheckerField
  low : Int
  high : Int
deriving DecidableEq, Repr

/-- The channels a rule accepts (R120). -/
inductive ChanMatch where
  | only (ch : Chan)
  | any
deriving DecidableEq, Repr

/-- A rule's stage with the action fields of that stage (R120: the fields of the other stage are not stored). -/
inductive RuleAction where
  | select (profile : Fin 16) (policy : Policy)
  | trim (dP dL : Int)
deriving DecidableEq, Repr

/-- A Rule Table entry (R120). Bit k of `kinds` is the kind whose code is k. -/
structure RuleEntry where
  valid : Bool
  headValue : BitVec 5
  headMask : BitVec 5
  kinds : BitVec 4
  channel : ChanMatch
  rangeValue : Byte
  rangeMask : Byte
  counter : Option (Fin 16)
  action : RuleAction
  capture : Bool
deriving DecidableEq, Repr

/-! ## Supply, Safety Timer and Safe Dark (spec/07, spec/08) -/

/-- The Supply Arbiter's limits (R138). The commitments are held per channel (`Sequencer.committed`). -/
structure Supply where
  limit : Nat
  pending : Option Nat
deriving DecidableEq, Repr

/-- The states of the Safety Timer (R151). -/
inductive TimerState where
  | stopped
  | running
  | warned
deriving DecidableEq, Repr

/-- A TEND phase, and the pointer to the next one (R151). -/
inductive Phase where
  | a
  | b
deriving DecidableEq, Repr

/-- A window of the Safety Timer (R151, R153). -/
inductive Window where
  | open100
  | open75
  | open50
deriving DecidableEq, Repr

/-- The Safety Timer (R151). Its elapsed time is `now - restartedAt` while it is not STOPPED, and 0 while it is. -/
structure SafetyTimer where
  state : TimerState
  pointer : Phase
  restartedAt : Nat
  period : Nat
  window : Window
deriving DecidableEq, Repr

/-- Why the part is in Safe Dark (R158). -/
inductive SafeCause where
  | earlyTend
  | expiry
  | supply
deriving DecidableEq, Repr

/-! ## The Plan Link (spec/09, spec/10) -/

/-- The result codes (section 9.5). -/
inductive Code where
  | ok
  | clamped
  | badKind
  | badLength
  | fieldRange
  | busy
  | noSync
  | tooLate
  | overlap
  | queueFull
  | duplicateTag
  | headUnavailable
  | headBusy
  | underdrive
  | safeDark
  | wrongState
  | notFound
deriving DecidableEq, Repr

/-- The scope of a RESET (R178). -/
inductive Scope where
  | full
  | run
deriving DecidableEq, Repr

/-- The answers to a TEND that is taken (R155). -/
inductive TendAnswer where
  | half
  | restarted
  | early
  | outOfStep
deriving DecidableEq, Repr

/-- The flags a completing burst carries (R10). -/
structure BurstFlags where
  derated : Bool
  capped : Bool
  coldStart : Bool
  hotChain : Bool
  underheat : Bool
  sampled : Bool
deriving DecidableEq, Repr

/-- The contents of a BURST_DONE notice (R13). `gate` holds the gate error and the gate duration. -/
structure BurstDone where
  flags : BurstFlags
  tag : U16
  head : Fin 24
  channel : Chan
  verdict : Verdict
  gate : Option (Int × Nat)
  sustain : Nat
  heat : Nat
  latency : Option Nat
deriving DecidableEq, Repr

/-- The causes of a SYNC_CHANGE notice (R63). -/
inductive SyncCause where
  | acquired
  | coasting
  | lost
  | indexSlip
deriving DecidableEq, Repr

/-- The contents of a CAPTURE notice (R129). -/
structure CaptureInfo where
  tag : U16
  head : Fin 24
  channel : Chan
  kind : WriteKind
  mark : CaptureMark
  profile : Fin 16
  dP : Int
  dL : Int
  plan : Plan
deriving DecidableEq, Repr

/-- The notices (section 10.4). -/
inductive Notice where
  | burstDone (d : BurstDone)
  | unplannedGate (ch : Chan) (laser : LaserState) (sinceAnchor : Option Nat)
  | syncChange (ch : Chan) (cause : SyncCause) (state : TrackerState) (wedge pest miss flushed : Nat)
  | headFault (head : Fin 24) (ch : Chan) (cause : FaultCause) (strikes flushed : Nat)
  | capture (c : CaptureInfo)
  | safetyWarning (period : Nat) (window : Window) (pointer : Phase)
  | safeDark (cause : SafeCause) (flushed0 flushed1 : Nat)
  | wear (head : Fin 24) (ch : Chan) (lifetime threshold : Nat)
deriving DecidableEq, Repr

/-- A notice in the Notice Queue with its overflow indication (R174, R175). -/
structure QueuedNotice where
  overflow : Bool
  notice : Notice
deriving DecidableEq, Repr

/-- What STATUS reports of one channel (R177). -/
structure ChannelView where
  online : Bool
  tracker : TrackerState
  wedge : Nat
  pest : Nat
  miss : Nat
  laser : LaserState
  selected : Option (Fin 24)
  count : Nat
  committed : Nat
  veto : Bool
deriving DecidableEq, Repr

/-- What STATUS reports (R177). -/
structure StatusView where
  ch0 : ChannelView
  ch1 : ChannelView
  safe : Option SafeCause
  timer : TimerState
  pointer : Phase
  elapsedMs : Nat
  limit : Nat
  pending : Option Nat
  temp0 : Int
  temp1 : Int
  overflow : Bool
deriving DecidableEq, Repr

/-- The payloads of the replies (section 10.3, R184). `code` is a reply that carries its result code alone. -/
inductive Reply where
  | code (r : Code)
  | ident
  | status (v : StatusView)
  | reset (scope : Scope) (held : Nat)
  | channelSet (r : Code) (ch : Chan) (config : ChanConfig)
  | channelOffline (flushed : Nat)
  | conditions (r : Code) (temp0 temp1 : Int) (limit : Nat) (pending : Option Nat)
  | head (r : Code) (head : Fin 24) (record : Head)
  | headState (r : Code) (state : HeadState) (flushed : Nat)
  | profile (r : Code) (index : Fin 16) (record : Profile)
  | ranges (r : Code) (checkers : Vector RangeChecker 8)
  | rule (r : Code) (index : Fin 64) (entry : RuleEntry)
  | counters (first span : Nat) (values : List U32)
  | plan (results : List Code)
  | cancel (r : Code) (removed skipped : Nat)
  | safetySet (r : Code) (period : Nat) (window effective : Window) (state : TimerState)
  | tend (answer : TendAnswer) (pointer : Phase) (state : TimerState) (elapsedMs : Nat)
  | resume (cause : SafeCause)
deriving DecidableEq, Repr

/-- Whether a waiting reply is that of the served request or a BUSY reply (R170, R173). -/
inductive ReplyRole where
  | served
  | busy
deriving DecidableEq, Repr

/-- A reply waiting for the transmitter, with the kind and tag of its frame (R169, R173). -/
structure QueuedReply where
  role : ReplyRole
  kind : Byte
  tag : Byte
  reply : Reply
deriving DecidableEq, Repr

/-- The receiver (R168): hunting, or assembling with the bytes taken since the start byte. -/
inductive Receiver where
  | hunting
  | assembling (got : List Byte)
deriving DecidableEq, Repr

/-- How far the service of the served request has come (R171): a PLAN with entries still to judge and the results so
far; a request whose reply has been built; an accepted RESET that has not yet acted (R178). -/
inductive Service where
  | planning (left : List PlanEntry) (results : List Code)
  | replied
  | resetting (scope : Scope)
deriving DecidableEq, Repr

/-- The receive place of the served request (R170, R171). -/
structure Served where
  request : Instr
  service : Service
deriving DecidableEq, Repr

/-- The frame the transmitter is sending: when its last character ends, and the reset that acts then, for the reply of an
accepted RESET (R173, R178). -/
structure Sending where
  frame : Frame
  endsAt : Nat
  acts : Option Scope
deriving DecidableEq, Repr

/-- The state of the Plan Link (section 9). `rxEnd` is when the last received character ended, as its `start` gives it. -/
structure Link where
  rx : Receiver
  rxEnd : Int
  served : Option Served
  waiting : Option Instr
  replies : List QueuedReply
  tx : Option Sending
  notices : List QueuedNotice
  overflow : Bool
deriving DecidableEq, Repr

/-! ## The whole part -/

/-- The level of RSTN and the moment since which it has held it (R180). The moment is one of the present timebase, so it is
negative for a level that is older than the last restart of the timebase. -/
structure ResetPin where
  low : Bool
  since : Int
deriving DecidableEq, Repr

/-- The state of the part, and the queue of commands that wait. `now` is the timebase, `rstn` the pin RSTN, `held` says that a
cold reset has begun and RSTN is still low (R180), `lineEpoch` is the moment the last reset acted (R49), `safe` is the safe flag with
its cause. Two fields are the MODEL's own: `leaksTaken` counts the leak instants already taken, and `choices` counts the
free choices made among events due together (R2). -/
structure State where
  pending : List Instr
  now : Nat
  rstn : ResetPin
  held : Bool
  lineEpoch : Nat
  supflt : Bool
  ch0 : Channel
  ch1 : Channel
  heads : Vector Head 24
  profiles : Vector Profile 16
  checkers : Vector RangeChecker 8
  rules : Vector RuleEntry 64
  counters : Vector U32 16
  supply : Supply
  safety : SafetyTimer
  safe : Option SafeCause
  link : Link
  leaksTaken : Nat
  choices : Nat
deriving DecidableEq, Repr

/-- The faults of a step. The spec names no event that stops the part and gives every command an effect, so there is
none: no command faults. -/
inductive Fault where
deriving DecidableEq, Repr

/-- The refusals of a step. -/
inductive Refusal where
  /-- Raised by `exec` alone, for a command whose meaning is not modelled. Safe: nothing is claimed of it. No arm raises
  it: every command has its meaning. -/
  | notModelled (mnemonic : String)
deriving DecidableEq, Repr

/-! ## Reset values -/

/-- The cold-reset configuration of a channel (R52). -/
def coldConfig : ChanConfig where
  w := 512
  pnom := 8192
  tw := 256
  m := 3
  syncFilter := .ticks8
  guardFilter := .ticks8
  lightFilter := .ticks8
  early := 64
  late := 64
  lightGrace := 256
  overrun := 256
  spacing := 64
  biasHold := 4096
  reportOk := false
  profile := 0
  policy := .veto
  counter := none

/-- A tracker that is OFF, on a channel whose nominal period is `pnom` (R54, R65). That its good-interval count is 0 after a
reset is the model's choice (notes/assumptions/31.md). -/
def offTracker (pnom : Nat) : Tracker where
  state := .off
  anchor := none
  pest := pnom
  good := 0
  miss := 0

/-- A Laser Sequencer after a reset (R66). -/
def darkSequencer : Sequencer where
  laser := .dark
  selected := none
  active := .idle
  lane := ⟨none, 0⟩
  committed := 0
  biasCurrent := 0
  biasCount := 0
  light := .none
  phaseEnd := none
  overrunAt := none
  veto := true
  phaseStart := 0
  litSince := 0
  darkened := none

/-- A low line (notes/assumptions/3.md: the levels of the input pins at reset). -/
def lowLine : Line where
  high := false
  since := 0
  filtered := false

/-- A channel after a cold reset with its lines low (R25, R52, R65, R66, R137). -/
def coldChannel : Channel where
  config := coldConfig
  temp := 25
  tracker := offTracker 8192
  syncLine := lowLine
  indexPin := ⟨false, 0⟩
  guardLine := lowLine
  lightLine := lowLine
  wgate := false
  queue := []
  gate := none
  seq := darkSequencer

/-- A head record after a cold reset (R97). -/
def coldHead : Head where
  state := .absent
  channel := .c0
  ith25 := 0
  ktemp := 0
  gain := 16
  imax := 0
  ibias := 0
  lightEst := 0
  coldExtra := 0
  lt := 0
  samplePeriod := 0
  sampleCountdown := 0
  strikeLimit := 3
  strikes := 0
  ceiling := 65535
  leak := 0
  bucket := 0
  lifetime := 0
  wearThreshold := 0
  wearNoticed := false

/-- A profile after a cold reset (R114). -/
def coldProfile : Profile where
  p := 0
  db := 0
  kb := 0
  fp := 0
  lb := 0
  tt := 0

/-- A Range Checker after a cold reset (R118). -/
def coldChecker : RangeChecker where
  field := .track
  low := 1048575
  high := 0

/-- A Rule Table entry after a cold reset (R134). -/
def coldRule : RuleEntry where
  valid := false
  headValue := 0
  headMask := 0
  kinds := 0
  channel := .any
  rangeValue := 0
  rangeMask := 0
  counter := none
  action := .select 0 .veto
  capture := false

/-- The Safety Timer after a cold reset (R151). -/
def coldSafety : SafetyTimer where
  state := .stopped
  pointer := .a
  restartedAt := 0
  period := 100
  window := .open100

/-- The link after a reset (R179). -/
def idleLink : Link where
  rx := .hunting
  rxEnd := 0
  served := none
  waiting := none
  replies := []
  tx := none
  notices := []
  overflow := false

/-- The part right after a cold reset, with every input pin inactive and no command waiting. -/
def State.reset : State where
  pending := []
  now := 0
  rstn := ⟨false, 0⟩
  held := false
  lineEpoch := 0
  supflt := false
  ch0 := coldChannel
  ch1 := coldChannel
  heads := Vector.replicate 24 coldHead
  profiles := Vector.replicate 16 coldProfile
  checkers := Vector.replicate 8 coldChecker
  rules := Vector.replicate 64 coldRule
  counters := Vector.replicate 16 0
  supply := ⟨0, none⟩
  safety := coldSafety
  safe := none
  link := idleLink
  leaksTaken := 0
  choices := 0

end Sys2Proof.Machine
end

