-- ==== Sys2Proof/Machine/Ops.lean ====
section
/-! DEFINITION. The named operations over the state that the rest of the machine is written with: access to a channel and
to a head, placing a notice, charging heat, the supply account, and the queue's front burst. -/

namespace Sys2Proof.Machine

/-! ## Access -/

/-- The state of a channel. -/
def State.chan (s : State) : Chan → Channel
  | .c0 => s.ch0
  | .c1 => s.ch1

/-- Replace the state of a channel. -/
def State.setChan (s : State) (c : Chan) (x : Channel) : State :=
  match c with
  | .c0 => { s with ch0 := x }
  | .c1 => { s with ch1 := x }

/-- Change the state of a channel. -/
def State.modChan (s : State) (c : Chan) (f : Channel → Channel) : State :=
  s.setChan c (f (s.chan c))

/-- Change a channel's Laser Sequencer. -/
def State.modSeq (s : State) (c : Chan) (f : Sequencer → Sequencer) : State :=
  s.modChan c fun x => { x with seq := f x.seq }

/-- Replace a head record. -/
def State.setHead (s : State) (h : Fin 24) (r : Head) : State :=
  { s with heads := s.heads.set h r }

/-- Change the state of the Plan Link. -/
def State.modLink (s : State) (f : Link → Link) : State :=
  { s with link := f s.link }

/-- A vector with `f` applied to every place. -/
def mapAll {α β : Type} {n : Nat} (f : α → β) (v : Vector α n) : Vector β n :=
  Vector.ofFn fun i => f v[i]

/-- A channel is online when its tracker is not OFF (R55: OFF is OFFLINE). -/
def Channel.online (x : Channel) : Bool := x.tracker.state != .off

/-- The tracker is LOCKED or COASTING (R15, R67). -/
def Tracker.synced (t : Tracker) : Bool := t.state == .locked || t.state == .coasting

/-- The laser is in a lit state (R67). -/
def LaserState.lit : LaserState → Bool
  | .dark | .bias => false
  | .preheat | .hold | .boost | .sustain | .tail => true

/-- The laser is writing a burst whose gate was accepted (R91). -/
def LaserState.writing : LaserState → Bool
  | .boost | .sustain => true
  | .dark | .bias | .preheat | .hold | .tail => false

/-- The burst is waiting for its laser or still to be lit or barred (R20, R22): QUEUED or BARRED. -/
def BurstState.unlit : BurstState → Bool
  | .queued => true
  | .barred _ => true
  | .heating => false
  | .ready => false
  | .writing => false
  | .cooling _ => false

/-! ## Notices -/

/-- Place a notice (R174, R175): on a full queue it is discarded and the overflow flag is set; otherwise it carries the
flag as its overflow indication, and the flag is cleared. -/
def placeNotice (n : Notice) (s : State) : State :=
  s.modLink fun l =>
    if Config.noticeCapacity ≤ l.notices.length then { l with overflow := true }
    else { l with notices := l.notices ++ [⟨l.overflow, n⟩], overflow := false }

/-! ## The Heat Monitor -/

/-- The wear test (R150). -/
def wearTest (h : Fin 24) (s : State) : State :=
  let r := s.heads[h]
  if r.wearThreshold ≠ 0 ∧ r.wearNoticed = false ∧ r.wearThreshold ≤ r.lifetime then
    placeNotice (.wear h r.channel r.lifetime r.wearThreshold) (s.setHead h { r with wearNoticed := true })
  else s

/-- The heat of an accumulation, in heat units (R45). -/
def heatUnits (acc : Nat) : Nat := min (acc / Config.heatUnit) Config.max16

/-- Add a charge to a head record (R149): the bucket and the lifetime heat saturate. -/
def Head.charged (r : Head) (units : Nat) : Head :=
  { r with bucket := min (r.bucket + units) Config.max16, lifetime := min (r.lifetime + units) Config.max32 }

/-- Charge a head with heat units, and make the wear test (R149, R150). A charge of 0 changes nothing. -/
def charge (h : Fin 24) (units : Nat) (s : State) : State :=
  if units = 0 then s else wearTest h (s.setHead h (s.heads[h].charged units))

/-- The leak of one head (R147). -/
def Head.leaked (r : Head) : Head := { r with bucket := r.bucket - r.leak }

/-! ## The Supply Arbiter -/

/-- The supply limit in force (R138). -/
def Supply.effective (u : Supply) : Nat := u.pending.getD u.limit

/-- The committed sum (R138). -/
def State.committedSum (s : State) : Nat := s.ch0.seq.committed + s.ch1.seq.committed

/-- Adopt the pending limit once the committed sum has come to or below it (R144). -/
def adoptPending (s : State) : State :=
  match s.supply.pending with
  | none => s
  | some p => if s.committedSum ≤ p then { s with supply := ⟨p, none⟩ } else s

/-- Set a channel's commitment (R139), which may adopt a pending limit (R144). -/
def setCommit (c : Chan) (v : Nat) (s : State) : State :=
  adoptPending (s.modSeq c fun q => { q with committed := v })

/-- The headroom of a channel: the limit in force less the other channel's commitment (R39). -/
def headroom (c : Chan) (s : State) : Int :=
  (s.supply.effective : Int) - ((s.chan c.other).seq.committed : Int)

/-! ## Bursts and the front of a queue -/

/-- The three currents a burst runs at, after its derate where it has one (R40, R67). -/
structure Currents where
  boost : Nat
  sustain : Nat
  preheat : Nat
deriving DecidableEq, Repr

/-- One derated current (R40). -/
def deratedCurrent (x f : Nat) : Nat := x * f / 256

/-- The primed currents of a burst (R40, R41). -/
def Burst.currents (b : Burst) : Currents :=
  match b.derate with
  | none => ⟨b.plan.boost, b.plan.sustain, b.plan.preheat⟩
  | some f => ⟨deratedCurrent b.plan.boost f, deratedCurrent b.plan.sustain f, deratedCurrent b.plan.preheat f⟩

/-- The current a laser state applies for a burst (R67). -/
def litCurrent (l : LaserState) (b : Burst) : Nat :=
  match l with
  | .preheat | .hold | .tail => b.currents.preheat
  | .boost => b.currents.boost
  | .sustain => b.currents.sustain
  | .dark | .bias => 0

/-- The front burst of a channel's queue (R5). -/
def State.front (s : State) (c : Chan) : Option Burst := (s.chan c).queue.head?

/-- Apply `f` to the first of a list. -/
def modFirst {α : Type} (f : α → α) : List α → List α
  | [] => []
  | x :: xs => f x :: xs

/-- Change the front burst of a channel's queue. -/
def modFront (c : Chan) (f : Burst → Burst) (s : State) : State :=
  s.modChan c fun x => { x with queue := modFirst f x.queue }

/-- The burst whose currents the channel's laser runs (R66). -/
def Channel.activeBurst (x : Channel) : Option Burst :=
  match x.seq.active with
  | .idle => none
  | .front => x.queue.head?
  | .detached b => some b

/-- Change the active burst, in its queue or detached from it. -/
def modActive (c : Chan) (f : Burst → Burst) (s : State) : State :=
  match (s.chan c).seq.active with
  | .idle => s
  | .front => modFront c f s
  | .detached b => s.modSeq c fun q => { q with active := .detached (f b) }

/-- A tail is running for the front burst (R7, R79). -/
def Channel.frontTail (x : Channel) : Bool := x.seq.laser == .tail && x.seq.active == .front

/-- Record the end of the accepted gate (R13, R81). -/
def Burst.stopGate (t : Nat) (b : Burst) : Burst :=
  { b with gate := b.gate.map fun g => { g with stop := some t } }

/-- A burst that carries a decided bar enters BARRED when it is the front burst (R71, R84). -/
def Burst.enterDecidedBar (b : Burst) : Burst :=
  match b.state, b.decidedBar with
  | .queued, some r => { b with state := .barred r }
  | _, _ => b

/-! ## Expected gate times -/

/-- A burst's expected gate time from the tracker's latest anchor (R62, R69): the anchor time, carried over the wedges
between the anchor and the target at Pest, plus the offset. It is fixed when the target has been anchored. -/
def gateFrom (t : Tracker) (b : Burst) : Option GateTime :=
  t.anchor.map fun a =>
    ⟨(a.time : Int) + ((b.target : Int) - (a.count : Int)) * (t.pest : Int) + (b.offset : Int), decide (b.target ≤ a.count), false⟩

/-- A burst becomes the front burst of its channel's queue (R69, R70, R71): its expected gate time is formed, and a burst
that carries a decided bar enters BARRED. -/
def refreshFront (c : Chan) (s : State) : State :=
  s.modChan c fun x =>
    match x.queue with
    | [] => { x with gate := none }
    | b :: rest => { x with gate := gateFrom x.tracker b, queue := b.enterDecidedBar :: rest }

/-- Remove from a channel's queue every burst that `out` selects; when the front burst is among them, the next becomes
the front burst (R5, R20, R22). -/
def removeWhere (c : Chan) (out : Burst → Bool) (s : State) : State :=
  let q := (s.chan c).queue
  let s1 := s.modChan c fun x => { x with queue := q.filter fun b => !out b }
  if q.head?.any out then refreshFront c s1 else s1

/-- A burst of the head is held in either queue, whatever its state (R98, R102). -/
def State.headBusy (s : State) (h : Fin 24) : Bool :=
  s.ch0.queue.any (fun b => b.head == h) || s.ch1.queue.any (fun b => b.head == h)

/-- A burst in either queue holds the tag (R6). -/
def State.tagHeld (s : State) (t : U16) : Bool :=
  s.ch0.queue.any (fun b => b.tag == t) || s.ch1.queue.any (fun b => b.tag == t)

end Sys2Proof.Machine
end

