-- ==== Sys2Proof/Machine/Plan.lean ====
section
/-! DEFINITION. The heating arithmetic (spec/02): the plan of a burst, the supply derate, the heat estimate and the
light-up estimate. Divisions of integers truncate toward zero (R1). -/

namespace Sys2Proof.Machine

/-- Clamp an integer to a range of naturals (R1). -/
def clampTo (lo hi : Nat) (x : Int) : Nat := (max (lo : Int) (min (hi : Int) x)).toNat

/-- Clamp an integer to a range (R1). -/
def clampInt (lo hi x : Int) : Int := max lo (min hi x)

/-- Clamp a natural number to a range (R1). -/
def clampNat (lo hi x : Nat) : Nat := max lo (min hi x)

/-- The threshold current (R29). -/
def thresholdCurrent (h : Head) (t : Int) : Nat :=
  clampTo 0 1023 ((h.ith25 : Int) + Int.tdiv (h.ktemp * (t - 25)) 16)

/-- The operating current: the trimmed power step times the gain (R30). -/
def operatingCurrent (h : Head) (p : Profile) (dP : Int) : Nat :=
  clampTo 0 255 ((p.p : Int) + dP) * h.gain / 64

/-- The effective bias current (R34). -/
def biasCurrentFor (h : Head) (ith : Nat) : Nat :=
  if ith = 0 then 0 else min h.ibias (min (ith - 1) h.imax)

/-- The warm lead (R35). -/
def warmLead (h : Head) (p : Profile) (t dL : Int) : Nat :=
  clampTo 16 8191 ((p.lb : Int) + (h.lightEst : Int) + Int.tdiv (h.lt * (t - 25)) 8 + dL)

/-- The cold lead (R36). -/
def coldLeadFor (h : Head) (lead : Nat) : Nat := min (lead + h.coldExtra) 8191

/-- The ten quantities of a plan (R28 to R36), with what classification chose (R124). -/
def computePlan (h : Head) (p : Profile) (t dP dL : Int) (select trim : Option (Fin 64)) (policy : Policy) : Plan :=
  let ith := thresholdCurrent h t
  let want := ith + operatingCurrent h p dP
  let sustain := min want h.imax
  let lead := warmLead h p t dL
  { ith := ith
    sustain := sustain
    boost := min (sustain + p.db) h.imax
    preheat := sustain * p.fp / 16
    bias := biasCurrentFor h ith
    boostLen := p.kb
    tailLen := p.tt
    lead := lead
    coldLead := coldLeadFor h lead
    capped := decide (h.imax < want)
    selectRule := select
    trimRule := trim
    policy := policy
    capture := none }

/-- The result of a supply check (R39 to R41). -/
inductive SupplyResult where
  | clear
  | derated (f : Nat)
  | starved (f : Nat)
deriving DecidableEq, Repr

/-- The derate factor (R40). -/
def derateFactor (boost : Nat) (h : Int) : Nat :=
  if 0 < h then h.toNat * 256 / boost else 0

/-- The supply check of a plan against a headroom (R39 to R41). -/
def supplyCheck (p : Plan) (h : Int) : SupplyResult :=
  if (p.boost : Int) ≤ h then .clear
  else
    let f := derateFactor p.boost h
    if deratedCurrent p.sustain f ≤ p.ith then .starved f else .derated f

/-- The burst with the result of its supply check recorded (R40, R41, R141). -/
def Burst.withSupply (b : Burst) : SupplyResult → Burst
  | .clear => b
  | .derated f => { b with derate := some f, derated := true }
  | .starved f => { b with derate := some f }

/-- The heat estimate of a burst at its currents and a lead (R43). -/
def heatEstimate (b : Burst) (lead : Nat) : Nat :=
  let i := b.currents
  let k := min b.plan.boostLen b.length
  (i.preheat * lead + i.boost * k + i.sustain * (b.length - k) + i.preheat * b.plan.tailLen) / Config.heatUnit

/-- The heat check: the level and the estimate fit under the ceiling (R148). -/
def heatFits (h : Head) (level estimate : Nat) : Bool := level + estimate ≤ h.ceiling

/-- The light-up estimate after a sampled completion (R46). -/
def updatedLightEst (est m : Nat) : Nat :=
  clampTo 0 2047 ((est : Int) + Int.tdiv ((m : Int) - (est : Int)) 4)

end Sys2Proof.Machine
end

