-- ==== Sys2Proof/Machine/Classify.lean ====
section
/-! DEFINITION. Burst classification (spec/06): the key, the two lookups, the counters and the capture flags. -/

namespace Sys2Proof.Machine

/-- The code of a kind (spec/10.5), which is its place in a rule's kind set. -/
def WriteKind.code : WriteKind → Nat
  | .data => 0
  | .rewrite => 1
  | .erase => 2
  | .test => 3

/-- A classification key (R116). -/
structure Key where
  head : Fin 24
  channel : Chan
  kind : WriteKind
  rangeBits : Byte
deriving DecidableEq, Repr

/-- One Range Checker's bit (R117): a checker whose low bound is above its high bound is disabled. -/
def RangeChecker.accepts (k : RangeChecker) (track offset : Nat) (temp : Int) : Bool :=
  let v : Int :=
    match k.field with
    | .track => track
    | .temperature => temp
    | .offset => offset
  decide (k.low ≤ v ∧ v ≤ k.high)

/-- The eight range bits of a key (R116, R117). -/
def rangeBitsOf (ks : Vector RangeChecker 8) (track offset : Nat) (temp : Int) : Byte :=
  (List.finRange 8).foldl
    (fun acc i => if ks[i].accepts track offset temp then acc ||| (1#8 <<< i.val) else acc) 0#8

/-- A rule accepts the channel of a key (R121, condition 3). -/
def ChanMatch.accepts : ChanMatch → Chan → Bool
  | .any, _ => true
  | .only c, d => c == d

/-- A rule matches a key (R121). -/
def RuleEntry.accepts (r : RuleEntry) (k : Key) : Bool :=
  (BitVec.ofNat 5 k.head.val &&& r.headMask) == (r.headValue &&& r.headMask)
    && r.kinds.getLsbD k.kind.code
    && r.channel.accepts k.channel
    && (k.rangeBits &&& r.rangeMask) == (r.rangeValue &&& r.rangeMask)

/-- The entry is of the SELECT stage (R120). -/
def RuleEntry.isSelect (r : RuleEntry) : Bool :=
  match r.action with
  | .select _ _ => true
  | .trim _ _ => false

/-- The first valid entry of a stage, in ascending index order, that matches the key (R122, R123). -/
def lookup (rules : Vector RuleEntry 64) (select : Bool) (k : Key) : Option (Fin 64) :=
  (List.finRange 64).find? fun i => rules[i].valid && rules[i].isSelect == select && rules[i].accepts k

/-- What classification chose for an entry (R124). -/
structure Classified where
  key : Key
  selectRule : Option (Fin 64)
  trimRule : Option (Fin 64)
  profile : Fin 16
  policy : Policy
  selectCounter : Option (Fin 16)
  dP : Int
  dL : Int
  trimCounter : Option (Fin 16)
deriving DecidableEq, Repr

/-- The SELECT action: the chosen entry's, or the channel's default (R122). -/
def selectAction (s : State) (c : Chan) (i : Option (Fin 64)) : Fin 16 × Policy × Option (Fin 16) :=
  let cfg := (s.chan c).config
  match i with
  | none => (cfg.profile, cfg.policy, cfg.counter)
  | some j =>
    match s.rules[j].action with
    | .select p u => (p, u, s.rules[j].counter)
    | .trim _ _ => (cfg.profile, cfg.policy, cfg.counter)

/-- The TRIM action: the chosen entry's, or no trims and no counter (R123). -/
def trimAction (s : State) (i : Option (Fin 64)) : Int × Int × Option (Fin 16) :=
  match i with
  | none => (0, 0, none)
  | some j =>
    match s.rules[j].action with
    | .trim a b => (a, b, s.rules[j].counter)
    | .select _ _ => (0, 0, none)

/-- Classify an entry of a head and channel (R116 to R124). -/
def classify (s : State) (h : Fin 24) (c : Chan) (kind : WriteKind) (track offset : Nat) : Classified :=
  let key : Key := ⟨h, c, kind, rangeBitsOf s.checkers track offset (s.chan c).temp⟩
  let i := lookup s.rules true key
  let j := lookup s.rules false key
  let sel := selectAction s c i
  let tr := trimAction s j
  { key := key
    selectRule := i
    trimRule := j
    profile := sel.1
    policy := sel.2.1
    selectCounter := sel.2.2
    dP := tr.1
    dL := tr.2.1
    trimCounter := tr.2.2 }

/-- Increment a Rule Counter, which wraps (R131). -/
def bumpCounter (i : Option (Fin 16)) (v : Vector U32 16) : Vector U32 16 :=
  match i with
  | none => v
  | some k => v.set k (v[k] + 1)

/-- Increment the counters of both actions, once per distinct counter (R19 step 3, R131). -/
def countAdmission (k : Classified) (v : Vector U32 16) : Vector U32 16 :=
  let v1 := bumpCounter k.selectCounter v
  if k.trimCounter = k.selectCounter then v1 else bumpCounter k.trimCounter v1

/-- The chosen entry's capture flag is set (R128). -/
def captures (rules : Vector RuleEntry 64) (i : Option (Fin 64)) : Bool :=
  match i with
  | none => false
  | some j => rules[j].capture

/-- Clear a chosen entry's capture flag (R128). -/
def clearCapture (i : Option (Fin 64)) (rules : Vector RuleEntry 64) : Vector RuleEntry 64 :=
  match i with
  | none => rules
  | some j => rules.set j { rules[j] with capture := false }

/-- The capture mark of an admission, when at least one chosen entry's flag is set (R128). -/
def captureMarkOf (s : State) (k : Classified) : Option CaptureMark :=
  let a := captures s.rules k.selectRule
  let b := captures s.rules k.trimRule
  if a || b then some ⟨a, b, k.key.rangeBits⟩ else none

end Sys2Proof.Machine
end

