-- ==== Sys2Proof/Machine/Flags.lean ====
section
/-! DEFINITION. Flags and output levels: the flags of a burst (R10), the flags bytes of the notices (R175, R186, R187),
the veto lines (R91) and the drive lanes (R67, R68). -/

namespace Sys2Proof.Machine

/-- The flags a burst carries (R10). SAMPLED goes with a measured latency. -/
def Burst.flags (b : Burst) : BurstFlags where
  derated := b.derated
  capped := b.plan.capped
  coldStart := b.leadUsed.any fun l => l.cold
  hotChain := b.hotChain
  underheat := b.underheat
  sampled := b.latency.isSome

/-- A flag in its place of a flags byte. -/
def bitAt (i : Nat) (b : Bool) : Byte := if b then 1#8 <<< i else 0#8

/-- Bits 0 to 5 of a BURST_DONE flags byte (R187). -/
def BurstFlags.byte (f : BurstFlags) : Byte :=
  bitAt 0 f.derated ||| bitAt 1 f.capped ||| bitAt 2 f.coldStart ||| bitAt 3 f.hotChain ||| bitAt 4 f.underheat
    ||| bitAt 5 f.sampled

/-- The level that R91 gives a channel's veto line. -/
def vetoLevel (x : Channel) (safe : Bool) : Bool :=
  (x.wgate && !x.seq.laser.writing) || !x.online || safe

/-- What R67 gives a channel's drive lane to carry. -/
def laneLevel (x : Channel) : Lane :=
  match x.seq.laser with
  | .dark => ⟨none, 0⟩
  | .bias => ⟨x.seq.selected, x.seq.biasCurrent⟩
  | .preheat | .hold | .boost | .sustain | .tail =>
    ⟨x.seq.selected, (x.activeBurst.map (litCurrent x.seq.laser)).getD 0⟩

/-- A channel with its two output lines at the levels its state gives them. -/
def Channel.driven (x : Channel) (safe : Bool) : Channel :=
  { x with seq := { x.seq with veto := vetoLevel x safe, lane := laneLevel x } }

/-- Bring both channels' output lines to the levels in force after an event (R68, R91): each event makes one drive-lane
update at most, carrying the state in force after it. -/
def driveOutputs (s : State) : State :=
  { s with ch0 := s.ch0.driven s.safe.isSome, ch1 := s.ch1.driven s.safe.isSome }

end Sys2Proof.Machine
end

