-- ==== Sys2Proof/Machine/Operands.lean ====
section
/-! DEFINITION. The operand forms of the link: the codes of every enumerated field (spec/10.5) both ways, the clamping of the
configuration requests (R183), and the byte layouts of every reply and notice (spec/10.3, spec/10.4). -/

namespace Sys2Proof.Machine

/-! ## Reading fields -/

/-- A channel number (0, 1). -/
def chanOf (b : Byte) : Option Chan :=
  if b = 0 then some .c0 else if b = 1 then some .c1 else none

/-- A table index below `n`: indices are refused and never clamped (R183). -/
def indexOf (n : Nat) (b : Byte) : Option (Fin n) :=
  if h : b.toNat < n then some ⟨b.toNat, h⟩ else none

/-- A kind (0 DATA, 1 REWRITE, 2 ERASE, 3 TEST). -/
def kindOf (b : Byte) : Option WriteKind :=
  if b = 0 then some .data else if b = 1 then some .rewrite else if b = 2 then some .erase
  else if b = 3 then some .test else none

/-- An underheat policy (0 VETO, 1 ACCEPT). -/
def policyOf (b : Byte) : Option Policy :=
  if b = 0 then some .veto else if b = 1 then some .accept else none

/-- A filter setting (0 OFF, 1 8 ticks, 2 32 ticks, 3 128 ticks). -/
def filterOf (b : Byte) : Option Filter :=
  if b = 0 then some .off else if b = 1 then some .ticks8 else if b = 2 then some .ticks32
  else if b = 3 then some .ticks128 else none

/-- An on/off field (0 off, 1 on). -/
def onOffOf (b : Byte) : Option Bool :=
  if b = 0 then some false else if b = 1 then some true else none

/-- A counter field (0..15, or 0xFF NONE). -/
def counterOf (b : Byte) : Option (Option (Fin 16)) :=
  if b = 0xFF then some none else (indexOf 16 b).map some

/-- A channel match (0 channel 0, 1 channel 1, 2 ANY). -/
def chanMatchOf (b : Byte) : Option ChanMatch :=
  if b = 2 then some .any else (chanOf b).map .only

/-- A Range Checker field (0 TRACK, 1 TEMPERATURE, 2 OFFSET). -/
def checkerFieldOf (b : Byte) : Option CheckerField :=
  if b = 0 then some .track else if b = 1 then some .temperature else if b = 2 then some .offset else none

/-- A window (0 OPEN_100, 1 OPEN_75, 2 OPEN_50). -/
def windowOf (b : Byte) : Option Window :=
  if b = 0 then some .open100 else if b = 1 then some .open75 else if b = 2 then some .open50 else none

/-- A phase (0 A, 1 B). -/
def phaseOf (b : Byte) : Option Phase :=
  if b = 0 then some .a else if b = 1 then some .b else none

/-- A clear choice (0 READ, 1 READ_AND_CLEAR): whether the counters are cleared. -/
def clearOf (b : Byte) : Option Bool := onOffOf b

/-! ## Clamping (R183) -/

/-- The result of a performed request: CLAMPED when an applied value differs from the one sent. -/
def clampCode (sentApplied : List (Int × Int)) : Code :=
  if sentApplied.any fun p => p.1 != p.2 then .clamped else .ok

/-- The bias hold: 0, or 16 to 65535 wedges; 1 to 15 is clamped to 16 (R52). -/
def clampBiasHold (x : Nat) : Nat := if x = 0 then 0 else max 16 x

/-- A profile stored in a record is numeric: it is clamped to 0..15 (R183). -/
def clampProfile (b : Byte) : Fin 16 := ⟨min b.toNat 15, by omega⟩

/-- The configuration a CHANNEL_SET applies, with its result; `none` when an enumerated field is undefined (R51, R52). -/
def channelSetConfig (f : ChannelSetFields) : Option (Code × ChanConfig) :=
  match filterOf f.syncFilter, filterOf f.guardFilter, filterOf f.lightFilter, policyOf f.policy, onOffOf f.reportOk,
    counterOf f.counter with
  | some sf, some gf, some lf, some u, some ro, some k =>
    let cfg : ChanConfig :=
      { w := clampNat 16 1023 f.w.toNat
        pnom := clampNat 1024 65535 f.pnom.toNat
        tw := clampNat 16 4095 f.tw.toNat
        m := clampNat 1 15 f.m.toNat
        syncFilter := sf
        guardFilter := gf
        lightFilter := lf
        early := clampNat 0 4095 f.early.toNat
        late := clampNat 0 4095 f.late.toNat
        lightGrace := clampNat 0 4095 f.lightGrace.toNat
        overrun := clampNat 0 4095 f.overrun.toNat
        spacing := clampNat 16 8191 f.spacing.toNat
        biasHold := clampBiasHold f.biasHold.toNat
        reportOk := ro
        profile := clampProfile f.profile
        policy := u
        counter := k }
    some
      (clampCode
        [(f.w.toNat, cfg.w), (f.pnom.toNat, cfg.pnom), (f.tw.toNat, cfg.tw), (f.m.toNat, cfg.m),
          (f.early.toNat, cfg.early), (f.late.toNat, cfg.late), (f.lightGrace.toNat, cfg.lightGrace),
          (f.overrun.toNat, cfg.overrun), (f.spacing.toNat, cfg.spacing), (f.biasHold.toNat, cfg.biasHold),
          (f.profile.toNat, cfg.profile.val)], cfg)
  | _, _, _, _, _, _ => none

/-- The head record with a HEAD_SET's fields written as clamped (R95, R98). The other fields keep their values. -/
def writeHeadFields (f : HeadSetFields) (c : Chan) (r : Head) : Head :=
  { r with
    channel := c
    ith25 := clampNat 0 1023 f.ith25.toNat
    ktemp := f.ktemp.toInt
    gain := clampNat 16 255 f.gain.toNat
    imax := clampNat 0 1023 f.imax.toNat
    ibias := clampNat 0 1023 f.ibias.toNat
    lightEst := clampNat 0 2047 f.lightEst.toNat
    coldExtra := clampNat 0 4095 f.coldExtra.toNat
    lt := clampInt (-64) 63 f.lt.toInt
    samplePeriod := f.samplePeriod.toNat
    strikeLimit := clampNat 1 7 f.strikeLimit.toNat
    ceiling := clampNat 1 65535 f.ceiling.toNat
    leak := f.leak.toNat
    wearThreshold := f.wearThreshold.toNat }

/-- The result of a HEAD_SET: CLAMPED when a clamp acted (R98). -/
def headSetCode (f : HeadSetFields) (r : Head) : Code :=
  clampCode
    [(f.ith25.toNat, r.ith25), (f.gain.toNat, r.gain), (f.imax.toNat, r.imax), (f.ibias.toNat, r.ibias),
      (f.lightEst.toNat, r.lightEst), (f.coldExtra.toNat, r.coldExtra), (f.lt.toInt, r.lt),
      (f.strikeLimit.toNat, r.strikeLimit), (f.ceiling.toNat, r.ceiling)]

/-- The profile a PROFILE_SET applies (R114, R115). -/
def profileSetRecord (f : ProfileSetFields) : Profile where
  p := f.p.toNat
  db := f.db.toNat
  kb := clampNat 0 4095 f.kb.toNat
  fp := clampNat 0 16 f.fp.toNat
  lb := clampNat 0 4095 f.lb.toNat
  tt := clampNat 0 4095 f.tt.toNat

/-- The result of a PROFILE_SET (R115). -/
def profileSetCode (f : ProfileSetFields) : Code :=
  let r := profileSetRecord f
  clampCode [(f.kb.toNat, r.kb), (f.fp.toNat, r.fp), (f.lb.toNat, r.lb), (f.tt.toNat, r.tt)]

/-- A bound of a Range Checker as clamped (R119). -/
def clampBound (x : U32) : Int := clampInt (-1048576) 1048575 x.toInt

/-- One write of a RANGE_SET: its checker and the fields it applies; `none` when its index or field is undefined (R119). -/
def rangeWriteOf (w : RangeWrite) : Option (Fin 8 × RangeChecker) :=
  match indexOf 8 w.index, checkerFieldOf w.field with
  | some i, some k => some (i, ⟨k, clampBound w.low, clampBound w.high⟩)
  | _, _ => none

/-- All writes of a RANGE_SET, in message order; `none` when any is undefined (R119). -/
def rangeWritesOf : List RangeWrite → Option (List (Fin 8 × RangeChecker))
  | [] => some []
  | w :: ws =>
    match rangeWriteOf w, rangeWritesOf ws with
    | some x, some xs => some (x :: xs)
    | _, _ => none

/-- The result of a RANGE_SET (R119). -/
def rangeSetCode (ws : List RangeWrite) : Code :=
  clampCode (ws.flatMap fun w => [(w.low.toInt, clampBound w.low), (w.high.toInt, clampBound w.high)])

/-- The action a RULE_SET writes, with the values sent and applied; the fields of the stage the entry does not have are
ignored (R125, R185). `none` when the stage, or a SELECT entry's policy, is undefined. -/
def ruleActionOf (f : RuleSetFields) : Option (RuleAction × List (Int × Int)) :=
  if f.stage = 0 then
    (policyOf f.policy).map fun u =>
      (.select (clampProfile f.profile) u, [((f.profile.toNat : Int), ((clampProfile f.profile).val : Int))])
  else if f.stage = 1 then
    let a := clampInt (-64) 63 f.dP.toInt
    let b := clampInt (-512) 511 f.dL.toInt
    some (.trim a b, [(f.dP.toInt, a), (f.dL.toInt, b)])
  else none

/-- The entry a RULE_SET writes, with its result; `none` when an enumerated field is undefined (R125, R126). -/
def ruleSetEntry (f : RuleSetFields) : Option (Code × RuleEntry) :=
  match ruleActionOf f, chanMatchOf f.channel, counterOf f.counter with
  | some (act, sent), some cm, some k =>
    if 16 ≤ f.kinds.toNat then none
    else
      let hv := min f.headValue.toNat 31
      let hm := min f.headMask.toNat 31
      some
        (clampCode ([((f.headValue.toNat : Int), (hv : Int)), ((f.headMask.toNat : Int), (hm : Int))] ++ sent),
          { valid := f.flags.getLsbD 0
            headValue := BitVec.ofNat 5 hv
            headMask := BitVec.ofNat 5 hm
            kinds := f.kinds.setWidth 4
            channel := cm
            rangeValue := f.rangeValue
            rangeMask := f.rangeMask
            counter := k
            action := act
            capture := f.flags.getLsbD 1 })
  | _, _, _ => none

/-! ## Codes sent (spec/10.5) -/

/-- The code of a channel. -/
def chanCode : Chan → Byte
  | .c0 => 0
  | .c1 => 1

/-- The code of a kind. -/
def WriteKind.byte (k : WriteKind) : Byte := BitVec.ofNat 8 k.code

/-- The code of an outcome. -/
def Result.code : Result → Byte
  | .written => 0
  | .missed => 1
  | .vetoed => 2
  | .aborted => 3

/-- The code of a reason. -/
def Reason.code : Reason → Byte
  | .none => 0
  | .underheat => 1
  | .hot => 2
  | .starved => 3
  | .guard => 4
  | .lightLoss => 5
  | .lightAbsent => 6
  | .overrun => 7

/-- The code of an underheat policy. -/
def Policy.code : Policy → Byte
  | .veto => 0
  | .accept => 1

/-- The code of a filter setting. -/
def Filter.code : Filter → Byte
  | .off => 0
  | .ticks8 => 1
  | .ticks32 => 2
  | .ticks128 => 3

/-- The code of an on/off field. -/
def onOff (b : Bool) : Byte := if b then 1 else 0

/-- The code of a counter field. -/
def counterCode : Option (Fin 16) → Byte
  | none => 0xFF
  | some i => BitVec.ofNat 8 i.val

/-- The code of a channel match. -/
def ChanMatch.code : ChanMatch → Byte
  | .any => 2
  | .only c => chanCode c

/-- The code of a Range Checker field. -/
def CheckerField.code : CheckerField → Byte
  | .track => 0
  | .temperature => 1
  | .offset => 2

/-- The code of a tracker state. -/
def TrackerState.code : TrackerState → Byte
  | .off => 0
  | .acquiring => 1
  | .locked => 2
  | .coasting => 3

/-- The code of a laser state. -/
def LaserState.code : LaserState → Byte
  | .dark => 0
  | .bias => 1
  | .preheat => 2
  | .hold => 3
  | .boost => 4
  | .sustain => 5
  | .tail => 6

/-- The code of a fault cause. -/
def FaultCause.code : FaultCause → Byte
  | .lightAbsent => 1
  | .dropout => 2

/-- The code of a head state. -/
def HeadState.code : HeadState → Byte
  | .absent => 0
  | .ready => 1
  | .parked => 2
  | .fault _ => 3

/-- The fault cause field of a head, NONE outside FAULT. -/
def HeadState.causeCode : HeadState → Byte
  | .fault c => c.code
  | .absent => 0
  | .ready => 0
  | .parked => 0

/-- The code of a SYNC_CHANGE cause. -/
def SyncCause.code : SyncCause → Byte
  | .acquired => 0
  | .coasting => 1
  | .lost => 2
  | .indexSlip => 3

/-- The code of a Safe Dark cause. -/
def SafeCause.code : SafeCause → Byte
  | .earlyTend => 1
  | .expiry => 2
  | .supply => 3

/-- The code of a Safety Timer state. -/
def TimerState.code : TimerState → Byte
  | .stopped => 0
  | .running => 1
  | .warned => 2

/-- The code of a window. -/
def Window.code : Window → Byte
  | .open100 => 0
  | .open75 => 1
  | .open50 => 2

/-- The code of a phase or pointer. -/
def Phase.code : Phase → Byte
  | .a => 0
  | .b => 1

/-- The code of a TEND answer. -/
def TendAnswer.code : TendAnswer → Byte
  | .half => 0
  | .restarted => 1
  | .early => 2
  | .outOfStep => 3

/-- The code of a RESET scope. -/
def Scope.code : Scope → Byte
  | .full => 0
  | .run => 1

/-- The result codes (section 10.2). -/
def Code.byte : Code → Byte
  | .ok => 0x00
  | .clamped => 0x01
  | .badKind => 0x10
  | .badLength => 0x11
  | .fieldRange => 0x12
  | .busy => 0x13
  | .noSync => 0x20
  | .tooLate => 0x21
  | .overlap => 0x22
  | .queueFull => 0x23
  | .duplicateTag => 0x24
  | .headUnavailable => 0x25
  | .headBusy => 0x26
  | .underdrive => 0x27
  | .safeDark => 0x28
  | .wrongState => 0x29
  | .notFound => 0x2A

/-! ## Bytes sent (R182) -/

/-- A two-byte field, least significant byte first. -/
def bytes16 (v : U16) : List Byte := [v.setWidth 8, (v >>> 8).setWidth 8]

/-- A four-byte field, least significant byte first. -/
def bytes32 (v : U32) : List Byte :=
  [v.setWidth 8, (v >>> 8).setWidth 8, (v >>> 16).setWidth 8, (v >>> 24).setWidth 8]

/-- A `u8` field. -/
def u8 (n : Nat) : List Byte := [BitVec.ofNat 8 n]
/-- A `u16` field. -/
def u16 (n : Nat) : List Byte := bytes16 (BitVec.ofNat 16 n)
/-- A `u32` field. -/
def u32 (n : Nat) : List Byte := bytes32 (BitVec.ofNat 32 n)
/-- An `s8` field. -/
def s8 (i : Int) : List Byte := [BitVec.ofInt 8 i]
/-- An `s16` field. -/
def s16 (i : Int) : List Byte := bytes16 (BitVec.ofInt 16 i)
/-- An `s32` field. -/
def s32 (i : Int) : List Byte := bytes32 (BitVec.ofInt 32 i)

/-- A selected head, 0xFF for NONE. -/
def headOrNone : Option (Fin 24) → Byte
  | none => 0xFF
  | some h => BitVec.ofNat 8 h.val

/-- A rule index, 0xFF for DEFAULT or NONE. -/
def ruleOrNone : Option (Fin 64) → Byte
  | none => 0xFF
  | some i => BitVec.ofNat 8 i.val

/-- The 26 bytes of a channel configuration after its channel number (spec/10, Channel configuration). -/
def configBytes (g : ChanConfig) : List Byte :=
  u16 g.w ++ u16 g.pnom ++ u16 g.tw ++ u8 g.m ++ [g.syncFilter.code, g.guardFilter.code, g.lightFilter.code] ++
    [counterCode g.counter] ++ u16 g.early ++ u16 g.late ++ u16 g.lightGrace ++ u16 g.overrun ++ u16 g.spacing ++
    u16 g.biasHold ++ [onOff g.reportOk] ++ u8 g.profile.val ++ [g.policy.code]

/-- The calibration block of a head (spec/10, Head record). -/
def calibrationBytes (r : Head) : List Byte :=
  u16 r.ith25 ++ s8 r.ktemp ++ u8 r.gain ++ u16 r.imax ++ u16 r.ibias ++ u16 r.lightEst ++ u16 r.coldExtra ++ s8 r.lt ++
    u16 r.samplePeriod ++ u8 r.strikeLimit ++ u16 r.ceiling ++ u8 r.leak ++ u32 r.wearThreshold

/-- The record view of a head (spec/10, Head record). -/
def headBytes (h : Fin 24) (r : Head) : List Byte :=
  u8 h.val ++ [r.state.code, r.state.causeCode, chanCode r.channel] ++ calibrationBytes r ++ u16 r.sampleCountdown ++
    u8 r.strikes ++ u16 r.bucket ++ u32 r.lifetime ++ [bitAt 0 r.wearNoticed]

/-- The 9-byte profile record (spec/10, Profile record). -/
def profileBytes (p : Profile) : List Byte := u8 p.p ++ u8 p.db ++ u16 p.kb ++ u8 p.fp ++ u16 p.lb ++ u16 p.tt

/-- A Range Checker in the RANGE_SET reply (spec/10, Range checker write). -/
def checkerBytes (k : RangeChecker) : List Byte := [k.field.code] ++ s32 k.low ++ s32 k.high

/-- The stage of a rule and its action fields at offsets 10 to 14, the other stage's fields at their reset values (R120,
R185). -/
def actionBytes : RuleAction → Byte × List Byte
  | .select p u => (0, u8 p.val ++ [u.code] ++ s8 0 ++ s16 0)
  | .trim a b => (1, u8 0 ++ [Policy.veto.code] ++ s8 a ++ s16 b)

/-- The 15-byte rule entry (spec/10, Rule entry). -/
def ruleBytes (i : Fin 64) (r : RuleEntry) : List Byte :=
  u8 i.val ++ [bitAt 0 r.valid ||| bitAt 1 r.capture, (actionBytes r.action).1] ++
    [r.headValue.setWidth 8, r.headMask.setWidth 8, r.kinds.setWidth 8, r.channel.code, r.rangeValue, r.rangeMask,
      counterCode r.counter] ++ (actionBytes r.action).2

/-- A channel block of the STATUS reply. -/
def channelViewBytes (v : ChannelView) : List Byte :=
  [onOff v.online, v.tracker.code] ++ u16 v.wedge ++ u16 v.pest ++ u8 v.miss ++ [v.laser.code, headOrNone v.selected] ++
    u8 v.count ++ u16 v.committed ++ [onOff v.veto]

/-- An indication and its u16 value, 0 when none. -/
def pendingBytes : Option Nat → List Byte
  | none => [0] ++ u16 0
  | some p => [1] ++ u16 p

/-- A Safe Dark cause, NONE when the flag is clear. -/
def safeCode : Option SafeCause → Byte
  | none => 0
  | some c => c.code

/-- The payload of a reply: its result code and its fields (R184, section 10.3). -/
def Reply.payload : Reply → List Byte
  | .code r => [r.byte]
  | .ident =>
    [Code.ok.byte] ++ u8 0x57 ++ u16 0x2420 ++ u8 1 ++ u8 24 ++ u8 2 ++ u8 20 ++ u8 64 ++ u8 16 ++ u8 8 ++ u8 16 ++ u8 32
  | .status v =>
    [Code.ok.byte] ++ channelViewBytes v.ch0 ++ channelViewBytes v.ch1 ++
      [safeCode v.safe, v.timer.code, v.pointer.code] ++ u16 v.elapsedMs ++ u16 v.limit ++ pendingBytes v.pending ++
      s8 v.temp0 ++ s8 v.temp1 ++ [bitAt 0 v.safe.isSome ||| bitAt 1 v.overflow]
  | .reset sc held => [Code.ok.byte, sc.code] ++ u8 held
  | .channelSet r c g => [r.byte, chanCode c] ++ configBytes g
  | .channelOffline n => [Code.ok.byte] ++ u8 n
  | .conditions r t0 t1 l p => [r.byte] ++ s8 t0 ++ s8 t1 ++ u16 l ++ pendingBytes p
  | .head r h x => [r.byte] ++ headBytes h x
  | .headState r st n => [r.byte, st.code] ++ u8 n
  | .profile r i p => [r.byte] ++ u8 i.val ++ profileBytes p
  | .ranges r ks => [r.byte] ++ ks.toList.flatMap checkerBytes
  | .rule r i e => [r.byte] ++ ruleBytes i e
  | .counters first span vs => [Code.ok.byte] ++ u8 first ++ u8 span ++ vs.flatMap bytes32
  | .plan rs => [Code.ok.byte] ++ u8 rs.length ++ rs.map Code.byte
  | .cancel r a b => [r.byte] ++ u8 a ++ u8 b
  | .safetySet r p w e st => [r.byte] ++ u16 p ++ [w.code, e.code, st.code]
  | .tend a p st ms => [Code.ok.byte, a.code, p.code, st.code] ++ u16 ms
  | .resume c => [Code.ok.byte, c.code]

/-- The kind byte of a notice (section 10.2). -/
def Notice.kind : Notice → Byte
  | .burstDone _ => 0x40
  | .unplannedGate _ _ _ => 0x41
  | .syncChange _ _ _ _ _ _ _ => 0x42
  | .headFault _ _ _ _ _ => 0x43
  | .capture _ => 0x44
  | .safetyWarning _ _ _ => 0x45
  | .safeDark _ _ _ => 0x46
  | .wear _ _ _ _ => 0x47

/-- Bits 0 to 5 of a notice's flags byte: a BURST_DONE's burst flags, 0 in every other notice (R186, R187). -/
def Notice.flagBits : Notice → Byte
  | .burstDone d => d.flags.byte
  | .unplannedGate _ _ _ => 0
  | .syncChange _ _ _ _ _ _ _ => 0
  | .headFault _ _ _ _ _ => 0
  | .capture _ => 0
  | .safetyWarning _ _ _ => 0
  | .safeDark _ _ _ => 0
  | .wear _ _ _ _ => 0

/-- The code of what a burst captured (1 SELECT, 2 TRIM, 3 BOTH). -/
def capturedCode (k : CaptureMark) : Byte := bitAt 0 k.select ||| bitAt 1 k.trim

/-- The fields of a notice after its flags byte (section 10.4). An absent field is sent as 0 (R186). -/
def Notice.fields : Notice → List Byte
  | .burstDone d =>
    bytes16 d.tag ++ u8 d.head.val ++ [chanCode d.channel, d.verdict.result.code, d.verdict.reason.code] ++
      s16 ((d.gate.map fun g => g.1).getD 0) ++ u32 ((d.gate.map fun g => g.2).getD 0) ++ u16 d.sustain ++ u16 d.heat ++
      u16 (d.latency.getD 0)
  | .unplannedGate c l t => [chanCode c, l.code, onOff t.isSome] ++ u32 (t.getD 0)
  | .syncChange c k st w p m n => [chanCode c, k.code, st.code] ++ u16 w ++ u16 p ++ u8 m ++ u8 n
  | .headFault h c k st n => u8 h.val ++ [chanCode c, k.code] ++ u8 st ++ u8 n
  | .capture i =>
    bytes16 i.tag ++ u8 i.head.val ++
      [chanCode i.channel, i.kind.byte, ruleOrNone i.plan.selectRule, ruleOrNone i.plan.trimRule, capturedCode i.mark,
        i.mark.rangeBits] ++
      u8 i.profile.val ++ s8 i.dP ++ s16 i.dL ++ u16 i.plan.ith ++ u16 i.plan.sustain ++ u16 i.plan.boost ++
      u16 i.plan.preheat ++ u16 i.plan.bias ++ u16 i.plan.boostLen ++ u16 i.plan.tailLen ++ u16 i.plan.lead ++
      u16 i.plan.coldLead ++ [bitAt 0 i.plan.capped ||| bitAt 1 (i.plan.policy == .accept)]
  | .safetyWarning p w ptr => u16 p ++ [w.code, ptr.code]
  | .safeDark c a b => [c.code] ++ u8 a ++ u8 b
  | .wear h c l t => u8 h.val ++ [chanCode c] ++ u32 l ++ u32 t

/-- The payload of a notice: its flags byte, with the overflow indication in bit 7, then its fields (R186). -/
def QueuedNotice.payload (q : QueuedNotice) : List Byte :=
  (q.notice.flagBits ||| bitAt 7 q.overflow) :: q.notice.fields

/-- The frame of a notice: its kind, tag 0 and payload (R166, R169). -/
def QueuedNotice.frame (q : QueuedNotice) : Frame := ⟨q.notice.kind, 0, q.payload⟩

/-- The frame of a reply (R169). -/
def QueuedReply.frame (q : QueuedReply) : Frame := ⟨q.kind, q.tag, q.reply.payload⟩

/-- Shift one bit into the check register (R167): generator x^16 + x^12 + x^5 + 1, most significant bit first. -/
def crcBit (r : U16) (b : Bool) : U16 :=
  if r.getMsbD 0 != b then (r <<< 1) ^^^ 0x1021#16 else r <<< 1

/-- Shift one byte into the check register, its most significant bit first (R167). -/
def crcByte (r : U16) (x : Byte) : U16 := (List.range 8).foldl (fun acc i => crcBit acc (x.getMsbD i)) r

/-- The check sequence of the bytes from length to the last payload byte (R167). -/
def crc (bytes : List Byte) : U16 := bytes.foldl crcByte 0xFFFF#16

/-- The bytes the check covers: length, kind, tag and payload (R166). -/
def frameBody (f : Frame) : List Byte := BitVec.ofNat 8 (f.payload.length + 2) :: f.kind :: f.tag :: f.payload

/-- The bytes of a frame on the line (R166, R167): the start byte, the body, and the check sequence high byte first. -/
def frameWire (f : Frame) : List Byte :=
  0xA6#8 :: (frameBody f ++ [(crc (frameBody f) >>> 8).setWidth 8, (crc (frameBody f)).setWidth 8])

/-! ## Characters on the line (R165) -/

/-- The byte a received character carries: its data bits, the least significant first (R165). -/
def charData (k : Character) : Byte := k.levels.setWidth 8

/-- The level of a received character's stop bit; a low one makes a bad character (R165). -/
def charStop (k : Character) : Bool := k.levels.getLsbD 8

/-- The ten levels a byte is sent as, in their order: a low start bit, the data bits with the least significant first, and
a high stop bit (R165). -/
def charLevels (b : Byte) : List Bool := false :: ((List.range 8).map b.getLsbD ++ [true])

/-- The levels a frame is sent as: those of its bytes back to back (R165, R166). -/
def frameLevels (f : Frame) : List Bool := (frameWire f).flatMap charLevels

end Sys2Proof.Machine
end

