-- ==== Sys2Proof/Machine/Sequencer.lean ====
section
/-! DEFINITION. The Laser Sequencer (spec/04) with the completion of bursts (R11), the flushes (R22, R23) and the faults of
heads (R111): the shared operations that the line events, the timed events and the requests are made of. -/

namespace Sys2Proof.Machine

/-! ## Phases -/

/-- A burst's accumulation with one more phase added: the current applied times the ticks it lasted (R44). -/
def Burst.addPhase (l : LaserState) (ticks : Nat) (b : Burst) : Burst :=
  { b with acc := min (b.acc + litCurrent l b * ticks) Config.maxAcc }

/-- End the running phase: a lit phase is added to the active burst's accumulation (R44). -/
def endPhase (c : Chan) (s : State) : State :=
  let q := (s.chan c).seq
  let s1 := if q.laser.lit then modActive c (Burst.addPhase q.laser (s.now - q.phaseStart)) s else s
  s1.modSeq c fun p => { p with phaseStart := s.now }

/-- Charge a burst's whole accumulation to the head it was lit on (R45, R149). -/
def chargeBurst (b : Burst) (s : State) : State := charge b.head (heatUnits b.acc) s

/-- The laser goes DARK: its commitment falls to 0 and every phase, deadline and selection is dropped (R92). -/
def goDark (c : Chan) (s : State) : State :=
  setCommit c 0 <| s.modSeq c fun q =>
    { q with
      laser := .dark
      selected := none
      active := .idle
      biasCurrent := 0
      biasCount := 0
      light := .none
      phaseEnd := none
      overrunAt := none }

/-- The laser enters TAIL for the active burst's Tt (R81, R82, R87, R90, R93). -/
def enterTail (c : Chan) (s : State) : State :=
  let s1 := endPhase c s
  match (s1.chan c).activeBurst with
  | none => s1
  | some b =>
    s1.modSeq c fun q => { q with laser := .tail, phaseEnd := some (s.now + b.plan.tailLen), overrunAt := none }

/-- The front burst's tail runs on without it, once it is removed (R93). -/
def detachFront (c : Chan) (s : State) : State :=
  match s.front c with
  | none => s
  | some b => s.modSeq c fun q => { q with active := .detached b }

/-! ## Completion -/

/-- A head record after the completion of one of its bursts (R108): the sample or the countdown, then the strikes. -/
def Head.afterCompletion (r : Head) (b : Burst) (v : Verdict) : Head :=
  let r1 :=
    match b.latency with
    | some m => { r with lightEst := updatedLightEst r.lightEst m, sampleCountdown := r.samplePeriod }
    | none => if v.result = .written then { r with sampleCountdown := r.sampleCountdown - 1 } else r
  if v.result = .written then { r1 with strikes := 0 } else r1

/-- The BURST_DONE notice of a completion (R13). -/
def burstDoneOf (b : Burst) (v : Verdict) (units : Nat) : Notice :=
  .burstDone
    { flags := b.flags
      tag := b.tag
      head := b.head
      channel := b.channel
      verdict := v
      gate := b.gate.map fun g => (g.error, g.stop.getD g.start - g.start)
      sustain := b.currents.sustain
      heat := units
      latency := b.latency }

/-- The completion is reported (R12). -/
def reported (x : Channel) (v : Verdict) : Bool := v.result != .written || x.config.reportOk

/-- Completion of the front burst, steps 1 to 4 of R11. -/
def completeFront (c : Chan) (v : Verdict) (s : State) : State :=
  match s.front c with
  | none => s
  | some b =>
    let s1 := refreshFront c (s.modChan c fun x => { x with queue := x.queue.tail })
    let s2 := chargeBurst b s1
    let s3 := s2.setHead b.head (s2.heads[b.head].afterCompletion b v)
    if reported (s3.chan c) v then placeNotice (burstDoneOf b v (heatUnits b.acc)) s3 else s3

/-- A BARRED front burst completes VETOED once both moments of R79 have passed: its gate or window is over and no tail
runs for it. -/
def completeBarred (c : Chan) (s : State) : State :=
  match s.front c with
  | none => s
  | some b =>
    match b.state with
    | .barred r => if b.barOver && !(s.chan c).frontTail then completeFront c ⟨.vetoed, r⟩ s else s
    | .queued | .heating | .ready | .writing | .cooling _ => s

/-! ## Arming -/

/-- The lead an arming would use in the present rest state (R70): warm from BIAS on the burst's head, cold otherwise. -/
def leadNow (x : Channel) (b : Burst) : LeadUsed :=
  if x.seq.laser = .bias ∧ x.seq.selected = some b.head then ⟨b.plan.lead, false⟩ else ⟨b.plan.coldLead, true⟩

/-- The scheduled start of the front QUEUED burst (R70). -/
def scheduledStart (x : Channel) : Option Int :=
  match x.queue.head?, x.gate with
  | some b, some g =>
    if b.state = .queued ∧ b.decidedBar = none then some (g.time - ((leadNow x b).ticks : Int)) else none
  | _, _ => none

/-- The front burst's scheduled start is reached in a rest state (R71). -/
def armDue (c : Chan) (s : State) : Bool :=
  !(s.chan c).seq.laser.lit && (scheduledStart (s.chan c)).any fun t => t ≤ (s.now : Int)

/-- The front burst is barred at its arming (R72): the laser, its commitment and the lane stay as they are, and the bias
hold count returns to 0. -/
def barAtArming (c : Chan) (b : Burst) (r : Reason) (s : State) : State :=
  (modFront c (fun _ => { b with state := .barred r }) s).modSeq c fun q => { q with biasCount := 0 }

/-- The arming of a head's burst with this lead is sampled (R107). -/
def samples (h : Head) (l : LeadUsed) : Bool := !l.cold && h.sampleCountdown == 0 && 0 < h.samplePeriod

/-- The light status at PREHEAT entry (R73): SEEN at once when the filtered level is already asserted. -/
def lightAtStart (x : Channel) (now lead : Nat) : LightStatus :=
  if x.lightLine.filtered then .seen else .awaiting (now + lead + x.config.lightGrace)

/-- An arming that passed its checks starts the burst (R73). -/
def startBurst (c : Chan) (b : Burst) (l : LeadUsed) (s : State) : State :=
  let s1 := modFront c
    (fun _ => { b with state := .heating, leadUsed := some l, sampledArming := samples s.heads[b.head] l }) s
  setCommit c b.currents.boost <| s1.modSeq c fun q =>
    { q with
      laser := .preheat
      selected := some b.head
      active := .front
      biasCurrent := 0
      biasCount := 0
      light := lightAtStart (s.chan c) s.now l.ticks
      phaseEnd := some (s.now + l.ticks)
      overrunAt := none
      phaseStart := s.now
      litSince := s.now }

/-- An arming of the front burst (R72): guard check, supply check, heat check, start. The commitment is made with the start, so
one that the heat check would withdraw is never held and adopts no pending limit (notes/assumptions/15.md). -/
def arm (c : Chan) (s : State) : State :=
  let x := s.chan c
  match x.queue.head? with
  | none => s
  | some b =>
    if x.guardLine.filtered then barAtArming c b .guard s
    else
      let r := supplyCheck b.plan (headroom c s)
      let b1 := b.withSupply r
      let l := leadNow x b
      match r with
      | .starved _ => barAtArming c b1 .starved s
      | .clear | .derated _ =>
        if heatFits s.heads[b.head] s.heads[b.head].bucket (heatEstimate b1 l.ticks) then startBurst c b1 l s
        else barAtArming c b1 .hot s

/-! ## Tail end -/

/-- Settle the rest state after a tail of `b` (R85 step 2, R42): BIAS on its head when the head is READY and the bias
fits, DARK otherwise. -/
def settleRest (c : Chan) (b : Burst) (s : State) : State :=
  if s.heads[b.head].state = .ready ∧ (b.plan.bias : Int) ≤ headroom c s then
    setCommit c b.plan.bias <| s.modSeq c fun q =>
      { q with
        laser := .bias
        selected := some b.head
        active := .idle
        biasCurrent := b.plan.bias
        biasCount := 0
        light := .none
        phaseEnd := none
        overrunAt := none }
  else goDark c s

/-- What the end of a tail does to the burst it was run for (R85 step 1). -/
def endTailBurst (c : Chan) (s : State) : State :=
  let s1 := s.modSeq c fun q => { q with active := .idle }
  match (s.chan c).seq.active with
  | .idle => s1
  | .detached b => chargeBurst b s1
  | .front =>
    match s.front c with
    | none => s1
    | some b =>
      match b.state with
      | .cooling v => completeFront c v s1
      | .barred _ => completeBarred c s1
      | .queued | .heating | .ready | .writing => s1

/-- The tail end (R85): the burst, the rest state, and the next arming when it is due. -/
def endTail (c : Chan) (s : State) : State :=
  let s0 := endPhase c s
  match (s0.chan c).activeBurst with
  | none => goDark c s0
  | some b =>
    let s2 := settleRest c b (endTailBurst c s0)
    if armDue c s2 then arm c s2 else s2

/-! ## The gate window -/

/-- The moment lies inside the front burst's gate window, both ends included (R75). A window whose close has been taken is
over, at the tick of its close too (R94). -/
def inWindow (x : Channel) (now : Nat) : Bool :=
  x.gate.any fun g =>
    !g.closed && g.time - (x.config.early : Int) ≤ (now : Int) && (now : Int) ≤ g.time + (x.config.late : Int)

/-- The close of the gate window is due (R75): for a HEATING or READY front burst, and once for a BARRED one. -/
def closeDue (x : Channel) (now : Nat) : Bool :=
  x.gate.any fun g => g.time + (x.config.late : Int) ≤ (now : Int) &&
    x.queue.head?.any fun b =>
      match b.state with
      | .heating | .ready => true
      | .barred _ => !g.closed
      | .queued | .writing | .cooling _ => false

/-- The close of the gate window has been taken. -/
def markClosed (c : Chan) (s : State) : State :=
  s.modChan c fun x => { x with gate := x.gate.map fun g => { g with closed := true } }

/-- The window closes (R75). For a BARRED burst it is the first moment of R79, unless its vetoed gate is still asserted. Once
that moment has passed it stays passed, though a late anchor may move the window after it: the model's choice
(notes/assumptions/30.md). -/
def closeWindow (c : Chan) (s : State) : State :=
  match s.front c with
  | none => s
  | some b =>
    match b.state with
    | .heating | .ready => enterTail c (modFront c (fun d => { d with state := .cooling ⟨.missed, .none⟩ }) s)
    | .barred _ =>
      if b.gateVetoed then markClosed c s
      else completeBarred c (modFront c (fun d => { d with barOver := true }) (markClosed c s))
    | .queued | .writing | .cooling _ => s

/-- A tail of no length is running (R81): its end is taken at once. -/
def zeroTail (q : Sequencer) : Bool :=
  q.laser == .tail && q.phaseEnd.any fun t => t ≤ q.phaseStart

/-- The tag of the front burst whose window's close is due. That close is an event of its own (R75). -/
def dueClose (c : Chan) (s : State) : Option U16 :=
  if closeDue (s.chan c) s.now then (s.front c).map fun b => b.tag else none

/-- What an event brings about at once (R75, R81): the end of a tail of no length, and the close of a window that is past or
present once a burst has armed, been handed over or entered a decided bar. The close for the burst `own`, due already before the
event, stays an event of its own, which another event of its tick may precede (R2, R94). Each round takes one of them; the rounds
a queue can need are bounded by twice its length. -/
def atOnceRounds : Nat → Chan → Option U16 → State → State
  | 0, _, _, s => s
  | n + 1, c, own, s =>
    if zeroTail (s.chan c).seq then atOnceRounds n c own (endTail c s)
    else if dueClose c s = none ∨ dueClose c s = own then s
    else atOnceRounds n c own (closeWindow c s)

/-- Take what follows at once on a channel. -/
def runAtOnce (c : Chan) (own : Option U16) (s : State) : State :=
  atOnceRounds (2 * (s.chan c).queue.length + 2) c own s

/-- A tail is over, and what follows at once is taken (R81, R85). -/
def tailOver (c : Chan) (s : State) : State := runAtOnce c (dueClose c s) (endTail c s)

/-- `f` acts on a channel, and what follows at once is taken. A close that is due after `f` and was not before it follows at once;
one that was due before `f`, for the burst that is still the front one, does not (R75). -/
def atOnce (c : Chan) (f : State → State) (s : State) : State :=
  let s1 := f s
  runAtOnce c (if dueClose c s1 = dueClose c s then dueClose c s else none) s1

/-- Take at once the end of a tail of no length, and what follows from it (R81). -/
def tailAtOnce (c : Chan) (s : State) : State := if zeroTail (s.chan c).seq then tailOver c s else s

/-! ## The write gate -/

/-- A gate is accepted for the front burst (R76, R77): BOOST, or SUSTAIN at once when Kb is 0. -/
def acceptGate (c : Chan) (underheat : Bool) (s : State) : State :=
  let s0 := endPhase c s
  match s0.front c, (s0.chan c).gate with
  | some b, some g =>
    let b1 := { b with
      state := .writing
      gate := some ⟨s.now, (s.now : Int) - g.time, none⟩
      underheat := b.underheat || underheat }
    (modFront c (fun _ => b1) s0).modSeq c fun q =>
      { q with
        laser := if b.plan.boostLen = 0 then .sustain else .boost
        phaseEnd := if b.plan.boostLen = 0 then none else some (s.now + b.plan.boostLen)
        overrunAt := some (s.now + b.length + (s.chan c).config.overrun) }
  | _, _ => s0

/-- An unplanned gate is noted (R78). -/
def unplannedGate (c : Chan) (s : State) : State :=
  let x := s.chan c
  placeNotice (.unplannedGate c x.seq.laser (x.tracker.anchor.map fun a => min (s.now - a.time) Config.max32)) s

/-- A rise of the write gate, once the pin is high (R76 to R79). That a rise inside the window of a BARRED front burst is vetoed for it
while a detached tail runs too, where R93 calls it unplanned, is the model's reading (notes/assumptions/33.md). -/
def gateRise (c : Chan) (s : State) : State :=
  match s.front c with
  | none => unplannedGate c s
  | some b =>
    if inWindow (s.chan c) s.now then
      match b.state with
      | .ready => acceptGate c false s
      | .heating =>
        match b.plan.policy with
        | .accept => acceptGate c true s
        | .veto => enterTail c (modFront c (fun d => { d with state := .cooling ⟨.vetoed, .underheat⟩ }) s)
      | .barred _ => modFront c (fun d => { d with gateVetoed := true, barOver := false }) s
      | .queued | .writing | .cooling _ => unplannedGate c s
    else unplannedGate c s

/-- A write ends WRITTEN with a tail (R81, R84). -/
def writtenTail (c : Chan) (s : State) : State :=
  enterTail c (modFront c (fun b => { b with state := .cooling ⟨.written, .none⟩ }) s)

/-- The hot-chain condition for the writing burst and the second of the queue (R83). -/
def chainable (t : Tracker) (now : Nat) (b1 b2 : Burst) : Bool :=
  b2.state == .queued && b2.decidedBar == none && b2.head == b1.head &&
    (gateFrom t b2).any fun g => g.time - (b2.plan.lead : Int) ≤ (now : Int) + (b1.plan.tailLen : Int)

/-- A handover that passed (R83): the writing burst completes, and the second enters READY with the laser in HOLD. -/
def handOver (c : Chan) (b2 : Burst) (s : State) : State :=
  let s1 := completeFront c ⟨.written, .none⟩ s
  let s2 := modFront c
    (fun _ => { b2 with state := .ready, hotChain := true, leadUsed := some ⟨b2.plan.lead, false⟩ }) s1
  setCommit c b2.currents.boost <| s2.modSeq c fun q =>
    { q with laser := .hold, active := .front, phaseEnd := none, overrunAt := none, phaseStart := s.now }

/-- A handover that failed (R84): the bar is decided on the second burst, and the writing burst runs its tail. -/
def failHandOver (c : Chan) (b2 : Burst) (r : Reason) (s : State) : State :=
  writtenTail c <| s.modChan c fun x =>
    { x with queue := x.queue.take 1 ++ { b2 with decidedBar := some r } :: x.queue.drop 2 }

/-- A fall of the gate that ends a write (R81, R83, R84). As in `arm`, a commitment that the heat check would withdraw is never
held (notes/assumptions/15.md). -/
def endWrite (c : Chan) (s : State) : State :=
  let s1 := modFront c (Burst.stopGate s.now) (endPhase c s)
  match (s1.chan c).queue with
  | b1 :: b2 :: _ =>
    if chainable (s1.chan c).tracker s1.now b1 b2 then
      let r := supplyCheck b2.plan (headroom c s1)
      let b := b2.withSupply r
      match r with
      | .starved _ => failHandOver c b .starved s1
      | .clear | .derated _ =>
        let h := s1.heads[b1.head]
        if heatFits h (h.bucket + b1.acc / Config.heatUnit) (heatEstimate b b.plan.lead) then handOver c b s1
        else failHandOver c b .hot s1
    else writtenTail c s1
  | _ => writtenTail c s1

/-- A fall of the write gate, once the pin is low (R79, R81). -/
def gateFall (c : Chan) (s : State) : State :=
  if (s.chan c).seq.laser.writing then atOnce c (endWrite c) s
  else
    match s.front c with
    | none => s
    | some b =>
      if b.gateVetoed then
        atOnce c (fun s => completeBarred c (modFront c (fun d => { d with gateVetoed := false, barOver := true }) s)) s
      else s

/-! ## Bars and aborts of a lit burst -/

/-- A HEATING or READY burst is barred after it was lit (R87, R90): its tail runs. The burst of a head that was parked
meanwhile is barred and kept in its queue too, the model's reading of R16, R96 and R103 (notes/assumptions/29.md). -/
def barLit (c : Chan) (r : Reason) (s : State) : State :=
  enterTail c (modFront c (fun b => { b with state := .barred r }) s)

/-- A write is cut short (R82, R87, R90): the gate duration ends at `stop`. -/
def abortWrite (c : Chan) (r : Reason) (stop : Nat) (s : State) : State :=
  enterTail c (modFront c (fun b => { b.stopGate stop with state := .cooling ⟨.aborted, r⟩ }) s)

/-- A guard assertion or a dropout strikes a lit laser (R87, R90). -/
def strikeLaser (c : Chan) (r : Reason) (s : State) : State :=
  match (s.chan c).seq.laser with
  | .preheat | .hold => barLit c r s
  | .boost | .sustain => abortWrite c r s.now s
  | .dark | .bias | .tail => s

/-! ## Causes of a head fault -/

/-- The light deadline is reached with no light seen (R89). -/
def lightDue (q : Sequencer) (now : Nat) : Bool :=
  match q.light with
  | .awaiting d => q.laser.lit && decide (d ≤ now)
  | .none => false
  | .seen => false

/-- A recognised light deassertion is a dropout when light has been seen and the laser is in PREHEAT, HOLD, BOOST or
SUSTAIN (R90). -/
def dropsOut (q : Sequencer) : Bool :=
  q.light == .seen && (q.laser == .preheat || q.laser == .hold || q.laser == .boost || q.laser == .sustain)

/-- What a darkening at `now` leaves to be judged of the lit span it ends (R113): a span whose light deadline has come, or
one in which a dropout may have come at the same moment. -/
def darkenedSpan (q : Sequencer) (now : Nat) : Option DarkenedSpan :=
  match q.selected with
  | none => none
  | some h => if lightDue q now || dropsOut q then some ⟨h, now, q.light⟩ else none

/-- A flush of the whole queue darkened a span whose light deadline had come: the head's fault is still to be taken (R113). -/
def owesAbsent (q : Sequencer) : Option (Fin 24) :=
  match q.darkened with
  | some ⟨h, _, .awaiting _⟩ => some h
  | some ⟨_, _, .seen⟩ => none
  | some ⟨_, _, .none⟩ => none
  | none => none

/-- A flush of the whole queue darkened, at or after the moment `recognised`, a span in which light had been seen: a light
deassertion recognised at that moment was a dropout against the head (R90, R113). -/
def owesDropout (q : Sequencer) (recognised : Nat) : Option (Fin 24) :=
  match q.darkened with
  | some ⟨h, t, .seen⟩ => if recognised ≤ t then some h else none
  | some ⟨_, _, .awaiting _⟩ => none
  | some ⟨_, _, .none⟩ => none
  | none => none

/-- Keep, of the span that a flush of the whole queue darkens, what R113 needs. -/
def keepSpan (c : Chan) (s : State) : State :=
  s.modSeq c fun q => { q with darkened := (darkenedSpan q s.now).or q.darkened }

/-- The kept span of a channel has been judged. -/
def dropSpan (c : Chan) (s : State) : State := s.modSeq c fun q => { q with darkened := none }

/-! ## Flushes and faults -/

/-- Charge a detached tail for what it has lit (R45). -/
def chargeDetached (c : Chan) (s : State) : State :=
  match (s.chan c).seq.active with
  | .detached b => chargeBurst b s
  | .idle | .front => s

/-- Charge the front burst for what it has lit: 0 for a burst never lit (R45). -/
def chargeFront (c : Chan) (s : State) : State :=
  match s.front c with
  | some b => chargeBurst b s
  | none => s

/-- A queue with every burst removed (R22). -/
def emptyQueue (c : Chan) (s : State) : State := s.modChan c fun x => { x with queue := [], gate := none }

/-- Flush a channel's whole queue and darken its laser (R22, R23, R92): the heat of the lit burst, of a detached tail and
of a BARRED burst whose tail has ended is charged (notes/assumptions/6.md). Answers the state and the number of bursts
removed. -/
def flushAll (c : Chan) (s : State) : State × Nat :=
  (goDark c (emptyQueue c (chargeFront c (chargeDetached c (endPhase c (keepSpan c s))))), (s.chan c).queue.length)

/-- The front burst is about to be removed without completing: a running tail is detached from it (R93). -/
def releaseFront (c : Chan) (s : State) : State := if (s.chan c).frontTail then detachFront c s else s

/-- A BARRED front burst whose tail has ended is about to be removed by CANCEL or a head fault: it is charged what it lit
(R149; notes/assumptions/6.md). A tail that still runs charges at its end. -/
def chargeEnded (c : Chan) (s : State) : State := if (s.chan c).frontTail then s else chargeFront c s

/-- The burst is one that PARK and a head fault flush (R22): of the head, and QUEUED or BARRED. -/
def flushedWithHead (h : Fin 24) (b : Burst) : Bool := b.head == h && b.state.unlit

/-- Flush the QUEUED and BARRED bursts of a head from its channel's queue (R22, R103, R111). -/
def flushHead (h : Fin 24) (s : State) : State × Nat :=
  let c := s.heads[h].channel
  let n := (s.chan c).queue.countP (flushedWithHead h)
  let s1 := if (s.front c).any (flushedWithHead h) then releaseFront c s else s
  (removeWhere c (flushedWithHead h) s1, n)

/-- A BIAS held on a head ends when the head leaves READY (R86). -/
def endBiasOn (c : Chan) (h : Fin 24) (s : State) : State :=
  let q := (s.chan c).seq
  if q.laser = .bias ∧ q.selected = some h then goDark c s else s

/-- The head can enter FAULT (R96). -/
def HeadState.canFault : HeadState → Bool
  | .ready => true
  | .parked => true
  | .absent => false
  | .fault _ => false

/-- The front burst of the head's channel, when a fault of the head flushes it, is charged what it lit (R89, R149). -/
def chargeFlushed (h : Fin 24) (s : State) : State :=
  let c := s.heads[h].channel
  if (s.front c).any (flushedWithHead h) then chargeEnded c s else s

/-- A head enters FAULT (R111). -/
def enterFault (h : Fin 24) (cause : FaultCause) (s : State) : State :=
  let r := s.heads[h]
  if r.state.canFault then
    let f := flushHead h (chargeFlushed h (s.setHead h { r with state := .fault cause }))
    placeNotice (.headFault h r.channel cause r.strikes f.2) (endBiasOn r.channel h f.1)
  else s

/-- A strike against a head, and the fault it may bring (R110). -/
def addStrike (h : Fin 24) (s : State) : State :=
  let r := s.heads[h]
  let n := min (r.strikes + 1) 7
  let s1 := s.setHead h { r with strikes := n }
  if r.strikeLimit ≤ n then enterFault h .dropout s1 else s1

/-- Light is absent at the deadline (R89): the laser goes DARK, the active burst ends as its state requires, and the head
enters FAULT. -/
def lightAbsent (c : Chan) (s : State) : State :=
  let s0 := endPhase c s
  match (s0.chan c).activeBurst with
  | none => goDark c s0
  | some b =>
    let s1 := goDark c s0
    let s2 :=
      match (s0.chan c).seq.active with
      | .idle => s1
      | .detached d => chargeBurst d s1
      | .front =>
        match b.state with
        | .heating | .ready => completeFront c ⟨.vetoed, .lightAbsent⟩ s1
        | .writing => completeFront c ⟨.aborted, .lightAbsent⟩ (modFront c (Burst.stopGate s.now) s1)
        | .cooling v => completeFront c v s1
        | .barred _ | .queued => s1
    enterFault b.head .lightAbsent s2

/-- The Sequencer holds the head as its selected head, in BIAS or running a detached tail (R92, R99, R105). -/
def holdsHead (q : Sequencer) (h : Fin 24) : Bool :=
  q.selected == some h &&
    (q.laser == .bias ||
      match q.active with
      | .detached _ => true
      | .idle | .front => false)

/-- One Sequencer goes DARK when it holds the head: a detached tail's heat is charged (R92, R99, R105). -/
def darkenHeadOn (h : Fin 24) (c : Chan) (s : State) : State :=
  if holdsHead (s.chan c).seq h then goDark c (chargeDetached c (endPhase c s)) else s

/-- HEAD_SET and RETIRE darken a bias or a detached tail on the head (R92). -/
def darkenHead (h : Fin 24) (s : State) : State := darkenHeadOn h .c1 (darkenHeadOn h .c0 s)

/-- A first light assertion of the lit span (R88): the status becomes SEEN, and a sampled arming records its latency
unless the assertion is stamped before PREHEAT entry. -/
def seeLight (c : Chan) (stamp : Nat) (s : State) : State :=
  let q := (s.chan c).seq
  let s1 := s.modSeq c fun p => { p with light := .seen }
  if q.litSince ≤ stamp then
    modActive c
      (fun b => if b.sampledArming then { b with latency := some (min (stamp - q.litSince) Config.max16) } else b) s1
  else s1

/-! ## Safe Dark -/

/-- The Safety Timer STOPPED, with pointer A (R154). -/
def SafetyTimer.stop (t : SafetyTimer) : SafetyTimer := { t with state := .stopped, pointer := .a }

/-- The Safety Timer started: RUNNING, elapsed 0, pointer A (R154, R162). -/
def SafetyTimer.start (t : SafetyTimer) (now : Nat) : SafetyTimer :=
  { t with state := .running, pointer := .a, restartedAt := now }

/-- Enter Safe Dark (R159). With the flag already set there is no effect. That channel 0 is darkened and charged before
channel 1, so that its WEAR notice comes first, is the model's choice (notes/assumptions/27.md). -/
def enterSafeDark (cause : SafeCause) (s : State) : State :=
  if s.safe.isSome then s
  else
    let f0 := flushAll .c0 { s with safe := some cause }
    let f1 := flushAll .c1 f0.1
    let s1 := f1.1
    placeNotice (.safeDark cause f0.2 f1.2) { s1 with safety := s1.safety.stop }

end Sys2Proof.Machine
end

