-- ==== Sys2Proof/Machine/Tracker.lean ====
section
/-! DEFINITION. The Wedge Tracker (spec/03): acquisition, tracking, coasting, lost lock and index slip, and what each anchor
does to the Laser Sequencer. -/

namespace Sys2Proof.Machine

/-- The length of a filter, in ticks (R49). -/
def Filter.ticks : Filter → Nat
  | .off => 0
  | .ticks8 => 8
  | .ticks32 => 32
  | .ticks128 => 128

/-- The prediction of the next wedge (R58). -/
def Tracker.prediction (t : Tracker) (a : Anchor) : Nat := a.time + t.pest

/-- A tracker that has just begun to acquire (R53, R60). -/
def acquiringTracker (pnom : Nat) : Tracker where
  state := .acquiring
  anchor := none
  pest := pnom
  good := 0
  miss := 0

/-- Replace a channel's tracker. -/
def setTracker (c : Chan) (t : Tracker) (s : State) : State :=
  s.modChan c fun x => { x with tracker := t }

/-- The SYNC_CHANGE notice of a transition, with the tracker as it is after it (R63). -/
def syncChangeOf (c : Chan) (cause : SyncCause) (t : Tracker) (flushed : Nat) : Notice :=
  .syncChange c cause t.state ((t.anchor.map fun a => a.wedge).getD 0) t.pest t.miss flushed

/-- The expected gate time of the front burst after an anchor (R69): the anchor of its wedge A fixes it, any other anchor
forms it again while the burst is QUEUED. -/
def regate (x : Channel) (a : Anchor) : Option GateTime :=
  match x.queue.head?, x.gate with
  | some b, some g =>
    if g.fixed then some g
    else if a.count = b.target then some ⟨(a.time : Int) + (b.offset : Int), true, false⟩
    else if b.state = .queued then gateFrom x.tracker b
    else some g
  | _, g => g

/-- An anchor re-anchors the front burst (R69): it is the anchor of its wedge A, and the first. -/
def reanchors (x : Channel) (a : Anchor) : Bool :=
  x.queue.head?.any fun b => x.gate.any fun g => !g.fixed && a.count == b.target

/-- An anchor event at the Laser Sequencer (R62): the expected gate time, the bias hold count, and, after a re-anchoring, a
window that the new time has already closed (R75). -/
def anchorEvent (c : Chan) (a : Anchor) (s : State) : State :=
  let s1 := s.modChan c fun x => { x with gate := regate x a }
  let x := s1.chan c
  let s2 :=
    if x.seq.laser = .bias ∧ x.config.biasHold ≠ 0 then
      s1.modSeq c fun q => { q with biasCount := min (q.biasCount + 1) Config.max16 }
    else s1
  if reanchors (s.chan c) a then runAtOnce c none s2 else s2

/-- A sync in ACQUIRING with no anchor held (R56). -/
def firstAnchor (t : Tracker) (stamp : Nat) : Tracker :=
  { t with anchor := some ⟨stamp, 0, 0⟩, good := 0 }

/-- A sync in ACQUIRING with an anchor held (R57). -/
def nextInterval (cfg : ChanConfig) (t : Tracker) (a : Anchor) (stamp : Nat) (index : Bool) : Tracker :=
  let m : Int := (stamp : Int) - (a.time : Int)
  if (cfg.pnom : Int) - (cfg.tw : Int) ≤ m ∧ m ≤ (cfg.pnom : Int) + (cfg.tw : Int) then
    if index then firstAnchor t stamp
    else
      { state := if 2 ≤ t.good + 1 then .locked else .acquiring
        anchor := some ⟨stamp, (a.wedge + 1) % cfg.w, a.count + 1⟩
        pest := min m.toNat Config.max16
        good := t.good + 1
        miss := 0 }
  else
    let t1 := { t with good := 0, pest := cfg.pnom }
    if index then firstAnchor t1 stamp else { t1 with anchor := none }

/-- A sync in ACQUIRING (R56, R57). The second good interval locks the tracker and is reported. -/
def acquire (c : Chan) (stamp : Nat) (index : Bool) (s : State) : State :=
  let x := s.chan c
  match x.tracker.anchor with
  | none => if index then setTracker c (firstAnchor x.tracker stamp) s else s
  | some a =>
    let t := nextInterval x.config x.tracker a stamp index
    let s1 := setTracker c t s
    if t.state = .locked then placeNotice (syncChangeOf c .acquired t 0) s1 else s1

/-- The period estimate after an accepted sync (R58). -/
def updatedPest (pest : Nat) (a : Anchor) (stamp : Nat) : Nat :=
  let m := min ((stamp : Int) - (a.time : Int)) (Config.max16 : Int)
  ((pest : Int) + Int.tdiv (m - (pest : Int)) 8).toNat

/-- The tracker loses its reference (R60, R61): it acquires from `t`, the queue is flushed, the laser goes DARK and the
SYNC_CHANGE notice carries the count. -/
def loseReference (c : Chan) (cause : SyncCause) (t : Tracker) (s : State) : State :=
  let f := flushAll c (setTracker c t s)
  placeNotice (syncChangeOf c cause t f.2) f.1

/-- The stamp lies in the tracking window (R58). -/
def accepts (cfg : ChanConfig) (t : Tracker) (a : Anchor) (stamp : Nat) : Bool :=
  let p : Int := t.prediction a
  decide (p - (cfg.tw : Int) ≤ (stamp : Int) ∧ (stamp : Int) ≤ p + (cfg.tw : Int))

/-- A sync in LOCKED or COASTING (R58, R61). -/
def track (c : Chan) (stamp : Nat) (index : Bool) (s : State) : State :=
  let x := s.chan c
  match x.tracker.anchor with
  | none => s
  | some a =>
    if accepts x.config x.tracker a stamp then
      let w := (a.wedge + 1) % x.config.w
      let a1 : Anchor := ⟨stamp, w, a.count + 1⟩
      if index ∧ w ≠ 0 then
        loseReference c .indexSlip { acquiringTracker x.config.pnom with anchor := some ⟨stamp, 0, 0⟩ } s
      else
        anchorEvent c a1 <| setTracker c
          { x.tracker with
            state := .locked, anchor := some a1, pest := updatedPest x.tracker.pest a stamp, miss := 0 } s
    else s

/-- A recognised sync (R55 to R58). -/
def syncRecognised (c : Chan) (stamp : Nat) (index : Bool) (s : State) : State :=
  match (s.chan c).tracker.state with
  | .off => s
  | .acquiring => acquire c stamp index s
  | .locked | .coasting => track c stamp index s

/-- The miss expiry is due: the timebase has passed prediction + Tw + F (R59). -/
def missDue (x : Channel) (now : Nat) : Bool :=
  x.tracker.synced && x.tracker.anchor.any fun a =>
    x.tracker.prediction a + x.config.tw + x.config.syncFilter.ticks < now

/-- The miss expiry (R59, R60). That the SYNC_CHANGE notice is placed before a BURST_DONE that the coasted anchor brings about
at once is the model's choice (notes/assumptions/28.md). -/
def miss (c : Chan) (s : State) : State :=
  let x := s.chan c
  match x.tracker.anchor with
  | none => s
  | some a =>
    if x.tracker.miss < x.config.m then
      let a1 : Anchor := ⟨x.tracker.prediction a, (a.wedge + 1) % x.config.w, a.count + 1⟩
      let t := { x.tracker with state := .coasting, anchor := some a1, miss := x.tracker.miss + 1 }
      let s1 := setTracker c t s
      let s2 := if x.tracker.state = .locked then placeNotice (syncChangeOf c .coasting t 0) s1 else s1
      anchorEvent c a1 s2
    else loseReference c .lost (acquiringTracker x.config.pnom) s

end Sys2Proof.Machine
end

