-- ==== Sys2Proof/Machine/ChannelService.lean ====
section
/-! DEFINITION. What the service of the channel requests, of CONDITIONS, and of IDENT and STATUS does (spec/03, spec/07,
spec/09). A service answers the state after it and the reply it builds. -/

namespace Sys2Proof.Machine

/-- A request with a payload of the wrong length is answered BAD_LENGTH and changes nothing (R172). -/
def withPayload {α : Type} (p : Payload α) (s : State) (f : α → State × Reply) : State × Reply :=
  match p with
  | .unfit => (s, .code .badLength)
  | .fits a => f a

/-- IDENT (R176). -/
def serveIdent (p : Payload Unit) (s : State) : State × Reply := withPayload p s fun _ => (s, .ident)

/-- The elapsed time of the Safety Timer, in ticks (R151). -/
def State.elapsed (s : State) : Nat :=
  if s.safety.state = .stopped then 0 else s.now - s.safety.restartedAt

/-- What STATUS reports of a channel (R177): the miss count is 0 outside LOCKED and COASTING. -/
def channelView (x : Channel) : ChannelView where
  online := x.online
  tracker := x.tracker.state
  wedge := (x.tracker.anchor.map fun a => a.wedge).getD 0
  pest := x.tracker.pest
  miss := if x.tracker.synced then x.tracker.miss else 0
  laser := x.seq.laser
  selected := x.seq.selected
  count := x.queue.length
  committed := x.seq.committed
  veto := x.seq.veto

/-- What STATUS reports (R177). -/
def statusView (s : State) : StatusView where
  ch0 := channelView s.ch0
  ch1 := channelView s.ch1
  safe := s.safe
  timer := s.safety.state
  pointer := s.safety.pointer
  elapsedMs := s.elapsed / Config.ticksPerMs
  limit := s.supply.limit
  pending := s.supply.pending
  temp0 := s.ch0.temp
  temp1 := s.ch1.temp
  overflow := s.link.overflow

/-- STATUS (R177). -/
def serveStatus (p : Payload Unit) (s : State) : State × Reply := withPayload p s fun _ => (s, .status (statusView s))

/-- CHANNEL_SET (R51, R52). The period estimate of the OFF tracker is left as it is (notes/assumptions/7.md). -/
def serveChannelSet (p : Payload ChannelSetFields) (s : State) : State × Reply :=
  withPayload p s fun f =>
    match chanOf f.channel with
    | none => (s, .code .fieldRange)
    | some c =>
      if (s.chan c).online then (s, .code .wrongState)
      else
        match channelSetConfig f with
        | none => (s, .code .fieldRange)
        | some (r, cfg) =>
          (s.modChan c fun x => { x with config := cfg }, .channelSet r c cfg)

/-- CHANNEL_ONLINE (R53), with the start of the Safety Timer (R154). -/
def serveChannelOnline (p : Payload Byte) (s : State) : State × Reply :=
  withPayload p s fun b =>
    match chanOf b with
    | none => (s, .code .fieldRange)
    | some c =>
      if (s.chan c).online then (s, .code .wrongState)
      else
        let s1 := setTracker c (acquiringTracker (s.chan c).config.pnom) s
        let s2 :=
          if !(s.chan c.other).online && s.safe.isNone then { s1 with safety := s1.safety.start s.now } else s1
        (s2, .code .ok)

/-- CHANNEL_OFFLINE (R54), with the stop of the Safety Timer (R154). For a channel already OFFLINE nothing changes. -/
def serveChannelOffline (p : Payload Byte) (s : State) : State × Reply :=
  withPayload p s fun b =>
    match chanOf b with
    | none => (s, .code .fieldRange)
    | some c =>
      if (s.chan c).online then
        let f := flushAll c (setTracker c (offTracker (s.chan c).config.pnom) s)
        let s1 := f.1
        let s2 := if (s.chan c.other).online then s1 else { s1 with safety := s1.safety.stop }
        (s2, .channelOffline f.2)
      else (s, .channelOffline 0)

/-- Apply a supply limit (R143): at once when it is at or above the committed sum, as a pending limit otherwise. -/
def applyLimit (v : Nat) (s : State) : State :=
  if s.committedSum ≤ v then { s with supply := ⟨v, none⟩ } else { s with supply := ⟨s.supply.limit, some v⟩ }

/-- CONDITIONS (R136, R143). -/
def serveConditions (p : Payload ConditionsFields) (s : State) : State × Reply :=
  withPayload p s fun f =>
    let t0 := clampInt (-20) 100 f.temp0.toInt
    let t1 := clampInt (-20) 100 f.temp1.toInt
    let v := clampNat 0 2047 f.supply.toNat
    let s1 := (s.modChan .c0 fun x => { x with temp := t0 }).modChan .c1 fun x => { x with temp := t1 }
    let s2 := applyLimit v s1
    (s2, .conditions (clampCode [(f.temp0.toInt, t0), (f.temp1.toInt, t1), (f.supply.toNat, v)]) t0 t1 s2.supply.limit
      s2.supply.pending)

end Sys2Proof.Machine
end

