-- ==== Sys2Proof/Machine/HeadService.lean ====
section
/-! DEFINITION. What the service of the head requests does (spec/05): HEAD_SET, HEAD_GET and the four HEAD_STATE actions. -/

namespace Sys2Proof.Machine

/-- The record after steps 1 to 4 of R99: the set fields, READY from ABSENT, the countdown reloaded, and the wear-noticed
flag cleared by a different threshold. -/
def Head.set (f : HeadSetFields) (c : Chan) (r : Head) : Head :=
  let r1 := writeHeadFields f c r
  { r1 with
    state := if r.state = .absent then .ready else r.state
    sampleCountdown := r1.samplePeriod
    wearNoticed := r.wearNoticed && r1.wearThreshold == r.wearThreshold }

/-- HEAD_SET (R98, R99). The reply is built after step 5 and before the wear test of the request. That the charge of step 5,
with a wear test of its own, comes before the wear test of the request is the model's reading (R150;
notes/assumptions/8.md), and so is that a HEAD_SET taken after the tail end that completed the head's last held burst is accepted,
where R100 calls it HEAD_BUSY whichever is first (notes/assumptions/32.md). -/
def serveHeadSet (p : Payload HeadSetFields) (s : State) : State × Reply :=
  withPayload p s fun f =>
    match indexOf 24 f.head, chanOf f.channel with
    | some h, some c =>
      if s.headBusy h then (s, .code .headBusy)
      else
        let r := s.heads[h].set f c
        let s1 := darkenHead h (s.setHead h r)
        (wearTest h s1, .head (headSetCode f r) h s1.heads[h])
    | _, _ => (s, .code .fieldRange)

/-- HEAD_GET (R101). -/
def serveHeadGet (p : Payload Byte) (s : State) : State × Reply :=
  withPayload p s fun b =>
    match indexOf 24 b with
    | none => (s, .code .fieldRange)
    | some h => (s, .head .ok h s.heads[h])

/-- A HEAD_STATE request (R102): the length, the head number and the action are checked before `act`. -/
def withHeadState (p : HeadStateBody) (s : State) (act : Fin 24 → State × Reply) : State × Reply :=
  match p with
  | .unfit => (s, .code .badLength)
  | .undefinedAction _ _ => (s, .code .fieldRange)
  | .fits b =>
    match indexOf 24 b with
    | none => (s, .code .fieldRange)
    | some h => act h

/-- A HEAD_STATE refused for the head's state or bursts: the reply carries the unchanged state (R184). -/
def refuseHeadState (r : Code) (h : Fin 24) (s : State) : State × Reply := (s, .headState r s.heads[h].state 0)

/-- HEAD_STATE PARK (R103). -/
def servePark (p : HeadStateBody) (s : State) : State × Reply :=
  withHeadState p s fun h =>
    let r := s.heads[h]
    if r.state = .ready then
      let park := fun s : State => flushHead h (s.setHead h { r with state := .parked })
      let act := fun s : State => endBiasOn r.channel h (park s).1
      (if (s.front r.channel).any (flushedWithHead h) then atOnce r.channel act s else act s,
        .headState .ok .parked (park s).2)
    else refuseHeadState .wrongState h s

/-- HEAD_STATE UNPARK (R104). -/
def serveUnpark (p : HeadStateBody) (s : State) : State × Reply :=
  withHeadState p s fun h =>
    let r := s.heads[h]
    if r.state = .parked then (s.setHead h { r with state := .ready }, .headState .ok .ready 0)
    else refuseHeadState .wrongState h s

/-- The head is in FAULT (R102). -/
def HeadState.isFault : HeadState → Bool
  | .fault _ => true
  | .absent => false
  | .ready => false
  | .parked => false

/-- HEAD_STATE CLEAR_FAULT (R104). -/
def serveClearFault (p : HeadStateBody) (s : State) : State × Reply :=
  withHeadState p s fun h =>
    let r := s.heads[h]
    if r.state.isFault then (s.setHead h { r with state := .ready, strikes := 0 }, .headState .ok .ready 0)
    else refuseHeadState .wrongState h s

/-- HEAD_STATE RETIRE (R105). -/
def serveRetire (p : HeadStateBody) (s : State) : State × Reply :=
  withHeadState p s fun h =>
    if s.headBusy h then refuseHeadState .headBusy h s
    else (darkenHead h (s.setHead h { s.heads[h] with state := .absent, strikes := 0 }), .headState .ok .absent 0)

end Sys2Proof.Machine
end

