-- ==== Sys2Proof/Machine/PlanService.lean ====
section
/-! DEFINITION. Admission and cancelling (spec/01): the nine checks of a PLAN entry, the admission, and CANCEL. -/

namespace Sys2Proof.Machine

/-- The fields of a PLAN entry once they have passed the field check (R16). -/
structure Judged where
  head : Fin 24
  channel : Chan
  kind : WriteKind
  wedge : Nat
  laps : Nat
  offset : Nat
  length : Nat
  track : Nat
deriving DecidableEq, Repr

/-- The field check, check 2 (R16): `none` refuses the entry. W and Pnom are those of the channel the head's record names,
in whatever state the head is. -/
def checkFields (e : PlanEntry) (s : State) : Option Judged :=
  match indexOf 24 e.head, kindOf e.kind with
  | some h, some k =>
    let c := s.heads[h].channel
    let cfg := (s.chan c).config
    if e.laps.toNat ≤ 3 ∧ 16 ≤ e.length.toNat ∧ e.track.toNat ≤ Config.maxTrack ∧ e.wedge.toNat < cfg.w ∧
        e.offset.toNat < cfg.pnom then
      some ⟨h, c, k, e.wedge.toNat, e.laps.toNat, e.offset.toNat, e.length.toNat, e.track.toNat⟩
    else none
  | _, _ => none

/-- The absolute target wedge (R4). -/
def targetWedge (w : Nat) (a : Anchor) (wedge laps : Nat) : Nat :=
  let d := (wedge + w - a.wedge % w) % w
  a.count + (if d = 0 then w else d) + laps * w

/-- The spacing check, check 7 (R17), against the neighbours in the queue and the front burst. -/
def overlaps (q : List Burst) (spacing position length : Nat) : Bool :=
  let lower := (q.filter fun b => b.position < position).getLast?
  let upper := (q.filter fun b => position ≤ b.position).head?
  (lower.any fun b => position < b.position + b.length + spacing) ||
    (upper.any fun b => b.position < position + length + spacing) ||
    (q.head?.any fun b => position < b.position && b.state != .queued)

/-- The record of an admitted burst (R3, R19 step 1). -/
def newBurst (e : PlanEntry) (j : Judged) (target position : Nat) (p : Plan) : Burst where
  tag := e.tag
  head := j.head
  wedge := j.wedge
  laps := j.laps
  offset := j.offset
  length := j.length
  track := j.track
  kind := j.kind
  channel := j.channel
  target := target
  position := position
  plan := p
  state := .queued
  decidedBar := none
  leadUsed := none
  derate := none
  derated := false
  hotChain := false
  underheat := false
  sampledArming := false
  latency := none
  gate := none
  acc := 0
  gateVetoed := false
  barOver := false

/-- Insert a burst at its place (R5): after the held bursts below its position. When it becomes the front burst its gate
time is formed (R19, R70). -/
def insertBurst (c : Chan) (b : Burst) (s : State) : State :=
  let q := (s.chan c).queue
  let below := q.filter fun d => d.position < b.position
  let above := q.filter fun d => b.position ≤ d.position
  let s1 := s.modChan c fun x => { x with queue := below ++ b :: above }
  if below.isEmpty then refreshFront c s1 else s1

/-- The CAPTURE notice of an admission (R129). -/
def captureOf (b : Burst) (k : Classified) (m : CaptureMark) : Notice :=
  .capture ⟨b.tag, b.head, b.channel, b.kind, m, k.profile, k.dP, k.dL, b.plan⟩

/-- Admission (R19): the record, its place, the counters, the captures. -/
def admitBurst (b : Burst) (k : Classified) (s : State) : State :=
  let mark := captureMarkOf s k
  let b1 := { b with plan := { b.plan with capture := mark } }
  let s1 := insertBurst b1.channel b1 s
  let s2 := { s1 with counters := countAdmission k s1.counters }
  match mark with
  | none => s2
  | some m =>
    placeNotice (captureOf b1 k m)
      { s2 with rules := clearCapture k.trimRule (clearCapture k.selectRule s2.rules) }

/-- Checks 5 to 9 of R15, and admission, for an entry whose head and channel can take it. -/
def judgeSynced (e : PlanEntry) (j : Judged) (a : Anchor) (s : State) : State × Code :=
  let x := s.chan j.channel
  let target := targetWedge x.config.w a j.wedge j.laps
  let position := target * x.config.pnom + j.offset
  if s.tagHeld e.tag then (s, .duplicateTag)
  else if Config.queueCapacity ≤ x.queue.length then (s, .queueFull)
  else if overlaps x.queue x.config.spacing position j.length then (s, .overlap)
  else
    let k := classify s j.head j.channel j.kind j.track j.offset
    let p := computePlan s.heads[j.head] s.profiles[k.profile] x.temp k.dP k.dL k.selectRule k.trimRule k.policy
    if p.sustain ≤ p.ith then (s, .underdrive)
    else
      let gate : Int := (a.time : Int) + ((target : Int) - (a.count : Int)) * (x.tracker.pest : Int) + (j.offset : Int)
      if gate - (p.coldLead : Int) < (s.now : Int) + (Config.lateMargin : Int) then (s, .tooLate)
      else (admitBurst (newBurst e j target position p) k s, .ok)

/-- One PLAN entry judged through the nine checks of R15. -/
def judgeEntry (e : PlanEntry) (s : State) : State × Code :=
  if s.safe.isSome then (s, .safeDark)
  else
    match checkFields e s with
    | none => (s, .fieldRange)
    | some j =>
      if s.heads[j.head].state ≠ .ready then (s, .headUnavailable)
      else
        match (s.chan j.channel).tracker.synced, (s.chan j.channel).tracker.anchor with
        | true, some a => judgeSynced e j a s
        | _, _ => (s, .noSync)

/-! ## CANCEL -/

/-- A burst that CANCEL skips: WRITING or COOLING (R20). -/
def BurstState.skipsCancel : BurstState → Bool
  | .writing => true
  | .cooling _ => true
  | .queued => false
  | .heating => false
  | .ready => false
  | .barred _ => false

/-- The front burst leaves by CANCEL (R20, R93): a HEATING or READY burst's laser goes to a detached tail; a BARRED one's
running tail is detached. -/
def cancelFront (c : Chan) (s : State) : State :=
  match s.front c with
  | none => s
  | some b =>
    match b.state with
    | .heating | .ready => detachFront c (enterTail c s)
    | .barred _ => releaseFront c (chargeEnded c s)
    | .queued | .writing | .cooling _ => s

/-- CANCEL on one queue (R20): the state, the bursts removed and the bursts skipped. -/
def cancelOn (c : Chan) (sel : Burst → Bool) (s : State) : State × Nat × Nat :=
  let q := (s.chan c).queue
  let out : Burst → Bool := fun b => sel b && !b.state.skipsCancel
  let removed := q.countP out
  let skipped := q.countP fun b => sel b && b.state.skipsCancel
  let cancel := fun s : State => removeWhere c out (cancelFront c s)
  (if q.head?.any out then atOnce c cancel s else removeWhere c out s, removed, skipped)

/-- CANCEL on both queues, channel 0 first (notes/assumptions/27.md). -/
def cancelBoth (sel : Burst → Bool) (s : State) : State × Nat × Nat :=
  let a := cancelOn .c0 sel s
  let b := cancelOn .c1 sel a.1
  (b.1, a.2.1 + b.2.1, a.2.2 + b.2.2)

/-- The result of a CANCEL by tag (R21). -/
def cancelTagCode (removed skipped : Nat) : Code :=
  if 0 < removed then .ok else if 0 < skipped then .tooLate else .notFound

/-- CANCEL (R20, R21). -/
def serveCancel (p : Payload CancelFields) (s : State) : State × Reply :=
  withPayload p s fun f =>
    if f.selector = 0 then
      let r := cancelBoth (fun b => b.tag == f.value) s
      (r.1, .cancel (cancelTagCode r.2.1 r.2.2) r.2.1 r.2.2)
    else if f.selector = 1 then
      if f.value = 0 then
        let r := cancelOn .c0 (fun _ => true) s
        (r.1, .cancel .ok r.2.1 r.2.2)
      else if f.value = 1 then
        let r := cancelOn .c1 (fun _ => true) s
        (r.1, .cancel .ok r.2.1 r.2.2)
      else (s, .code .fieldRange)
    else if f.selector = 2 then
      if f.value.toNat < 24 then
        let r := cancelBoth (fun b => b.head.val == f.value.toNat) s
        (r.1, .cancel .ok r.2.1 r.2.2)
      else (s, .code .fieldRange)
    else (s, .code .fieldRange)

end Sys2Proof.Machine
end

