-- ==== Sys2Proof/Machine/SafetyService.lean ====
section
/-! DEFINITION. The Safety Timer and RESUME (spec/08): SAFETY_SET, TEND, RESUME and the expiry of the timer. -/

namespace Sys2Proof.Machine

/-- The effective window (R153): OPEN_100 for a period of 8 ms or less. -/
def effectiveWindow (period : Nat) (w : Window) : Window := if period ≤ 8 then .open100 else w

/-- The ticks of the closed part (R153). -/
def closedPart (period : Nat) (w : Window) : Nat :=
  match effectiveWindow period w with
  | .open100 => 0
  | .open75 => period * 125000
  | .open50 => period * 250000

/-- SAFETY_SET (R152). -/
def serveSafetySet (p : Payload SafetySetFields) (s : State) : State × Reply :=
  withPayload p s fun f =>
    match windowOf f.window with
    | none => (s, .code .fieldRange)
    | some w =>
      let n := clampNat 2 2000 f.period.toNat
      let st : TimerState := if s.safety.state = .stopped then .stopped else .running
      ({ s with safety := { state := st, pointer := .a, restartedAt := s.now, period := n, window := w } },
        .safetySet (clampCode [(f.period.toNat, n)]) n w (effectiveWindow n w) st)

/-- The other phase. -/
def Phase.flip : Phase → Phase
  | .a => .b
  | .b => .a

/-- A TEND that is taken (R155): the state and the answer. -/
def takeTend (ph : Phase) (s : State) : State × TendAnswer :=
  let t := s.safety
  if ph ≠ t.pointer then ({ s with safety := { t with pointer := t.pointer.flip } }, .outOfStep)
  else
    match ph with
    | .a => ({ s with safety := { t with pointer := .b } }, .half)
    | .b =>
      if closedPart t.period t.window ≤ s.elapsed then
        ({ s with safety := { t with state := .running, pointer := .a, restartedAt := s.now } }, .restarted)
      else (enterSafeDark .earlyTend { s with safety := { t with pointer := .a } }, .early)

/-- TEND (R155). The elapsed time of the reply is the one judged. -/
def serveTend (p : Payload Byte) (s : State) : State × Reply :=
  withPayload p s fun b =>
    match phaseOf b with
    | none => (s, .code .fieldRange)
    | some ph =>
      if s.safety.state = .stopped then (s, .code .wrongState)
      else
        let r := takeTend ph s
        (r.1, .tend r.2 r.1.safety.pointer r.1.safety.state (s.elapsed / Config.ticksPerMs))

/-- RESUME (R162). -/
def serveResume (p : Payload Unit) (s : State) : State × Reply :=
  withPayload p s fun _ =>
    match s.safe with
    | none => (s, .code .wrongState)
    | some cause =>
      if s.supflt then (s, .code .wrongState)
      else
        let s1 := { s with safe := none }
        (if s.ch0.online || s.ch1.online then { s1 with safety := s1.safety.start s.now } else s1, .resume cause)

/-- The timer expires: its elapsed time has reached the period (R157). -/
def expiryDue (s : State) : Bool :=
  s.safety.state != .stopped && s.safety.period * Config.ticksPerMs ≤ s.elapsed

/-- The expiry (R157): a warning from RUNNING under OPEN_100, Safe Dark otherwise. -/
def expire (s : State) : State :=
  let t := s.safety
  let w := effectiveWindow t.period t.window
  if t.state = .running ∧ w = .open100 then
    placeNotice (.safetyWarning t.period w t.pointer)
      { s with safety := { t with state := .warned, pointer := .a, restartedAt := s.now } }
  else enterSafeDark .expiry s

end Sys2Proof.Machine
end

