-- ==== Sys2Proof/Machine/TableService.lean ====
section
/-! DEFINITION. What the service of the table requests does (spec/05, spec/06): profiles, Range Checkers, rules, counters. -/

namespace Sys2Proof.Machine

/-- PROFILE_SET (R115). -/
def serveProfileSet (p : Payload ProfileSetFields) (s : State) : State × Reply :=
  withPayload p s fun f =>
    match indexOf 16 f.index with
    | none => (s, .code .fieldRange)
    | some i =>
      ({ s with profiles := s.profiles.set i (profileSetRecord f) }, .profile (profileSetCode f) i (profileSetRecord f))

/-- PROFILE_GET (R115). -/
def serveProfileGet (p : Payload Byte) (s : State) : State × Reply :=
  withPayload p s fun b =>
    match indexOf 16 b with
    | none => (s, .code .fieldRange)
    | some i => (s, .profile .ok i s.profiles[i])

/-- Apply checker writes in message order (R119). -/
def applyWrites (ks : Vector RangeChecker 8) (ws : List (Fin 8 × RangeChecker)) : Vector RangeChecker 8 :=
  ws.foldl (fun v w => v.set w.1 w.2) ks

/-- RANGE_SET (R119). -/
def serveRangeSet (p : Payload (List RangeWrite)) (s : State) : State × Reply :=
  withPayload p s fun ws =>
    if ws.length = 0 ∨ 8 < ws.length then (s, .code .badLength)
    else
      match rangeWritesOf ws with
      | none => (s, .code .fieldRange)
      | some xs =>
        let ks := applyWrites s.checkers xs
        ({ s with checkers := ks }, .ranges (rangeSetCode ws) ks)

/-- RULE_SET (R125, R126). -/
def serveRuleSet (p : Payload RuleSetFields) (s : State) : State × Reply :=
  withPayload p s fun f =>
    match indexOf 64 f.index, ruleSetEntry f with
    | some i, some (r, e) => ({ s with rules := s.rules.set i e }, .rule r i e)
    | _, _ => (s, .code .fieldRange)

/-- RULE_GET (R127). -/
def serveRuleGet (p : Payload Byte) (s : State) : State × Reply :=
  withPayload p s fun b =>
    match indexOf 64 b with
    | none => (s, .code .fieldRange)
    | some i => (s, .rule .ok i s.rules[i])

/-- The counters with a span set to 0 (R132). -/
def clearSpan (first span : Nat) (v : Vector U32 16) : Vector U32 16 :=
  Vector.ofFn fun i : Fin 16 => if first ≤ i.val ∧ i.val < first + span then 0 else v[i]

/-- COUNTERS (R132). -/
def serveCounters (p : Payload CountersFields) (s : State) : State × Reply :=
  withPayload p s fun f =>
    match clearOf f.clear with
    | none => (s, .code .fieldRange)
    | some clear =>
      let a := f.first.toNat
      let n := f.span.toNat
      if 15 < a ∨ n = 0 ∨ 16 < n ∨ 16 < a + n then (s, .code .fieldRange)
      else
        (if clear then { s with counters := clearSpan a n s.counters } else s,
          .counters a n ((s.counters.toList.drop a).take n))

end Sys2Proof.Machine
end

