-- ==== Sys2Proof/Machine/Service.lean ====
section
/-! DEFINITION. The Plan Link at work (spec/09): the service of requests, the receive places, the transmitter, the receiver
and the resets. -/

namespace Sys2Proof.Machine

/-! ## Service -/

/-- The reply of a served request joins the waiting replies, and the request keeps its place (R171, R173). -/
def answer (r : Instr) (v : Service) (p : State × Reply) : State :=
  p.1.modLink fun l =>
    { l with
      served := some ⟨r, v⟩
      replies := l.replies ++ [⟨.served, replyKind (requestKind r), requestTag r, p.2⟩] }

/-- RESET (R178, step 1): the reply carries the bursts held in both queues, and the reset acts after it. -/
def serveReset (r : Instr) (scope : Scope) (p : ResetBody) (s : State) : State :=
  match p with
  | .unfit => answer r .replied (s, .code .badLength)
  | .undefinedScope _ => answer r .replied (s, .code .fieldRange)
  | .fits => answer r (.resetting scope) (s, .reset scope (s.ch0.queue.length + s.ch1.queue.length))

/-- PLAN (R14): the count is checked, and the service of its entries begins. -/
def servePlan (r : Instr) (p : Payload (List PlanEntry)) (s : State) : State :=
  match p with
  | .unfit => answer r .replied (s, .code .badLength)
  | .fits es =>
    if es.length = 0 ∨ 4 < es.length then answer r .replied (s, .code .badLength)
    else s.modLink fun l => { l with served := some ⟨r, .planning es []⟩ }

/-- The service of a request begins (R171). For every request but PLAN it is one event: its checks are made, its effects
taken and its reply built. A command that is no request is never served. -/
def serve (r : Instr) (s : State) : State :=
  match r with
  | .ident _ p => answer r .replied (serveIdent p s)
  | .status _ p => answer r .replied (serveStatus p s)
  | .resetFull _ p => serveReset r .full p s
  | .resetRun _ p => serveReset r .run p s
  | .channelSet _ p => answer r .replied (serveChannelSet p s)
  | .channelOnline _ p => answer r .replied (serveChannelOnline p s)
  | .channelOffline _ p => answer r .replied (serveChannelOffline p s)
  | .conditions _ p => answer r .replied (serveConditions p s)
  | .headSet _ p => answer r .replied (serveHeadSet p s)
  | .headGet _ p => answer r .replied (serveHeadGet p s)
  | .park _ p => answer r .replied (servePark p s)
  | .unpark _ p => answer r .replied (serveUnpark p s)
  | .clearFault _ p => answer r .replied (serveClearFault p s)
  | .retire _ p => answer r .replied (serveRetire p s)
  | .profileSet _ p => answer r .replied (serveProfileSet p s)
  | .profileGet _ p => answer r .replied (serveProfileGet p s)
  | .rangeSet _ p => answer r .replied (serveRangeSet p s)
  | .ruleSet _ p => answer r .replied (serveRuleSet p s)
  | .ruleGet _ p => answer r .replied (serveRuleGet p s)
  | .counters _ p => answer r .replied (serveCounters p s)
  | .plan _ p => servePlan r p s
  | .cancel _ p => answer r .replied (serveCancel p s)
  | .safetySet _ p => answer r .replied (serveSafetySet p s)
  | .tend _ p => answer r .replied (serveTend p s)
  | .resume _ p => answer r .replied (serveResume p s)
  | .undefinedRequest _ _ => answer r .replied (s, .code .badKind)
  | .planEntry | .frameArrival _ | .gapLimitDiscard | .transmitEnd | .coldResetBegin _ | .coldResetAct
  | .syncRecognition _ _ _ | .missExpiry _ | .guardAssertion _ _ | .guardDeassertion _ _ | .lightAssertion _ _
  | .lightDeassertion _ _ | .wgateRise _ | .wgateFall _ | .supfltRise | .arming _ | .preheatEnd _ | .windowClose _
  | .boostEnd _ | .overrun _ | .tailEnd _ | .lightDeadline _ | .biasHoldExpiry _ | .leakInstant | .safetyExpiry
  | .supfltFall => s

/-- The next entry of the PLAN in service is judged (R14, R15). After the last one the reply is built, and the service
ends. -/
def takeEntry (s : State) : State :=
  match s.link.served with
  | some ⟨r, .planning (e :: left) done⟩ =>
    let j := judgeEntry e s
    let results := done ++ [j.2]
    match left with
    | [] => answer r .replied (j.1, .plan results)
    | _ :: _ => j.1.modLink fun l => { l with served := some ⟨r, .planning left results⟩ }
  | _ => s

/-! ## The receive places -/

/-- An accepted RESET has been served and has not yet acted (R178). -/
def Link.resetting (l : Link) : Bool :=
  match l.served with
  | some ⟨_, .resetting _⟩ => true
  | some ⟨_, .planning _ _⟩ => false
  | some ⟨_, .replied⟩ => false
  | none => false

/-- An intact request arrives (R170): it takes a place, or is answered BUSY, or is discarded. While a RESET waits to act it
is discarded (R178). A request waits only behind one in service (R171), so the third case meets no state that a run
reaches; there the waiting request is served and the new one waits. -/
def arrive (r : Instr) (s : State) : State :=
  if s.link.resetting then s
  else
    match s.link.served, s.link.waiting with
    | none, none => serve r s
    | some _, none => s.modLink fun l => { l with waiting := some r }
    | none, some w => serve w (s.modLink fun l => { l with waiting := some r })
    | some _, some _ =>
      if (s.link.replies.countP fun q => q.role == .busy) < Config.busyCapacity then
        s.modLink fun l =>
          { l with replies := l.replies ++ [⟨.busy, replyKind (requestKind r), requestTag r, .code .busy⟩] }
      else s

/-! ## The transmitter -/

/-- How long a frame lasts on the line (R165, R166). -/
def frameTicks (f : Frame) : Nat := (f.payload.length + 6) * Config.charTicks

/-- The level of PLTX (R165): high while nothing is sent, and the levels of the frame's bits, 5 ticks each, while one is. -/
def pltx (l : Link) (now : Nat) : Bool :=
  match l.tx with
  | none => true
  | some x => (frameLevels x.frame).getD ((now + frameTicks x.frame - x.endsAt) / Config.bitTicks) true

/-- Begin sending a frame. -/
def beginFrame (f : Frame) (acts : Option Scope) (s : State) : State :=
  s.modLink fun l => { l with tx := some ⟨f, s.now + frameTicks f, acts⟩ }

/-- The front notice leaves the Notice Queue for the transmitter, when it is free and no reply waits (R173, R174). -/
def startNotice (s : State) : State :=
  match s.link.tx, s.link.replies, s.link.notices with
  | none, [], n :: rest => beginFrame n.frame none (s.modLink fun l => { l with notices := rest })
  | _, _, _ => s

/-- The reset that acts at the end of a served request's reply (R178). -/
def actsAfter (l : Link) : Option Scope :=
  match l.served with
  | some ⟨_, .resetting sc⟩ => some sc
  | some ⟨_, .planning _ _⟩ => none
  | some ⟨_, .replied⟩ => none
  | none => none

/-- The place of the served request is released, and the waiting request is served (R171). A RESET keeps its place. -/
def releasePlace (s : State) : State :=
  if s.link.resetting then s
  else
    match s.link.waiting with
    | none => s.modLink fun l => { l with served := none }
    | some r => serve r (s.modLink fun l => { l with served := none, waiting := none })

/-- The free transmitter takes the oldest waiting reply, or else the front notice (R173). When it begins the reply of the
served request, the request's place is released (R171). -/
def pump (s : State) : State :=
  match s.link.tx, s.link.replies with
  | none, q :: rest =>
    let s0 := s.modLink fun l => { l with replies := rest }
    match q.role with
    | .busy => beginFrame q.frame none s0
    | .served => releasePlace (beginFrame q.frame (actsAfter s.link) s0)
  | _, _ => startNotice s

/-! ## The receiver (R168) -/

/-- A complete body and its check bytes: the frame when the check matches (R166, R167). -/
def judgeFrame (got : List Byte) : Option Frame :=
  let n := got.length - 2
  let body := got.take n
  if crc body = byteAt got n ++ byteAt got (n + 1) then
    some ⟨byteAt got 1, byteAt got 2, body.drop 3⟩
  else none

/-- One character at the receiver (R165, R168): its next state, and the intact frame it completes. -/
def receiveChar (x : Receiver) (k : Character) : Receiver × Option Frame :=
  match x with
  | .hunting => (if charStop k && charData k == 0xA6 then .assembling [] else .hunting, none)
  | .assembling got =>
    if !charStop k then (.hunting, none)
    else
      let all := got ++ [charData k]
      let len := (byteAt all 0).toNat
      if len < 2 ∨ 250 < len then (.hunting, none)
      else if all.length = len + 3 then (.hunting, judgeFrame all)
      else (.assembling all, none)

/-- A character whose start bit begins more than the gap limit after the last one meets a receiver that has discarded its
partial frame (R168). -/
def Receiver.afterGap (x : Receiver) (gap : Int) : Receiver :=
  match x with
  | .hunting => .hunting
  | .assembling got => if Config.gapLimit < gap then .hunting else .assembling got

/-- What follows the arrival of an intact request: the free transmitter takes what waits for it (R173), and the output lines
follow (R68, R91). -/
def arrived (r : Instr) (s : State) : State := driveOutputs (pump (arrive r s))

/-- The character ended before the last reset acted: the receiver that the reset left hunting has not met it (R168, R179;
notes/assumptions/34.md). -/
def endedBeforeReset (k : Character) (s : State) : Bool := k.start + Config.charTicks < (s.lineEpoch : Int)

/-- One received character. An intact request that it completes arrives at that moment, an event of its own with what follows
it (notes/assumptions/12.md). A character that was under way when a reset acted is received like any other, one that had ended
has no effect (notes/assumptions/34.md). -/
def takeChar (s : State) (k : Character) : State :=
  if endedBeforeReset k s then s else
  let r := receiveChar (s.link.rx.afterGap (k.start - s.link.rxEnd)) k
  let s1 := s.modLink fun l => { l with rx := r.1, rxEnd := k.start + Config.charTicks }
  match r.2 with
  | none => s1
  | some f => arrived (requestOf f) s1

/-- A train of received characters. -/
def takeChars (cs : List Character) (s : State) : State := cs.foldl takeChar s

/-- The gap limit has passed inside a frame (R168). -/
def gapDue (l : Link) (now : Nat) : Bool :=
  match l.rx with
  | .hunting => false
  | .assembling _ => l.rxEnd + Config.gapLimit < (now : Int)

/-! ## Resets -/

/-- A filtered line after a reset (R49): its filtered level is deasserted, and a high level counts from the reset. -/
def Line.afterReset (x : Line) (t : Nat) : Line := ⟨x.high, t, false⟩

/-- A channel in its cold-reset state, with its pins as they are (R25, R49, R65, R66). -/
def Channel.cold (x : Channel) : Channel :=
  { coldChannel with
    syncLine := x.syncLine.afterReset 0
    indexPin := ⟨x.indexPin.high, 0⟩
    guardLine := x.guardLine.afterReset 0
    lightLine := x.lightLine.afterReset 0
    wgate := x.wgate }

/-- RSTN at a restart of the timebase at 0: the level it has, and for how long it has had it, stay as they are. -/
def ResetPin.restarted (x : ResetPin) (now : Nat) : ResetPin := { x with since := x.since - (now : Int) }

/-- The part in its cold-reset state, with its pins and the waiting commands as they are (R178, R179, R180). -/
def coldState (s : State) : State :=
  { State.reset with
    pending := s.pending
    rstn := s.rstn.restarted s.now
    supflt := s.supflt
    ch0 := s.ch0.cold
    ch1 := s.ch1.cold
    choices := s.choices }

/-- A supply fault line that is high when a reset acts counts as a rise (R145). -/
def afterReset (s : State) : State := if s.supflt then enterSafeDark .supply s else s

/-- One channel's part of a RUN reset (R25, R65, R66): the configuration and the temperature are kept. -/
def runChannel (t : Nat) (x : Channel) : Channel :=
  { x with
    tracker := offTracker x.config.pnom
    syncLine := x.syncLine.afterReset t
    indexPin := ⟨x.indexPin.high, t⟩
    guardLine := x.guardLine.afterReset t
    lightLine := x.lightLine.afterReset t
    gate := none
    seq := darkSequencer }

/-- The RUN-reset state (R178, R179): the bursts are flushed and charged (R23, R146), the pending limit is dropped (R138),
the strikes are 0 (R97), and the tables are kept. -/
def runState (s : State) : State :=
  let s0 := { s with supply := ⟨s.supply.limit, none⟩ }
  let s1 := (flushAll .c1 (flushAll .c0 s0).1).1
  { s1 with
    held := false
    lineEpoch := s.now
    ch0 := runChannel s.now s1.ch0
    ch1 := runChannel s.now s1.ch1
    heads := mapAll (fun r : Head => { r with strikes := 0 }) s1.heads
    safety := s1.safety.stop
    safe := none
    link := idleLink }

/-- A reset acts (R178, step 3). -/
def actReset (scope : Scope) (s : State) : State :=
  afterReset (match scope with
    | .full => coldState s
    | .run => runState s)

/-- The transmitter ends a frame (R173); at the end of an accepted RESET's reply the reset acts (R178). -/
def endFrame (s : State) : State :=
  match s.link.tx with
  | none => s
  | some x =>
    if x.endsAt ≤ s.now then
      let s1 := s.modLink fun l => { l with tx := none }
      match x.acts with
      | none => s1
      | some sc => actReset sc s1
    else s

end Sys2Proof.Machine
end

