-- ==== Sys2Proof/Machine/Lines.lean ====
section
/-! DEFINITION. The line events: recognised syncs, guard and light edges, the write gate, the supply fault line, and RSTN
(spec/03, spec/04, R145, R180). A command about a filtered line tells edges of the line, and the filters of R49 are run here. -/

namespace Sys2Proof.Machine

/-- An event of the part is taken: `f` acts, a notice goes to the free transmitter (R173), and the output lines follow.
While a cold reset holds the part no event has an effect (R180). -/
def onEvent (f : State → State) (s : State) : State :=
  if s.held then s else driveOutputs (startNotice (f s))

/-- The stamp of a filtered edge: the edge itself, or the moment the last reset acted when the line was high before it
(R49). -/
def stampOf (edge : Nat) (s : State) : Nat := max edge s.lineEpoch

/-- An edge stamped `stamp` has held its level for the filter's length (R49). -/
def filterHeld (f : Filter) (stamp now : Nat) : Bool := stamp + f.ticks ≤ now

/-- The line has held a level that its filtered level has yet to follow for the filter's length at the moment `t` (R49). -/
def Line.due (x : Line) (f : Filter) (t : Nat) : Bool := x.high != x.filtered && filterHeld f x.since t

/-- The line once its level is recognised (R49): it held that level up to the recognition. -/
def Line.recognised (x : Line) (f : Filter) : Line := ⟨x.high, x.since + f.ticks, x.high⟩

/-- An edge to `level` at `edge` moves a pin (R49) that has the level `high` and is known to have held it up to `since`: it had
the other level, and had not been seen to hold it beyond the edge. -/
def edgeMovesPin (high : Bool) (since : Nat) (level : Bool) (edge now : Nat) : Bool :=
  high != level && decide (since ≤ edge) && decide (edge ≤ now)

/-- The line after an edge to `level` at `edge` (R49). A pulse shorter than the filter's length leaves no trace on the filtered
level. -/
def Line.moved (x : Line) (level : Bool) (edge now : Nat) : Line :=
  if edgeMovesPin x.high x.since level edge now then ⟨level, edge, x.filtered⟩ else x

/-- The edge to `level` at `edge` comes after the recognition, not yet taken, of the level it ends (R49). -/
def Line.overtaken (x : Line) (f : Filter) (level : Bool) (edge now : Nat) : Bool :=
  x.high != level && decide (edge ≤ now) && x.due f edge

/-- The line with its pin at a level, while a cold reset holds the part: its filter stands still (R49, R180). -/
def Line.pinned (x : Line) (high : Bool) : Line := { x with high := high }

/-- The level of a filtered line has held for the filter's length, and is recognised (R49): `level` says which of its events
that is. -/
def lineDue (x : Line) (f : Filter) (level : Bool) (now : Nat) : Bool := x.high == level && x.due f now

/-! ## SYNC and INDEX

SYNC_RECOGNITION names the edges of SYNCn and INDEXn that have come since the last one. They move the pins, and a rise of SYNCn is
recognised once it has held for the filter's length: within the command that tells so, and otherwise by the part itself
(notes/assumptions/11.md). -/

/-- SYNCn after an edge to `level` at `edge` (R49): a fall is no event, and a new rise is to be recognised. -/
def Line.syncMoved (x : Line) (level : Bool) (edge now : Nat) : Line :=
  if edgeMovesPin x.high x.since level edge now then ⟨level, edge, false⟩ else x

/-- INDEXn after an edge to `level` at `edge`. -/
def Pin.moved (x : Pin) (level : Bool) (edge now : Nat) : Pin :=
  if edgeMovesPin x.high x.since level edge now then ⟨level, edge⟩ else x

/-- The line was seen to hold its level up to the moment `t`. -/
def Pin.heldUntil (x : Pin) (t : Nat) : Pin := ⟨x.high, max x.since t⟩

/-- The lines that SYNC_RECOGNITION tells of. -/
inductive SyncPin where
  | sync
  | index
deriving DecidableEq, Repr

/-- Put an edge of INDEXn in its place by time, before an edge of SYNCn at the same moment: INDEXn may rise with SYNCn (R50). -/
def placeEdge (e : LineEdge) : List (SyncPin × LineEdge) → List (SyncPin × LineEdge)
  | [] => [(.index, e)]
  | d :: rest => if e.time ≤ d.2.time then (.index, e) :: d :: rest else d :: placeEdge e rest

/-- The edges of both lines in the order of time. -/
def edgesInOrder (sync index : List LineEdge) : List (SyncPin × LineEdge) :=
  index.foldr placeEdge (sync.map fun e => (.sync, e))

/-- One edge moves its pin. -/
def moveEdge (c : Chan) (p : SyncPin) (e : LineEdge) (s : State) : State :=
  s.modChan c fun x =>
    match p with
    | .sync => { x with syncLine := x.syncLine.syncMoved e.high (stampOf e.time s) s.now }
    | .index => { x with indexPin := x.indexPin.moved e.high (stampOf e.time s) s.now }

/-- One edge moves its pin, while a cold reset holds the part: the filter stands still (R49, R180). -/
def pinEdge (c : Chan) (s : State) (e : SyncPin × LineEdge) : State :=
  s.modChan c fun x =>
    match e.1 with
    | .sync => { x with syncLine := x.syncLine.pinned e.2.high }
    | .index => { x with indexPin := { x.indexPin with high := e.2.high } }

/-- A rise of SYNCn has held for the filter's length at the moment `t` (R49). -/
def syncDue (x : Channel) (t : Nat) : Bool := lineDue x.syncLine x.config.syncFilter true t

/-- The sync carries index: INDEXn rose at or before the sync's leading edge and has stayed high (R50). -/
def carriesIndex (x : Channel) : Bool := x.indexPin.high && decide (x.indexPin.since ≤ x.syncLine.since)

/-- A sync is recognised, stamped with its leading edge (R49, R50, R55 to R58, R61). -/
def recogniseSync (c : Chan) (s : State) : State :=
  let x := s.chan c
  let y := x.syncLine.recognised x.config.syncFilter
  syncRecognised c x.syncLine.since (carriesIndex x)
    (s.setChan c { x with syncLine := y, indexPin := x.indexPin.heldUntil y.since })

/-- One edge of a command: a recognition that was due before it is an event of its own, taken first. -/
def takeEdge (c : Chan) (s : State) (e : SyncPin × LineEdge) : State :=
  let stamp := stampOf e.2.time s
  moveEdge c e.1 e.2 (if syncDue (s.chan c) stamp && stamp ≤ s.now then onEvent (recogniseSync c) s else s)

/-- SYNC_RECOGNITION. The edges that have come are taken in the order of time, and a rise of SYNCn that has held for the filter's
length is recognised (R49, R50, R55 to R58, R61). While a cold reset holds the part the pins alone move (R180). -/
def execSyncRecognition (c : Chan) (sync index : List LineEdge) (s : State) : Host.Outcome State Fault Refusal :=
  .next (
    if s.held then (edgesInOrder sync index).foldl (pinEdge c) s
    else
      onEvent (fun s => if syncDue (s.chan c) s.now then recogniseSync c s else s)
        ((edgesInOrder sync index).foldl (takeEdge c) s))

/-- MISS_EXPIRY (R59, R60). -/
def execMissExpiry (c : Chan) (s : State) : Host.Outcome State Fault Refusal :=
  .next (onEvent (fun s => if missDue (s.chan c) s.now then miss c s else s) s)

/-! ## GUARD and LSENSE

Each command names an edge of the line. The edge moves the pin's level, and the level is recognised once it has held for the
filter's length: at once, when the edge is old enough, and otherwise by the part itself (notes/assumptions/11.md). -/

/-- Give the line GUARDn of a channel a new record. -/
def setGuardLine (c : Chan) (y : Line) (s : State) : State := s.modChan c fun x => { x with guardLine := y }

/-- Give the line LSENSEn of a channel a new record. -/
def setLightLine (c : Chan) (y : Line) (s : State) : State := s.modChan c fun x => { x with lightLine := y }

/-- The level of GUARDn is recognised (R49): an assertion strikes a lit laser (R87), a deassertion changes the filtered level
alone. -/
def recogniseGuard (c : Chan) (s : State) : State :=
  let x := s.chan c
  let s1 := setGuardLine c (x.guardLine.recognised x.config.guardFilter) s
  if x.guardLine.high then tailAtOnce c (strikeLaser c .guard s1) else s1

/-- An edge of GUARDn to `level` at `edge`, with the recognition that is due at once (R49). -/
def guardEdge (c : Chan) (level : Bool) (edge : Nat) (s : State) : State :=
  let x := s.chan c
  let y := x.guardLine.moved level edge s.now
  let s1 := setGuardLine c y s
  if y.high == level && y.due x.config.guardFilter s.now then recogniseGuard c s1 else s1

/-- A command about GUARDn. While a cold reset holds the part the pin alone moves (R180). A recognition that came before the
edge is an event of its own, taken first. -/
def onGuard (c : Chan) (level : Bool) (edge : Nat) (s : State) : State :=
  if s.held then setGuardLine c ((s.chan c).guardLine.pinned level) s
  else
    let x := s.chan c
    let stamp := stampOf edge s
    let s1 :=
      if x.guardLine.overtaken x.config.guardFilter level stamp s.now then onEvent (recogniseGuard c) s else s
    onEvent (guardEdge c level stamp) s1

/-- GUARD_ASSERTION. A rise of GUARDn at `edge`; once recognised, it strikes a lit laser (R49, R87). -/
def execGuardAssertion (c : Chan) (edge : Nat) (s : State) : Host.Outcome State Fault Refusal :=
  .next (onGuard c true edge s)

/-- GUARD_DEASSERTION. A fall of GUARDn at `edge`; once recognised, it changes the filtered level alone (R49, R87). -/
def execGuardDeassertion (c : Chan) (edge : Nat) (s : State) : Host.Outcome State Fault Refusal :=
  .next (onGuard c false edge s)

/-- A dropout (R90): the laser and the burst change, and then the head is given a strike. -/
def dropout (c : Chan) (s : State) : State :=
  let s1 := strikeLaser c .lightLoss s
  match (s.chan c).seq.selected with
  | none => s1
  | some h => addStrike h s1

/-- A dropout that falls together with a flush of the whole queue taken before it (R113): the laser is DARK, and the head
enters FAULT when this dropout takes its strikes to the limit (notes/assumptions/26.md). -/
def owedDropout (c : Chan) (recognised : Nat) (s : State) : State :=
  match owesDropout (s.chan c).seq recognised with
  | none => s
  | some h =>
    let r := s.heads[h]
    if r.state.canFault && r.strikeLimit ≤ min (r.strikes + 1) 7 then addStrike h (dropSpan c s) else dropSpan c s

/-- An assertion of LSENSEn stamped `stamp` is recognised (R88): the first one of a lit span is seen. -/
def lightRecognised (c : Chan) (stamp : Nat) (s : State) : State :=
  match (s.chan c).seq.light with
  | .awaiting _ => seeLight c stamp s
  | .none | .seen => s

/-- A deassertion of LSENSEn is recognised at the moment `recognised` (R90, R113): it may be a dropout. -/
def lightLost (c : Chan) (recognised : Nat) (s : State) : State :=
  if dropsOut (s.chan c).seq then atOnce c (dropout c) s else owedDropout c recognised s

/-- The level of LSENSEn is recognised (R49). -/
def recogniseLight (c : Chan) (s : State) : State :=
  let x := s.chan c
  let s1 := setLightLine c (x.lightLine.recognised x.config.lightFilter) s
  if x.lightLine.high then lightRecognised c x.lightLine.since s1
  else lightLost c (x.lightLine.since + x.config.lightFilter.ticks) s1

/-- An edge of LSENSEn to `level` at `edge`, with the recognition that is due at once (R49). -/
def lightEdge (c : Chan) (level : Bool) (edge : Nat) (s : State) : State :=
  let x := s.chan c
  let y := x.lightLine.moved level edge s.now
  let s1 := setLightLine c y s
  if y.high == level && y.due x.config.lightFilter s.now then recogniseLight c s1 else s1

/-- A command about LSENSEn. While a cold reset holds the part the pin alone moves (R180). A recognition that came before the
edge is an event of its own, taken first. -/
def onLight (c : Chan) (level : Bool) (edge : Nat) (s : State) : State :=
  if s.held then setLightLine c ((s.chan c).lightLine.pinned level) s
  else
    let x := s.chan c
    let stamp := stampOf edge s
    let s1 :=
      if x.lightLine.overtaken x.config.lightFilter level stamp s.now then onEvent (recogniseLight c) s else s
    onEvent (lightEdge c level stamp) s1

/-- LIGHT_ASSERTION. A rise of LSENSEn at `edge`; the first one recognised in a lit span is seen (R49, R88). -/
def execLightAssertion (c : Chan) (edge : Nat) (s : State) : Host.Outcome State Fault Refusal :=
  .next (onLight c true edge s)

/-- LIGHT_DEASSERTION. A fall of LSENSEn at `edge`; once recognised, it may be a dropout (R49, R90, R113). -/
def execLightDeassertion (c : Chan) (edge : Nat) (s : State) : Host.Outcome State Fault Refusal :=
  .next (onLight c false edge s)

/-! ## The write gate -/

/-- WGATE_RISE. The write gate rises: it is accepted, judged by the underheat policy, vetoed for a BARRED burst, or
unplanned (R76 to R79). The pin itself moves while the part is held. -/
def execWgateRise (c : Chan) (s : State) : Host.Outcome State Fault Refusal :=
  let x := s.chan c
  if x.wgate then .next s
  else .next (onEvent (fun s => tailAtOnce c (gateRise c s)) (s.setChan c { x with wgate := true }))

/-- WGATE_FALL. The write gate falls: it ends a write, or a BARRED burst's gate (R79, R81 to R84). The pin itself moves
while the part is held. -/
def execWgateFall (c : Chan) (s : State) : Host.Outcome State Fault Refusal :=
  let x := s.chan c
  if x.wgate then .next (onEvent (gateFall c) (s.setChan c { x with wgate := false }))
  else .next s

/-! ## The supply fault line -/

/-- SUPFLT_RISE. The supply fault line rises, and the part enters Safe Dark with cause SUPPLY (R145, R159). The pin itself
moves while the part is held. -/
def execSupfltRise (s : State) : Host.Outcome State Fault Refusal :=
  if s.supflt then .next s else .next (onEvent (enterSafeDark .supply) { s with supflt := true })

/-- SUPFLT_FALL. The supply fault line falls; the level alone changes (R145). -/
def execSupfltFall (s : State) : Host.Outcome State Fault Refusal := .next { s with supflt := false }

/-! ## RSTN

COLD_RESET_BEGIN tells a fall of RSTN and COLD_RESET_ACT a rise of it. The cold reset begins once the line has stayed low for 500
ticks: within the command that tells the fall, and otherwise by the part itself (notes/assumptions/11.md). -/

/-- RSTN after a fall at `edge`. A line that is low already stays so, and a fall earlier than what is known of the line, or later
than the present, is none. -/
def ResetPin.fallen (x : ResetPin) (edge : Int) (now : Nat) : ResetPin :=
  if !x.low && decide (x.since ≤ edge) && decide (edge ≤ (now : Int)) then ⟨true, edge⟩ else x

/-- RSTN has stayed low for 500 ticks (R180). -/
def holdDue (s : State) : Bool := s.rstn.low && decide (s.rstn.since + (Config.coldResetTicks : Int) ≤ (s.now : Int))

/-- A cold reset begins (R180). The state the part is held in is its cold-reset state, in which both lanes carry NONE and 0 and both
vetoes are asserted; time stands still (notes/assumptions/10.md). -/
def beginHold (s : State) : State :=
  driveOutputs { coldState s with held := true, now := s.now, rstn := s.rstn }

/-- A cold reset acts at the rise of RSTN: the timebase restarts at 0, every block takes its cold-reset state, and a supply fault
line that is high counts as a rise (R145, R179, R180). -/
def endHold (s : State) : State :=
  driveOutputs (startNotice (afterReset { coldState s with rstn := ⟨false, 0⟩ }))

/-- COLD_RESET_BEGIN. RSTN fell at `lowSince`: once it has been low for 500 ticks the part is held (R180). -/
def execColdResetBegin (lowSince : Int) (s : State) : Host.Outcome State Fault Refusal :=
  if s.held then .next s
  else
    let s1 := { s with rstn := s.rstn.fallen lowSince s.now }
    .next (if holdDue s1 then beginHold s1 else s1)

/-- COLD_RESET_ACT. RSTN rises: the cold reset acts, and a low pulse shorter than 500 ticks has no effect (R180). A beginning that
was due before the rise is taken first. -/
def execColdResetAct (s : State) : Host.Outcome State Fault Refusal :=
  .next (
    if s.held then endHold s
    else if holdDue s then endHold (beginHold s)
    else if s.rstn.low then { s with rstn := ⟨false, (s.now : Int)⟩ } else s)

end Sys2Proof.Machine
end

