-- ==== Sys2Proof/Machine/Requests.lean ====
section
/-! DEFINITION. The request commands: the intact frame of the request arrives at the receive buffer (R170). It is served at
once when no request is in service, and waits or is answered BUSY otherwise; what its service does is in the service
files. -/

namespace Sys2Proof.Machine

/-- A command on the link is taken: `f` acts, the free transmitter takes what waits for it (R173), and the output lines
follow. While a cold reset holds the part no command of the link has an effect (R180). -/
def onLink (f : State → State) (s : State) : State :=
  if s.held then s else driveOutputs (pump (f s))

/-- IDENT. Answers the fixed identity of the part and changes nothing else (R176). -/
def execIdent (tag : Byte) (body : Payload Unit) (s : State) : Host.Outcome State Fault Refusal :=
  .next (onLink (arrive (.ident tag body)) s)

/-- STATUS. Answers the state of both channels and of the part at the moment it is served (R177). -/
def execStatus (tag : Byte) (body : Payload Unit) (s : State) : Host.Outcome State Fault Refusal :=
  .next (onLink (arrive (.status tag body)) s)

/-- RESET with scope FULL. Its reply is built, and the reset acts at the end of the reply (R178). -/
def execResetFull (tag : Byte) (body : ResetBody) (s : State) : Host.Outcome State Fault Refusal :=
  .next (onLink (arrive (.resetFull tag body)) s)

/-- RESET with scope RUN. Its reply is built, and the reset acts at the end of the reply (R178). -/
def execResetRun (tag : Byte) (body : ResetBody) (s : State) : Host.Outcome State Fault Refusal :=
  .next (onLink (arrive (.resetRun tag body)) s)

/-- CHANNEL_SET. Writes the configuration of an OFFLINE channel, clamped (R51, R52). -/
def execChannelSet (tag : Byte) (body : Payload ChannelSetFields) (s : State) : Host.Outcome State Fault Refusal :=
  .next (onLink (arrive (.channelSet tag body)) s)

/-- CHANNEL_ONLINE. Brings a channel online: its tracker acquires (R53), and the Safety Timer may start (R154). -/
def execChannelOnline (tag : Byte) (body : Payload Byte) (s : State) : Host.Outcome State Fault Refusal :=
  .next (onLink (arrive (.channelOnline tag body)) s)

/-- CHANNEL_OFFLINE. Takes a channel offline: its queue is flushed and its laser goes DARK (R54). -/
def execChannelOffline (tag : Byte) (body : Payload Byte) (s : State) : Host.Outcome State Fault Refusal :=
  .next (onLink (arrive (.channelOffline tag body)) s)

/-- CONDITIONS. Sets the temperatures and the supply limit (R136, R143). -/
def execConditions (tag : Byte) (body : Payload ConditionsFields) (s : State) : Host.Outcome State Fault Refusal :=
  .next (onLink (arrive (.conditions tag body)) s)

/-- HEAD_SET. Writes a head's calibration (R98, R99). -/
def execHeadSet (tag : Byte) (body : Payload HeadSetFields) (s : State) : Host.Outcome State Fault Refusal :=
  .next (onLink (arrive (.headSet tag body)) s)

/-- HEAD_GET. Answers a head's record (R101). -/
def execHeadGet (tag : Byte) (body : Payload Byte) (s : State) : Host.Outcome State Fault Refusal :=
  .next (onLink (arrive (.headGet tag body)) s)

/-- HEAD_STATE PARK. Parks a READY head and flushes its QUEUED and BARRED bursts (R103). -/
def execPark (tag : Byte) (body : HeadStateBody) (s : State) : Host.Outcome State Fault Refusal :=
  .next (onLink (arrive (.park tag body)) s)

/-- HEAD_STATE UNPARK. Returns a PARKED head to READY (R104). -/
def execUnpark (tag : Byte) (body : HeadStateBody) (s : State) : Host.Outcome State Fault Refusal :=
  .next (onLink (arrive (.unpark tag body)) s)

/-- HEAD_STATE CLEAR_FAULT. Returns a head in FAULT to READY with no strikes (R104). -/
def execClearFault (tag : Byte) (body : HeadStateBody) (s : State) : Host.Outcome State Fault Refusal :=
  .next (onLink (arrive (.clearFault tag body)) s)

/-- HEAD_STATE RETIRE. Retires a head that holds no burst (R105). -/
def execRetire (tag : Byte) (body : HeadStateBody) (s : State) : Host.Outcome State Fault Refusal :=
  .next (onLink (arrive (.retire tag body)) s)

/-- PROFILE_SET. Writes a profile, clamped (R115). -/
def execProfileSet (tag : Byte) (body : Payload ProfileSetFields) (s : State) : Host.Outcome State Fault Refusal :=
  .next (onLink (arrive (.profileSet tag body)) s)

/-- PROFILE_GET. Answers a profile (R115). -/
def execProfileGet (tag : Byte) (body : Payload Byte) (s : State) : Host.Outcome State Fault Refusal :=
  .next (onLink (arrive (.profileGet tag body)) s)

/-- RANGE_SET. Writes Range Checkers (R119). -/
def execRangeSet (tag : Byte) (body : Payload (List RangeWrite)) (s : State) : Host.Outcome State Fault Refusal :=
  .next (onLink (arrive (.rangeSet tag body)) s)

/-- RULE_SET. Writes a Rule Table entry (R125, R126). -/
def execRuleSet (tag : Byte) (body : Payload RuleSetFields) (s : State) : Host.Outcome State Fault Refusal :=
  .next (onLink (arrive (.ruleSet tag body)) s)

/-- RULE_GET. Answers a Rule Table entry (R127). -/
def execRuleGet (tag : Byte) (body : Payload Byte) (s : State) : Host.Outcome State Fault Refusal :=
  .next (onLink (arrive (.ruleGet tag body)) s)

/-- COUNTERS. Answers a span of Rule Counters and clears it when asked to (R132). -/
def execCounters (tag : Byte) (body : Payload CountersFields) (s : State) : Host.Outcome State Fault Refusal :=
  .next (onLink (arrive (.counters tag body)) s)

/-- PLAN. Its count is checked and the service of its entries begins (R14). -/
def execPlan (tag : Byte) (body : Payload (List PlanEntry)) (s : State) : Host.Outcome State Fault Refusal :=
  .next (onLink (arrive (.plan tag body)) s)

/-- CANCEL. Removes the bursts its selector reaches, by their states (R20, R21). -/
def execCancel (tag : Byte) (body : Payload CancelFields) (s : State) : Host.Outcome State Fault Refusal :=
  .next (onLink (arrive (.cancel tag body)) s)

/-- SAFETY_SET. Sets the period and the window of the Safety Timer (R152). -/
def execSafetySet (tag : Byte) (body : Payload SafetySetFields) (s : State) : Host.Outcome State Fault Refusal :=
  .next (onLink (arrive (.safetySet tag body)) s)

/-- TEND. Takes one phase of the Safety Timer's protocol (R155). -/
def execTend (tag : Byte) (body : Payload Byte) (s : State) : Host.Outcome State Fault Refusal :=
  .next (onLink (arrive (.tend tag body)) s)

/-- RESUME. Clears Safe Dark (R162). -/
def execResume (tag : Byte) (body : Payload Unit) (s : State) : Host.Outcome State Fault Refusal :=
  .next (onLink (arrive (.resume tag body)) s)

/-- A request of an undefined kind: it is answered BAD_KIND when it is served (R169, R172). -/
def execUndefinedRequest (kind tag : Byte) (s : State) : Host.Outcome State Fault Refusal :=
  .next (onLink (arrive (.undefinedRequest kind tag)) s)

/-- PLAN_ENTRY. The next entry of the PLAN in service is judged and, when it passes, admitted (R14, R15, R19). -/
def execPlanEntry (s : State) : Host.Outcome State Fault Refusal :=
  .next (onLink takeEntry s)

/-- FRAME_ARRIVAL. A train of characters is received; each intact frame it completes arrives at the receive buffer as an
event of its own (R165 to R170). While a cold reset holds the part it has no effect (R180). -/
def execFrameArrival (chars : List Character) (s : State) : Host.Outcome State Fault Refusal :=
  .next (if s.held then s else takeChars chars s)

/-- GAP_LIMIT_DISCARD. A partial frame whose gap has passed the limit is discarded (R168). -/
def execGapLimitDiscard (s : State) : Host.Outcome State Fault Refusal :=
  .next (onLink (fun s => if gapDue s.link s.now then s.modLink fun l => { l with rx := .hunting } else s) s)

/-- TRANSMIT_END. The transmitter ends its frame and becomes free; a reset whose reply it was acts (R173, R178). -/
def execTransmitEnd (s : State) : Host.Outcome State Fault Refusal :=
  .next (onLink endFrame s)

end Sys2Proof.Machine
end

