-- ==== Sys2Proof/Machine/Timed.lean ====
section
/-! DEFINITION. The timed events of the Laser Sequencers, the Heat Monitor and the Safety Timer. Each has an effect only
when it is due (notes/assumptions/4.md). -/

namespace Sys2Proof.Machine

/-- ARMING. The scheduled start of the front burst is reached in a rest state, and the burst arms (R71, R72). -/
def execArming (c : Chan) (s : State) : Host.Outcome State Fault Refusal :=
  .next (onEvent (fun s => if armDue c s then atOnce c (arm c) s else s) s)

/-- A phase end is reached in the laser state `l`. -/
def phaseDue (l : LaserState) (q : Sequencer) (now : Nat) : Bool := q.laser == l && q.phaseEnd.any fun t => t ≤ now

/-- The preheat ends: HOLD, and the burst is READY (R74). -/
def endPreheat (c : Chan) (s : State) : State :=
  (modFront c (fun b => { b with state := .ready }) (endPhase c s)).modSeq c fun q =>
    { q with laser := .hold, phaseEnd := none }

/-- PREHEAT_END (R74). -/
def execPreheatEnd (c : Chan) (s : State) : Host.Outcome State Fault Refusal :=
  .next (onEvent (fun s => if phaseDue .preheat (s.chan c).seq s.now then endPreheat c s else s) s)

/-- WINDOW_CLOSE. The gate window of the front burst closes (R75, R79). -/
def execWindowClose (c : Chan) (s : State) : Host.Outcome State Fault Refusal :=
  .next (onEvent (fun s => if closeDue (s.chan c) s.now then atOnce c (closeWindow c) s else s) s)

/-- The boost ends: SUSTAIN (R80). -/
def endBoost (c : Chan) (s : State) : State :=
  (endPhase c s).modSeq c fun q => { q with laser := .sustain, phaseEnd := none }

/-- BOOST_END (R80). -/
def execBoostEnd (c : Chan) (s : State) : Host.Outcome State Fault Refusal :=
  .next (onEvent (fun s => if phaseDue .boost (s.chan c).seq s.now then endBoost c s else s) s)

/-- OVERRUN. The overrun time is reached: the write is cut short, with a gate duration of length plus Ov (R82). -/
def execOverrun (c : Chan) (s : State) : Host.Outcome State Fault Refusal :=
  .next (onEvent (fun s =>
    let q := (s.chan c).seq
    match q.laser.writing, q.overrunAt with
    | true, some t => if t ≤ s.now then atOnce c (abortWrite c .overrun t) s else s
    | _, _ => s) s)

/-- TAIL_END. The tail is over: the burst, the rest state, and the next arming when it is due (R85). -/
def execTailEnd (c : Chan) (s : State) : Host.Outcome State Fault Refusal :=
  .next (onEvent (fun s => if phaseDue .tail (s.chan c).seq s.now then tailOver c s else s) s)

/-- The head of a span that a flush darkened at its light deadline enters FAULT (R113). -/
def owedAbsent (c : Chan) (s : State) : State :=
  match owesAbsent (s.chan c).seq with
  | none => s
  | some h => atOnce c (fun s => enterFault h .lightAbsent (dropSpan c s)) s

/-- LIGHT_DEADLINE. Light is absent at the deadline (R89); where a flush of the whole queue that fell together with it was
taken first, the head's fault alone is left (R113). -/
def execLightDeadline (c : Chan) (s : State) : Host.Outcome State Fault Refusal :=
  .next (onEvent (fun s =>
    if lightDue (s.chan c).seq s.now then atOnce c (lightAbsent c) s else owedAbsent c s) s)

/-- The anchors counted in BIAS have reached the channel's bias hold (R86). -/
def biasHoldDue (x : Channel) : Bool :=
  x.seq.laser == .bias && x.config.biasHold != 0 && decide (x.config.biasHold ≤ x.seq.biasCount)

/-- BIAS_HOLD_EXPIRY. The bias hold ends and the laser goes DARK (R86). -/
def execBiasHoldExpiry (c : Chan) (s : State) : Host.Outcome State Fault Refusal :=
  .next (onEvent (fun s => if biasHoldDue (s.chan c) then goDark c s else s) s)

/-- A leak instant has come that has not been taken (R147). -/
def leakDue (s : State) : Bool := (s.leaksTaken + 1) * Config.leakInterval ≤ s.now

/-- Every bucket leaks once (R147). -/
def leak (s : State) : State := { s with heads := mapAll Head.leaked s.heads, leaksTaken := s.leaksTaken + 1 }

/-- LEAK_INSTANT (R147). -/
def execLeakInstant (s : State) : Host.Outcome State Fault Refusal :=
  .next (onEvent (fun s => if leakDue s then leak s else s) s)

/-- SAFETY_EXPIRY. The Safety Timer's elapsed time has reached its period: a warning, or Safe Dark (R157). -/
def execSafetyExpiry (s : State) : Host.Outcome State Fault Refusal :=
  .next (onEvent (fun s => if expiryDue s then expire s else s) s)

end Sys2Proof.Machine
end

