-- ==== Sys2Proof/Machine/Dispatch.lean ====
section
/-! DEFINITION. The dispatch of commands: one arm per constructor of `Instr`, each one direct call of its meaning. -/

namespace Sys2Proof.Machine

/-- What a command does to everything but the queue of waiting commands. -/
def exec (i : Instr) (s : State) : Host.Outcome State Fault Refusal :=
    match i with
      -- requests the link answers itself
      | .ident tag body => Sys2Proof.Machine.execIdent tag body s
      | .status tag body => Sys2Proof.Machine.execStatus tag body s
      | .resetFull tag body => Sys2Proof.Machine.execResetFull tag body s
      | .resetRun tag body => Sys2Proof.Machine.execResetRun tag body s
      -- requests of the channels and of the conditions
      | .channelSet tag body => Sys2Proof.Machine.execChannelSet tag body s
      | .channelOnline tag body => Sys2Proof.Machine.execChannelOnline tag body s
      | .channelOffline tag body => Sys2Proof.Machine.execChannelOffline tag body s
      | .conditions tag body => Sys2Proof.Machine.execConditions tag body s
      -- requests of the head table
      | .headSet tag body => Sys2Proof.Machine.execHeadSet tag body s
      | .headGet tag body => Sys2Proof.Machine.execHeadGet tag body s
      | .park tag body => Sys2Proof.Machine.execPark tag body s
      | .unpark tag body => Sys2Proof.Machine.execUnpark tag body s
      | .clearFault tag body => Sys2Proof.Machine.execClearFault tag body s
      | .retire tag body => Sys2Proof.Machine.execRetire tag body s
      -- requests of the profile, checker and rule tables
      | .profileSet tag body => Sys2Proof.Machine.execProfileSet tag body s
      | .profileGet tag body => Sys2Proof.Machine.execProfileGet tag body s
      | .rangeSet tag body => Sys2Proof.Machine.execRangeSet tag body s
      | .ruleSet tag body => Sys2Proof.Machine.execRuleSet tag body s
      | .ruleGet tag body => Sys2Proof.Machine.execRuleGet tag body s
      | .counters tag body => Sys2Proof.Machine.execCounters tag body s
      -- planning
      | .plan tag body => Sys2Proof.Machine.execPlan tag body s
      | .planEntry => Sys2Proof.Machine.execPlanEntry s
      | .cancel tag body => Sys2Proof.Machine.execCancel tag body s
      -- the Safety Timer and Safe Dark
      | .safetySet tag body => Sys2Proof.Machine.execSafetySet tag body s
      | .tend tag body => Sys2Proof.Machine.execTend tag body s
      | .resume tag body => Sys2Proof.Machine.execResume tag body s
      -- the link itself
      | .undefinedRequest kind tag => Sys2Proof.Machine.execUndefinedRequest kind tag s
      | .frameArrival chars => Sys2Proof.Machine.execFrameArrival chars s
      | .gapLimitDiscard => Sys2Proof.Machine.execGapLimitDiscard s
      | .transmitEnd => Sys2Proof.Machine.execTransmitEnd s
      | .coldResetBegin lowSince => Sys2Proof.Machine.execColdResetBegin lowSince s
      | .coldResetAct => Sys2Proof.Machine.execColdResetAct s
      -- recognised line events
      | .syncRecognition ch sync index => Sys2Proof.Machine.execSyncRecognition ch sync index s
      | .missExpiry ch => Sys2Proof.Machine.execMissExpiry ch s
      | .guardAssertion ch edge => Sys2Proof.Machine.execGuardAssertion ch edge s
      | .guardDeassertion ch edge => Sys2Proof.Machine.execGuardDeassertion ch edge s
      | .lightAssertion ch edge => Sys2Proof.Machine.execLightAssertion ch edge s
      | .lightDeassertion ch edge => Sys2Proof.Machine.execLightDeassertion ch edge s
      | .wgateRise ch => Sys2Proof.Machine.execWgateRise ch s
      | .wgateFall ch => Sys2Proof.Machine.execWgateFall ch s
      | .supfltRise => Sys2Proof.Machine.execSupfltRise s
      -- timed events of the Laser Sequencers
      | .arming ch => Sys2Proof.Machine.execArming ch s
      | .preheatEnd ch => Sys2Proof.Machine.execPreheatEnd ch s
      | .windowClose ch => Sys2Proof.Machine.execWindowClose ch s
      | .boostEnd ch => Sys2Proof.Machine.execBoostEnd ch s
      | .overrun ch => Sys2Proof.Machine.execOverrun ch s
      | .tailEnd ch => Sys2Proof.Machine.execTailEnd ch s
      | .lightDeadline ch => Sys2Proof.Machine.execLightDeadline ch s
      | .biasHoldExpiry ch => Sys2Proof.Machine.execBiasHoldExpiry ch s
      -- the Heat Monitor, the Safety Timer and the supply fault line
      | .leakInstant => Sys2Proof.Machine.execLeakInstant s
      | .safetyExpiry => Sys2Proof.Machine.execSafetyExpiry s
      | .supfltFall => Sys2Proof.Machine.execSupfltFall s

end Sys2Proof.Machine
end

