-- ==== Sys2Proof/Machine/Clock.lean ====
section
/-! DEFINITION. Time. The table has no row for a tick of the 500 MHz timebase, so time passes where the queue of commands
is empty: there the part takes an event that is due, or one tick goes by (notes/assumptions/1.md, 2.md). -/

namespace Sys2Proof.Machine

/-- `i`, when it is due. -/
def whenDue (due : Bool) (i : Instr) : List Instr := if due then [i] else []

/-- The overrun time has come (R82). -/
def overrunDue (q : Sequencer) (now : Nat) : Bool := q.laser.writing && q.overrunAt.any fun t => t ≤ now

/-- The events of one channel that are due. -/
def channelDue (c : Chan) (s : State) : List Instr :=
  let x := s.chan c
  let q := x.seq
  whenDue (missDue x s.now) (.missExpiry c) ++
    whenDue (syncDue x s.now) (.syncRecognition c [] []) ++
    whenDue (lineDue x.guardLine x.config.guardFilter true s.now) (.guardAssertion c x.guardLine.since) ++
    whenDue (lineDue x.guardLine x.config.guardFilter false s.now) (.guardDeassertion c x.guardLine.since) ++
    whenDue (lineDue x.lightLine x.config.lightFilter true s.now) (.lightAssertion c x.lightLine.since) ++
    whenDue (lineDue x.lightLine x.config.lightFilter false s.now) (.lightDeassertion c x.lightLine.since) ++
    whenDue (armDue c s) (.arming c) ++
    whenDue (phaseDue .preheat q s.now) (.preheatEnd c) ++
    whenDue (closeDue x s.now) (.windowClose c) ++
    whenDue (phaseDue .boost q s.now) (.boostEnd c) ++
    whenDue (overrunDue q s.now) (.overrun c) ++
    whenDue (phaseDue .tail q s.now) (.tailEnd c) ++
    whenDue (lightDue q s.now || (owesAbsent q).isSome) (.lightDeadline c) ++
    whenDue (biasHoldDue x) (.biasHoldExpiry c)

/-- The transmitter has sent the last character of its frame (R173). -/
def transmitDue (l : Link) (now : Nat) : Bool := l.tx.any fun x => x.endsAt ≤ now

/-- A PLAN in service has an entry left to judge (R14). -/
def planDue (l : Link) : Bool :=
  match l.served with
  | some ⟨_, .planning _ _⟩ => true
  | some ⟨_, .resetting _⟩ => false
  | some ⟨_, .replied⟩ => false
  | none => false

/-- The gap has passed the limit by a whole character: the next character can no longer continue the frame, although it
ends 50 ticks after it starts (R168). -/
def gapOver (l : Link) (now : Nat) : Bool :=
  match l.rx with
  | .hunting => false
  | .assembling _ => l.rxEnd + Config.gapLimit + Config.charTicks < (now : Int)

/-- Every event of the part's own that is due now. While a cold reset holds the part there is none (R180). -/
def dueEvents (s : State) : List Instr :=
  if s.held then []
  else
    whenDue (holdDue s) (.coldResetBegin s.rstn.since) ++ channelDue .c0 s ++ channelDue .c1 s ++
      whenDue (leakDue s) .leakInstant ++
      whenDue (expiryDue s) .safetyExpiry ++ whenDue (transmitDue s.link s.now) .transmitEnd ++
      whenDue (planDue s.link) .planEntry ++ whenDue (gapOver s.link s.now) .gapLimitDiscard

/-- One tick of the timebase; it stands still while a cold reset holds the part (R48, R180). -/
def tick (s : State) : State := if s.held then s else { s with now := s.now + 1 }

/-- Which of the events due together is taken: a free choice (R2; notes/assumptions/2.md). -/
def choose (due : List Instr) (s : State) : Instr := due.getD (Config.order s.choices % due.length) .planEntry

/-- What the part does when no command waits: nothing is due and a tick goes by, or one event that is due is taken. -/
def idle (s : State) : Host.Outcome State Fault Refusal :=
  match dueEvents s with
  | [] => .next (tick s)
  | [i] => exec i s
  | i :: j :: rest => exec (choose (i :: j :: rest) s) { s with choices := s.choices + 1 }

end Sys2Proof.Machine
end

