-- ==== Sys2Proof/Safety.lean ====
section
/-! DEFINITION. The terms in which claims about the part are made: what an idle link is, what a reply or an event leaves,
what an event leaves untouched, and the laws of the device the spec states. -/

namespace Sys2Proof.Machine

/-! ## Outcomes and the link -/

/-- The part is not held by a cold reset, and the link is idle: no request is in service or waiting, and nothing is being
sent or waits to be sent but notices (R170, R173). -/
structure LinkIdle (s : State) : Prop where
  running : s.held = false
  served : s.link.served = none
  waiting : s.link.waiting = none
  replies : s.link.replies = []
  free : s.link.tx = none

/-- The link with a frame just begun (R173). -/
def State.sending (s : State) (f : Frame) (acts : Option Scope) : State :=
  { s with link := { s.link with tx := some ⟨f, s.now + (f.payload.length + 6) * 50, acts⟩ } }

/-- The state `s` with a reply of this kind, tag and payload just begun, and the output lines at their levels. -/
def State.replying (s : State) (kind tag : Byte) (payload : List Byte) : State :=
  driveOutputs (s.sending ⟨kind, tag, payload⟩ none)

/-- What an event leaves when `s` is the state it makes: a notice may go to the free transmitter (R173), and the output
lines are at their levels (R67, R68, R91). -/
def State.settled (s : State) : State := driveOutputs (startNotice s)

/-- A byte received as a character that starts at `t`, with a high stop bit (R165). -/
def goodChar (t : Int) (b : Byte) : Character := ⟨t, 1#1 ++ b⟩

/-- A byte received as a bad character, its stop bit low (R165). -/
def badChar (t : Int) (b : Byte) : Character := ⟨t, 0#1 ++ b⟩

/-- The bytes of a frame as characters sent back to back from `t` on, with good stop bits (R165, R166). -/
def trainAt : Int → List Byte → List Character
  | _, [] => []
  | t, b :: rest => goodChar t b :: trainAt (t + 50) rest

/-- Every request whose payload does not have the length its kind requires (R172). -/
def unfitRequests (tag : Byte) : List Instr :=
  [.ident tag .unfit, .status tag .unfit, .resetFull tag .unfit, .resetRun tag .unfit, .channelSet tag .unfit,
    .channelOnline tag .unfit, .channelOffline tag .unfit, .conditions tag .unfit, .headSet tag .unfit,
    .headGet tag .unfit, .park tag .unfit, .unpark tag .unfit, .clearFault tag .unfit, .retire tag .unfit,
    .profileSet tag .unfit, .profileGet tag .unfit, .rangeSet tag .unfit, .ruleSet tag .unfit, .ruleGet tag .unfit,
    .counters tag .unfit, .plan tag .unfit, .cancel tag .unfit, .safetySet tag .unfit, .tend tag .unfit,
    .resume tag .unfit]

/-- What STATUS reports of a channel: online, tracker state, wedge index, Pest, miss count, laser state, selected head, queue
count, committed current and veto level (R177). -/
def channelStatusBytes (x : Channel) : List Byte :=
  [if x.tracker.state = .off then 0 else 1, x.tracker.state.code] ++
    u16 (match x.tracker.anchor with
      | some a => a.wedge
      | none => 0) ++
    u16 x.tracker.pest ++ u8 (if x.tracker.state = .locked ∨ x.tracker.state = .coasting then x.tracker.miss else 0) ++
    [x.seq.laser.code, headOrNone x.seq.selected] ++ u8 x.queue.length ++ u16 x.seq.committed ++
    [if x.seq.veto then 1 else 0]

/-- What STATUS reports (R177): both channels, the Safe Dark cause, the timer's state, pointer and elapsed milliseconds, S,
the pending S with its indication, both temperatures, and the safe and overflow flags. -/
def statusBytes (s : State) : List Byte :=
  channelStatusBytes s.ch0 ++ channelStatusBytes s.ch1 ++
    [match s.safe with
      | some c => c.code
      | none => 0] ++
    [s.safety.state.code, s.safety.pointer.code] ++
    u16 ((if s.safety.state = .stopped then 0 else s.now - s.safety.restartedAt) / 500000) ++ u16 s.supply.limit ++
    (match s.supply.pending with
      | some p => 1 :: u16 p
      | none => 0 :: u16 0) ++
    s8 s.ch0.temp ++ s8 s.ch1.temp ++
    [(if s.safe.isSome then 1 else 0) ||| (if s.link.overflow then 2 else 0)]

/-- The checker a RANGE_SET write gives: its field, and its bounds clamped to -1,048,576..1,048,575 (R119). -/
def writtenChecker (w : RangeWrite) : RangeChecker where
  field := if w.field = 0 then .track else if w.field = 1 then .temperature else .offset
  low := max (-1048576) (min 1048575 w.low.toInt)
  high := max (-1048576) (min 1048575 w.high.toInt)

/-- The configuration `g` is the one a CHANNEL_SET asks for, with each numeric field outside its range clamped to the nearer
end, and a bias hold of 1 to 15 to 16 (R52). -/
structure configAsApplied (f : ChannelSetFields) (g : ChanConfig) : Prop where
  w : g.w = max 16 (min 1023 f.w.toNat)
  pnom : g.pnom = max 1024 f.pnom.toNat
  tw : g.tw = max 16 (min 4095 f.tw.toNat)
  m : g.m = max 1 (min 15 f.m.toNat)
  syncFilter : g.syncFilter.code = f.syncFilter
  guardFilter : g.guardFilter.code = f.guardFilter
  lightFilter : g.lightFilter.code = f.lightFilter
  early : g.early = min 4095 f.early.toNat
  late : g.late = min 4095 f.late.toNat
  lightGrace : g.lightGrace = min 4095 f.lightGrace.toNat
  overrun : g.overrun = min 4095 f.overrun.toNat
  spacing : g.spacing = max 16 (min 8191 f.spacing.toNat)
  biasHold : g.biasHold = if f.biasHold.toNat = 0 then 0 else max 16 f.biasHold.toNat
  reportOk : g.reportOk = true ↔ f.reportOk = 1
  profile : g.profile.val = min 15 f.profile.toNat
  policy : g.policy.code = f.policy
  counter : counterCode g.counter = f.counter

/-- No numeric field of a CHANNEL_SET lies outside its range (R52). -/
abbrev configInRange (f : ChannelSetFields) : Prop :=
  (16 ≤ f.w.toNat ∧ f.w.toNat ≤ 1023) ∧ 1024 ≤ f.pnom.toNat ∧ (16 ≤ f.tw.toNat ∧ f.tw.toNat ≤ 4095) ∧
    (1 ≤ f.m.toNat ∧ f.m.toNat ≤ 15) ∧ f.early.toNat ≤ 4095 ∧ f.late.toNat ≤ 4095 ∧ f.lightGrace.toNat ≤ 4095 ∧
    f.overrun.toNat ≤ 4095 ∧ (16 ≤ f.spacing.toNat ∧ f.spacing.toNat ≤ 8191) ∧
    (f.biasHold.toNat = 0 ∨ 16 ≤ f.biasHold.toNat) ∧ f.profile.toNat ≤ 15

/-- A burst of the head is held in either queue (R98, R102). -/
def HoldsBurstOf (s : State) (h : Fin 24) : Prop := ∃ c : Chan, ∃ b ∈ (s.chan c).queue, b.head = h

/-- The record `r` is `old` after a HEAD_SET's steps 1 to 4 (R95, R99): the set fields written clamped, ABSENT turned to READY,
the countdown reloaded, the wear-noticed flag cleared by a different threshold, and every other field kept. -/
structure headAsSet (f : HeadSetFields) (c : Chan) (old r : Head) : Prop where
  channel : r.channel = c
  ith25 : r.ith25 = min 1023 f.ith25.toNat
  ktemp : r.ktemp = f.ktemp.toInt
  gain : r.gain = max 16 f.gain.toNat
  imax : r.imax = min 1023 f.imax.toNat
  ibias : r.ibias = min 1023 f.ibias.toNat
  lightEst : r.lightEst = min 2047 f.lightEst.toNat
  coldExtra : r.coldExtra = min 4095 f.coldExtra.toNat
  lt : r.lt = max (-64) (min 63 f.lt.toInt)
  samplePeriod : r.samplePeriod = f.samplePeriod.toNat
  sampleCountdown : r.sampleCountdown = f.samplePeriod.toNat
  strikeLimit : r.strikeLimit = max 1 (min 7 f.strikeLimit.toNat)
  ceiling : r.ceiling = max 1 f.ceiling.toNat
  leak : r.leak = f.leak.toNat
  wearThreshold : r.wearThreshold = f.wearThreshold.toNat
  wearNoticed : r.wearNoticed = true ↔ old.wearNoticed = true ∧ f.wearThreshold.toNat = old.wearThreshold
  state : r.state = if old.state = .absent then .ready else old.state
  strikes : r.strikes = old.strikes
  bucket : r.bucket = old.bucket
  lifetime : r.lifetime = old.lifetime

/-- No numeric field of a HEAD_SET lies outside its range (R95, R98). -/
abbrev headInRange (f : HeadSetFields) : Prop :=
  f.ith25.toNat ≤ 1023 ∧ 16 ≤ f.gain.toNat ∧ f.imax.toNat ≤ 1023 ∧ f.ibias.toNat ≤ 1023 ∧ f.lightEst.toNat ≤ 2047 ∧
    f.coldExtra.toNat ≤ 4095 ∧ (-64 ≤ f.lt.toInt ∧ f.lt.toInt ≤ 63) ∧
    (1 ≤ f.strikeLimit.toNat ∧ f.strikeLimit.toNat ≤ 7) ∧ 1 ≤ f.ceiling.toNat

/-- A burst is QUEUED or BARRED (R22). -/
def waitsToBeLit : BurstState → Bool
  | .queued => true
  | .barred _ => true
  | .heating => false
  | .ready => false
  | .writing => false
  | .cooling _ => false

/-! ## What an event leaves untouched -/

/-- What no event on the channels and no Safe Dark entry touches: the queue of commands, time, the reset state, the supply
fault line, the tables, the rules' captures and the counters. -/
structure SameRest (s t : State) : Prop where
  pending : t.pending = s.pending
  now : t.now = s.now
  rstn : t.rstn = s.rstn
  held : t.held = s.held
  lineEpoch : t.lineEpoch = s.lineEpoch
  supflt : t.supflt = s.supflt
  profiles : t.profiles = s.profiles
  checkers : t.checkers = s.checkers
  rules : t.rules = s.rules
  counters : t.counters = s.counters
  leaksTaken : t.leaksTaken = s.leaksTaken
  choices : t.choices = s.choices

/-- Everything that no event of a Laser Sequencer or a Wedge Tracker touches: `SameRest`, the Safety Timer and Safe Dark. -/
structure SameTables (s t : State) : Prop extends SameRest s t where
  safety : t.safety = s.safety
  safe : t.safe = s.safe

/-- The link but for its Notice Queue, its overflow flag and its transmitter. -/
structure SameRequests (s t : State) : Prop where
  rx : t.link.rx = s.link.rx
  rxEnd : t.link.rxEnd = s.link.rxEnd
  served : t.link.served = s.link.served
  waiting : t.link.waiting = s.link.waiting
  replies : t.link.replies = s.link.replies

/-- The other channel is as it was. -/
def SameOther (c : Chan) (s t : State) : Prop := t.chan c.other = s.chan c.other

/-- Every head record but that of `h` is as it was. -/
def SameHeadsBut (h : Fin 24) (s t : State) : Prop := ∀ k : Fin 24, k ≠ h → t.heads[k] = s.heads[k]

/-- The parts of a channel that no event of its Laser Sequencer touches: its configuration, temperature, tracker, lines and
the level of its write gate. -/
structure SameLines (x y : Channel) : Prop where
  config : y.config = x.config
  temp : y.temp = x.temp
  tracker : y.tracker = x.tracker
  syncLine : y.syncLine = x.syncLine
  indexPin : y.indexPin = x.indexPin
  guardLine : y.guardLine = x.guardLine
  lightLine : y.lightLine = x.lightLine
  wgate : y.wgate = x.wgate

/-- What HEAD_SET and RETIRE of the head `h` leave of all but its record (R92, R99, R105): a Sequencer in BIAS or running a
detached tail on the head is DARK with nothing committed, one that does not hold the head is as it was, and the queues, the
lines, the tables and the heads that no such tail charges are as they were. -/
structure HeadDarkened (h : Fin 24) (s t : State) : Prop where
  darkened : ∀ d : Chan, (s.chan d).seq.selected = some h →
    (s.chan d).seq.laser = .bias ∨ (∃ x, (s.chan d).seq.active = .detached x) →
    (t.chan d).seq.laser = .dark ∧ (t.chan d).seq.selected = none ∧ (t.chan d).seq.committed = 0
  others : ∀ d : Chan, (s.chan d).seq.selected ≠ some h → (t.chan d).seq = (s.chan d).seq
  queues : ∀ d : Chan, (t.chan d).queue = (s.chan d).queue ∧ (t.chan d).gate = (s.chan d).gate ∧
    SameLines (s.chan d) (t.chan d)
  heads : ∀ k : Fin 24, k ≠ h →
    (∀ d x, (s.chan d).seq.selected = some h → (s.chan d).seq.active = .detached x → x.head ≠ k) → t.heads[k] = s.heads[k]
  tables : SameTables s t
  requests : SameRequests s t

/-! ## Lit phases and heat -/

/-- A burst after a lit phase of `ticks` ticks in the laser state `l`: the current applied times the ticks is added to its
accumulation, which saturates at 2^40 - 1 (R44). -/
def Burst.litFor (b : Burst) (l : LaserState) (ticks : Nat) : Burst :=
  { b with acc := min (b.acc + litCurrent l b * ticks) 1099511627775 }

/-- The heat charged for an accumulation, in heat units (R45). -/
def heatOf (acc : Nat) : Nat := min (acc / 4096) 65535

/-- A head record after a charge (R149, R150): the bucket and the lifetime heat saturate, the wear-noticed flag is set once
the lifetime heat has reached a threshold, and a charge of 0 changes nothing. -/
def Head.heated (r : Head) (units : Nat) : Head :=
  if units = 0 then r
  else
    { r with
      bucket := min (r.bucket + units) 65535
      lifetime := min (r.lifetime + units) 4294967295
      wearNoticed := r.wearNoticed ||
        (r.wearThreshold != 0 && decide (r.wearThreshold ≤ min (r.lifetime + units) 4294967295)) }

/-- The active burst of a channel, with the lit phase that runs up to `now` added to it (R44). -/
def Channel.litUpTo (x : Channel) (b : Burst) (now : Nat) : Burst :=
  if x.seq.laser.lit = true then b.litFor x.seq.laser (now - x.seq.phaseStart) else b

/-- The state with the heat charged that a darkening of the whole channel charges (R45, R92, R149): a detached tail's, and
the front burst's, which is 0 for a burst never lit; a BARRED one whose tail has ended is charged too
(notes/assumptions/6.md). `PlacingAndCharging` says what a charge does. -/
def darkenHeat (c : Chan) (s : State) : State :=
  let x := s.chan c
  match x.seq.active, x.queue.head? with
  | .front, some b => charge b.head (heatOf (x.litUpTo b s.now).acc) s
  | .detached d, some b => charge b.head (heatOf b.acc) (charge d.head (heatOf (x.litUpTo d s.now).acc) s)
  | .detached d, none => charge d.head (heatOf (x.litUpTo d s.now).acc) s
  | .idle, some b => charge b.head (heatOf b.acc) s
  | .front, none => s
  | .idle, none => s

/-- A Laser Sequencer gone DARK, with the phase that ran ended at `now` (R92). -/
def Sequencer.darkAt (q : Sequencer) (now : Nat) : Sequencer :=
  { q with
    laser := .dark, selected := none, active := .idle, committed := 0, biasCurrent := 0, biasCount := 0, light := .none
    phaseEnd := none, overrunAt := none, phaseStart := now }

/-! ## What an event leaves behind -/

/-- A channel whose laser enters TAIL at `now` for its front burst, whose record becomes `d` (R81, R82, R87, R90). -/
def Channel.tailing (x : Channel) (d : Burst) (now : Nat) : Channel :=
  { x with
    queue := d :: x.queue.tail
    seq := { x.seq with laser := .tail, phaseEnd := some (now + d.plan.tailLen), overrunAt := none, phaseStart := now } }

/-- The supply limits after the committed sum has become `sum`: a pending limit at or above it is adopted (R144). -/
def supplyAfter (u : Supply) (sum : Nat) : Supply :=
  match u.pending with
  | none => u
  | some p => if sum ≤ p then ⟨p, none⟩ else u

/-- The gate window of the channel's front burst has not closed (R75). -/
def windowOpen (x : Channel) (now : Nat) : Prop := ∀ g, x.gate = some g → (now : Int) < g.time + (x.config.late : Int)

/-- A tail that is running has a length: one of no length has ended at the event that began it (R81). -/
def tailRuns (x : Channel) : Prop := x.seq.laser = .tail → ∀ e, x.seq.phaseEnd = some e → x.seq.phaseStart < e

/-- The close of the gate window about `g` is an event for the front burst `b`, and has not been taken (R75, R94). -/
def awaitsClose (b : Burst) (g : GateTime) : Prop :=
  b.state = .heating ∨ b.state = .ready ∨ ∃ r, b.state = .barred r ∧ g.closed = false

/-- No window of the channel has closed that has yet to be taken for its front burst (R75). -/
def frontStays (x : Channel) (now : Nat) : Prop :=
  ∀ b ∈ x.queue.head?, ∀ g ∈ x.gate, awaitsClose b g → (now : Int) < g.time + (x.config.late : Int)

/-- The channel whose BARRED front burst has seen the close of its gate window (R75, R79): the window is over, and the first
moment of R79 has passed unless the burst's vetoed gate is still asserted. -/
def Channel.windowOver (x : Channel) : Channel :=
  { x with
    gate := x.gate.map fun g => { g with closed := true }
    queue := match x.queue with
      | [] => []
      | b :: rest => (if b.gateVetoed then b else { b with barOver := true }) :: rest }

/-- The expected gate time of a burst, formed from the tracker's latest anchor (R62, R69). -/
def expectedGate (t : Tracker) (b : Burst) : Option GateTime :=
  t.anchor.map fun a =>
    ⟨(a.time : Int) + ((b.target : Int) - (a.count : Int)) * (t.pest : Int) + (b.offset : Int), decide (b.target ≤ a.count), false⟩

/-- The expected gate time of the front burst of a channel whose tracker has just taken an anchor (R69): a fixed one stays,
the anchor of its own wedge fixes it, and any other forms it again while the burst is QUEUED. -/
def regated (x : Channel) : Option GateTime :=
  match x.tracker.anchor, x.queue.head?, x.gate with
  | some a, some b, some g =>
    if g.fixed = true then some g
    else if b.target = a.count then some ⟨(a.time : Int) + (b.offset : Int), true, false⟩
    else if b.state = .queued then expectedGate x.tracker b
    else some g
  | _, _, g => g

/-- A channel whose tracker has just taken an anchor: the expected gate time, and the bias hold count (R69, R86). -/
def Channel.anchored (x : Channel) : Channel :=
  { x with
    gate := regated x
    seq := if x.seq.laser = .bias ∧ x.config.biasHold ≠ 0 then
      { x.seq with biasCount := min (x.seq.biasCount + 1) 65535 } else x.seq }

/-- An anchor of the wedge `n` re-anchors the channel's front burst (R69): `n` is its target, anchored for the first time. -/
def reanchored (x : Channel) (n : Nat) : Prop :=
  ∃ b ∈ x.queue.head?, b.target = n ∧ ∃ g ∈ x.gate, g.fixed = false

/-- A rise of SYNCn that has yet to be recognised has been held for the filter's length at the moment `t` (R49). -/
abbrev syncWaits (x : Channel) (t : Nat) : Prop :=
  x.syncLine.high = true ∧ x.syncLine.filtered = false ∧ x.syncLine.since + x.config.syncFilter.ticks ≤ t

/-- The sync to be recognised carries index: INDEXn rose at or before its leading edge, and has stayed high (R50). -/
abbrev indexCarried (x : Channel) : Prop := x.indexPin.high = true ∧ x.indexPin.since ≤ x.syncLine.since

/-- The channel whose sync has been recognised at the moment `seen`, up to which both its pins have held their levels (R49,
R50). -/
def Channel.syncTaken (x : Channel) (seen : Nat) : Channel :=
  { x with syncLine := ⟨true, seen, true⟩, indexPin := ⟨x.indexPin.high, max x.indexPin.since seen⟩ }

/-- The channel `y` is `x` with its queue flushed and its laser darkened at `now` (R22, R92). `span` is the model's own field,
which holds the span whose head may still enter FAULT (R113). -/
structure ChannelDarkened (x y : Channel) (now : Nat) : Prop where
  queue : y.queue = []
  gate : y.gate = none
  laser : y.seq.laser = .dark
  selected : y.seq.selected = none
  active : y.seq.active = .idle
  committed : y.seq.committed = 0
  bias : y.seq.biasCurrent = 0 ∧ y.seq.biasCount = 0
  light : y.seq.light = .none
  phaseEnd : y.seq.phaseEnd = none
  overrunAt : y.seq.overrunAt = none
  absent : ∀ h d, x.seq.selected = some h → x.seq.light = .awaiting d → x.seq.laser.lit = true → d ≤ now →
    y.seq.darkened = some ⟨h, now, .awaiting d⟩
  dropout : ∀ h, x.seq.selected = some h → x.seq.light = .seen → x.seq.laser.lit = true → x.seq.laser ≠ .tail →
    y.seq.darkened = some ⟨h, now, .seen⟩
  config : y.config = x.config
  temp : y.temp = x.temp
  guardLine : y.guardLine = x.guardLine
  lightLine : y.lightLine = x.lightLine
  wgate : y.wgate = x.wgate

/-- What the loss of a channel's reference leaves (R60, R61): the tracker acquires as `tr`, the queue is flushed and charged,
the laser is DARK, and the SYNC_CHANGE notice carries the count. -/
structure LosesReference (c : Chan) (cause : SyncCause) (tr : Tracker) (s t : State) : Prop where
  tracker : (t.chan c).tracker = tr
  darkened : ChannelDarkened (s.chan c) (t.chan c) s.now
  heads : t.heads = (darkenHeat c s).heads
  link : t.link =
    (placeNotice (.syncChange c cause .acquiring 0 tr.pest 0 (s.chan c).queue.length) (darkenHeat c s)).link
  supply : t.supply = supplyAfter s.supply (s.chan c.other).seq.committed
  other : SameOther c s t
  tables : SameTables s t

/-- What an entry to Safe Dark leaves (R159, R160): the flag and the cause, both queues flushed and charged and both lasers
DARK, the timer STOPPED with pointer A, and the SAFE_DARK notice with both counts; the trackers and the tables are kept. That
channel 0 is charged first is the model's choice (notes/assumptions/27.md). -/
structure EntersSafeDark (cause : SafeCause) (s t : State) : Prop where
  safe : t.safe = some cause
  darkened : ∀ c : Chan, ChannelDarkened (s.chan c) (t.chan c) s.now ∧ (t.chan c).tracker = (s.chan c).tracker ∧
    (t.chan c).syncLine = (s.chan c).syncLine ∧ (t.chan c).indexPin = (s.chan c).indexPin
  safety : t.safety = { s.safety with state := .stopped, pointer := .a }
  supply : t.supply = supplyAfter s.supply 0
  heads : t.heads = (darkenHeat .c1 (darkenHeat .c0 s)).heads
  link : t.link = (placeNotice (.safeDark cause s.ch0.queue.length s.ch1.queue.length)
    (darkenHeat .c1 (darkenHeat .c0 s))).link
  rest : SameRest s t

/-- The BURST_DONE contents of a burst that completes with this verdict and this heat (R10, R13): the sustain current is the
one after a derate, and SAMPLED goes with a latency. -/
def burstReport (b : Burst) (v : Verdict) (heat : Nat) : BurstDone where
  flags := ⟨b.derated, b.plan.capped, b.leadUsed.any fun l => l.cold, b.hotChain, b.underheat, b.latency.isSome⟩
  tag := b.tag
  head := b.head
  channel := b.channel
  verdict := v
  gate := b.gate.map fun g => (g.error, g.stop.getD g.start - g.start)
  sustain := match b.derate with
    | none => b.plan.sustain
    | some f => b.plan.sustain * f / 256
  heat := heat
  latency := b.latency

/-- The record `r` is `old` after the completion of its burst `b` (R46, R108, R149): charged with the burst's heat, sampled or
counted down, and its strikes cleared by a WRITTEN outcome. -/
structure HeadCompleted (b : Burst) (v : Verdict) (old r : Head) : Prop where
  heat : r.bucket = (old.heated (heatOf b.acc)).bucket ∧ r.lifetime = (old.heated (heatOf b.acc)).lifetime ∧
    r.wearNoticed = (old.heated (heatOf b.acc)).wearNoticed
  strikes : r.strikes = if v.result = .written then 0 else old.strikes
  sampled : ∀ m, b.latency = some m →
    r.sampleCountdown = old.samplePeriod ∧
      r.lightEst = (max 0 (min 2047 ((old.lightEst : Int) + Int.tdiv ((m : Int) - (old.lightEst : Int)) 4))).toNat
  counted : b.latency = none →
    r.lightEst = old.lightEst ∧
      r.sampleCountdown = if v.result = .written then old.sampleCountdown - 1 else old.sampleCountdown
  state : r.state = old.state
  calibration : r.channel = old.channel ∧ r.ith25 = old.ith25 ∧ r.ktemp = old.ktemp ∧ r.gain = old.gain ∧
    r.imax = old.imax ∧ r.ibias = old.ibias ∧ r.coldExtra = old.coldExtra ∧ r.lt = old.lt ∧
    r.samplePeriod = old.samplePeriod ∧ r.strikeLimit = old.strikeLimit ∧ r.ceiling = old.ceiling ∧
    r.leak = old.leak ∧ r.wearThreshold = old.wearThreshold

/-- The state with what a completion of `b` charges and reports (R11, R12, R13, R149): the heat, and the BURST_DONE notice,
which a WRITTEN outcome has only where the channel reports it. -/
def completionNoted (reportOk : Bool) (b : Burst) (v : Verdict) (s : State) : State :=
  let t := charge b.head (heatOf b.acc) s
  if v.result = .written ∧ reportOk = false then t
  else placeNotice (.burstDone (burstReport b v (heatOf b.acc))) t

/-- The bursts behind a front burst that has left: the first of them enters BARRED when it carries a decided bar (R71,
R84). -/
def asFront : List Burst → List Burst
  | [] => []
  | b :: rest =>
    (match b.state, b.decidedBar with
      | .queued, some r => { b with state := .barred r }
      | _, _ => b) :: rest

/-- Nothing follows at once when the bursts `rest` come to the front (R75): the first is QUEUED, and the window of one that
carries a decided bar has not closed. -/
def waitsInTurn (x : Channel) (now : Nat) (rest : List Burst) : Prop :=
  ∀ d ∈ rest.head?, d.state = .queued ∧
    (d.decidedBar = none ∨ ∀ g, expectedGate x.tracker d = some g → (now : Int) < g.time + (x.config.late : Int))

/-- The burst `d`, QUEUED with the bar `r` decided on it, meets a window that has closed when it comes to the front (R71, R75). -/
def closesOnEntry (x : Channel) (now : Nat) (d : Burst) (r : Reason) : Prop :=
  d.state = .queued ∧ d.decidedBar = some r ∧ d.gateVetoed = false ∧
    ∃ g, expectedGate x.tracker d = some g ∧ g.time + (x.config.late : Int) ≤ (now : Int)

/-- The front burst of the channel `c`, which stands as `b`, has completed with the verdict `v` between `s` and `t` (R11): the
bursts `rest` are left in the queue, the head and the notices are as the completion leaves them, and all else but the
Sequencer and the supply is as it was. -/
structure Completes (c : Chan) (b : Burst) (v : Verdict) (rest : List Burst) (s t : State) : Prop where
  queue : (t.chan c).queue = asFront rest
  gate : (t.chan c).gate = rest.head?.bind (expectedGate (s.chan c).tracker)
  head : HeadCompleted b v s.heads[b.head] t.heads[b.head]
  heads : SameHeadsBut b.head s t
  link : t.link = (completionNoted (s.chan c).config.reportOk b v s).link
  lines : SameLines (s.chan c) (t.chan c)
  other : SameOther c s t
  tables : SameTables s t

/-- The rest state a tail of `b` settles (R42, R85): BIAS on its head at its bias current, which the channel commits, when
the head is READY and the bias fits the headroom, and DARK with nothing committed otherwise. -/
def RestSettled (c : Chan) (b : Burst) (s t : State) : Prop :=
  (if s.heads[b.head].state = .ready ∧
      (b.plan.bias : Int) ≤ (s.supply.effective : Int) - ((s.chan c.other).seq.committed : Int) then
    (t.chan c).seq.laser = .bias ∧ (t.chan c).seq.selected = some b.head ∧ (t.chan c).seq.active = .idle ∧
      (t.chan c).seq.biasCurrent = b.plan.bias ∧ (t.chan c).seq.committed = b.plan.bias ∧
      (t.chan c).seq.biasCount = 0 ∧ (t.chan c).seq.light = .none
  else
    (t.chan c).seq.laser = .dark ∧ (t.chan c).seq.selected = none ∧ (t.chan c).seq.active = .idle ∧
      (t.chan c).seq.committed = 0 ∧ (t.chan c).seq.light = .none) ∧
  t.supply = supplyAfter s.supply ((t.chan c).seq.committed + (s.chan c.other).seq.committed)

/-- The scheduled start of the front burst is due in the present rest state (R70, R71). -/
def startDue (x : Channel) (now : Nat) : Prop :=
  ∃ b ∈ x.queue.head?, b.state = .queued ∧ b.decidedBar = none ∧ ∃ g, x.gate = some g ∧
    g.time - ((if x.seq.laser = .bias ∧ x.seq.selected = some b.head then b.plan.lead else b.plan.coldLead : Nat) : Int) ≤
      (now : Int)

/-- The hot-chain condition for the writing burst `b` and the burst `d` behind it (R83). -/
def hotChains (x : Channel) (b d : Burst) (now : Nat) : Prop :=
  d.state = .queued ∧ d.decidedBar = none ∧ d.head = b.head ∧ ∃ g, expectedGate x.tracker d = some g ∧
    g.time - (d.plan.lead : Int) ≤ (now : Int) + (b.plan.tailLen : Int)

/-- An edge of a filtered line to `level`, stamped `stamp`, whose level is recognised at once (R49). The line has the other
level and has not been seen to hold it beyond the edge, or has the level already and waits for its recognition; `since` is the
moment it took the level, and it has held it for the filter's length. -/
def edgeRecognised (x : Line) (f : Filter) (level : Bool) (stamp since now : Nat) : Prop :=
  x.filtered ≠ level ∧ (x.high ≠ level ∧ x.since ≤ stamp ∧ since = stamp ∨ x.high = level ∧ since = x.since) ∧
    since + f.ticks ≤ now

/-- An edge that moves the pin alone (R49): its level has still to be held, or it ends a pulse shorter than the filter's
length. -/
def edgeMoves (x : Line) (f : Filter) (level : Bool) (stamp now : Nat) : Prop :=
  x.high ≠ level ∧ x.since ≤ stamp ∧ stamp ≤ now ∧
    (x.filtered ≠ level ∧ now < stamp + f.ticks ∨ x.filtered = level ∧ stamp < x.since + f.ticks)

/-- An edge that comes after the recognition, still to be taken, of the level it ends (R49). -/
def edgeOvertakes (x : Line) (f : Filter) (level : Bool) (stamp now : Nat) : Prop :=
  x.high ≠ level ∧ x.filtered = level ∧ x.since + f.ticks ≤ stamp ∧ stamp ≤ now

/-- No edge of the line (R49): it has the level already, with nothing to recognise yet, or the edge is earlier than what is
known of the line or later than the present. -/
def edgeIdle (x : Line) (f : Filter) (level : Bool) (stamp now : Nat) : Prop :=
  x.high = level ∧ (x.filtered = level ∨ now < x.since + f.ticks) ∨ x.high ≠ level ∧ (stamp < x.since ∨ now < stamp)

/-- The burst is one that the selector of a CANCEL reaches in the queue of the channel `c` (R20). -/
def reaches (f : CancelFields) (c : Chan) (b : Burst) : Bool :=
  if f.selector = 0 then b.tag == f.value
  else if f.selector = 1 then f.value.toNat == (chanCode c).toNat
  else b.head.val == f.value.toNat

/-- A burst that a CANCEL leaves: WRITING or COOLING (R20). -/
def runsOn : BurstState → Bool
  | .writing => true
  | .cooling _ => true
  | .queued => false
  | .heating => false
  | .ready => false
  | .barred _ => false

/-- The channel once a CANCEL has removed the bursts that `out` selects (R20): the others stay in their order. Where the front
burst is among them, the next has its expected gate time formed (R69); a HEATING or READY one leaves the laser in a detached
TAIL, and the running tail of a BARRED one goes on detached (R93). -/
def Channel.cancelled (x : Channel) (out : Burst → Bool) (now : Nat) : Channel :=
  let kept := x.queue.filter fun b => !out b
  match x.queue with
  | [] => x
  | b :: _ =>
    if out b then
      { x with
        queue := asFront kept
        gate := kept.head?.bind (expectedGate x.tracker)
        seq := match b.state with
          | .heating | .ready =>
            { x.seq with
              laser := .tail
              active := .detached (b.litFor x.seq.laser (now - x.seq.phaseStart))
              phaseEnd := some (now + b.plan.tailLen)
              overrunAt := none
              phaseStart := now }
          | .barred _ => if x.seq.active = .front then { x.seq with active := .detached b } else x.seq
          | .queued | .writing | .cooling _ => x.seq }
    else { x with queue := kept }

/-- The state with the heat charged that a CANCEL charges at once: that of a BARRED front burst with no tail running, 0 for one
never lit (R20; notes/assumptions/6.md). -/
def cancelHeat (c : Chan) (out : Burst → Bool) (s : State) : State :=
  match (s.chan c).queue with
  | [] => s
  | b :: _ =>
    match b.state with
    | .barred _ => if out b ∧ (s.chan c).seq.active ≠ .front then charge b.head (heatOf b.acc) s else s
    | .queued | .heating | .ready | .writing | .cooling _ => s

/-- The absolute target wedge of a PLAN entry (R4): `d` wedges after the latest anchor, `d` in 1..W, and `laps` revolutions
more. -/
def targetAfter (w : Nat) (a : Anchor) (wedge laps : Nat) : Nat :=
  let d := (((wedge : Int) - (a.wedge : Int)) % (w : Int)).toNat
  a.count + (if d = 0 then w else d) + laps * w

/-- A burst held in the queue conflicts with a new one at this position and of this length (R5, R17): one does not end the
spacing before the other begins. -/
def conflicts (spacing position length : Nat) (b : Burst) : Prop :=
  (b.position < position ∧ position < b.position + b.length + spacing) ∨
    (position ≤ b.position ∧ b.position < position + length + spacing)

/-- A rule matches a key (R121): its masked head, its kind set, its channel and its masked range bits accept it. -/
structure RuleMatches (r : RuleEntry) (k : Key) : Prop where
  head : BitVec.ofNat 5 k.head.val &&& r.headMask = r.headValue &&& r.headMask
  kind : r.kinds.toNat.testBit k.kind.byte.toNat = true
  channel : r.channel = .any ∨ r.channel = .only k.channel
  range : k.rangeBits &&& r.rangeMask = r.rangeValue &&& r.rangeMask

/-- A rule of the stage (`select` or TRIM) that is valid and matches the key (R122, R123). -/
def RuleTakes (rules : Vector RuleEntry 64) (select : Bool) (k : Key) (i : Fin 64) : Prop :=
  rules[i].valid = true ∧ (select = true ↔ ∃ p u, rules[i].action = .select p u) ∧ RuleMatches rules[i] k

/-- `i` is the first rule of the stage that takes the key, or `none` when no rule does (R122, R123). -/
def FirstRule (rules : Vector RuleEntry 64) (select : Bool) (k : Key) (i : Option (Fin 64)) : Prop :=
  match i with
  | none => ∀ j, ¬ RuleTakes rules select k j
  | some i => RuleTakes rules select k i ∧ ∀ j, j < i → ¬ RuleTakes rules select k j

/-! ## The laws of the device -/

/-- The output lines are at the levels their state gives them (R67, R68, R91), and a part held by a cold reset has both
channels OFFLINE (R180). -/
structure OutputLaw (s : State) : Prop where
  settled : driveOutputs s = s
  held : s.held = true → s.ch0.online = false ∧ s.ch1.online = false

/-- Whenever a channel's write gate is asserted and its laser is not writing a burst whose gate was accepted, its veto line
is asserted (R91). -/
def VetoLaw (s : State) : Prop :=
  ∀ c : Chan, (s.chan c).wgate = true → (s.chan c).seq.laser.writing = false → (s.chan c).seq.veto = true

/-- The burst whose currents the laser is running (R66): the front burst, or a burst removed with its tail running. -/
def runsBurst (x : Channel) (b : Burst) : Prop :=
  x.seq.active = .front ∧ x.queue.head? = some b ∨ x.seq.active = .detached b

/-- The drive lane carries what R67's table gives the laser state (R68): NONE and 0 in DARK, the selected head and the bias current
in BIAS, and in a lit state the selected head and the current of the active burst, after its derate. -/
structure laneMatches (x : Channel) : Prop where
  dark : x.seq.laser = .dark → x.seq.lane = ⟨none, 0⟩
  bias : x.seq.laser = .bias → x.seq.lane = ⟨x.seq.selected, x.seq.biasCurrent⟩
  heats : ∀ b, runsBurst x b → x.seq.laser = .preheat ∨ x.seq.laser = .hold ∨ x.seq.laser = .tail →
    x.seq.lane = ⟨x.seq.selected, b.currents.preheat⟩
  boosts : ∀ b, runsBurst x b → x.seq.laser = .boost → x.seq.lane = ⟨x.seq.selected, b.currents.boost⟩
  sustains : ∀ b, runsBurst x b → x.seq.laser = .sustain → x.seq.lane = ⟨x.seq.selected, b.currents.sustain⟩

/-- The Notice Queue never holds more than 32 notices (R174). -/
def NoticeLaw (s : State) : Prop := s.link.notices.length ≤ 32

/-- A queue's bursts stand in strictly ascending nominal position, and each is at least the previous one's position plus
its length plus Smin (R5). -/
def Spaced (smin : Nat) (q : List Burst) : Prop :=
  q.Pairwise (fun a b => a.position < b.position) ∧ q.IsChain (fun a b => a.position + a.length + smin ≤ b.position)

/-- The laws of the queues (R5), with what makes them hold: a channel whose tracker has no lock holds no burst (R15,
R60). -/
structure QueueLaw (s : State) : Prop where
  capacity : ∀ c : Chan, (s.chan c).queue.length ≤ 20
  spaced : ∀ c : Chan, Spaced (s.chan c).config.spacing (s.chan c).queue
  unsynced : ∀ c : Chan, (s.chan c).tracker.synced = false → (s.chan c).queue = []

/-- No tag is held by more than one burst across the two queues (R6). -/
def TagLaw (s : State) : Prop := ((s.ch0.queue ++ s.ch1.queue).map Burst.tag).Nodup

/-- A burst is lit or its outcome is decided: HEATING, READY, WRITING or COOLING (R7). -/
def BurstState.begun : BurstState → Bool
  | .heating | .ready | .writing => true
  | .cooling _ => true
  | .queued => false
  | .barred _ => false

/-- The laser state, the active burst and the front burst of a channel go together as R67's table gives. -/
def phaseMatches (x : Channel) : Prop :=
  match x.seq.laser, x.seq.active with
  | .dark, .idle => x.seq.selected = none ∧ ∀ b ∈ x.queue.head?, b.state.begun = false
  | .bias, .idle => x.seq.selected.isSome = true ∧ ∀ b ∈ x.queue.head?, b.state.begun = false
  | .preheat, .front => ∃ b ∈ x.queue.head?, b.state = .heating
  | .hold, .front => ∃ b ∈ x.queue.head?, b.state = .ready
  | .boost, .front => ∃ b ∈ x.queue.head?, b.state = .writing
  | .sustain, .front => ∃ b ∈ x.queue.head?, b.state = .writing
  | .tail, .front => ∃ b ∈ x.queue.head?, (∃ v, b.state = .cooling v) ∨ (∃ r, b.state = .barred r)
  | .tail, .detached _ => ∀ b ∈ x.queue.head?, b.state.begun = false
  | _, _ => False

/-- The burst states of R7 against the laser states of R67, on both channels: the laser matches the front burst, and every
later burst is QUEUED. -/
def PhaseLaw (s : State) : Prop :=
  ∀ c : Chan, phaseMatches (s.chan c) ∧ ∀ b ∈ (s.chan c).queue.tail, b.state = .queued

/-- Every burst that a channel holds, or whose detached tail it runs, is of a head whose record names that channel (R3,
R98). -/
def HomeLaw (s : State) : Prop :=
  ∀ c : Chan, (∀ b ∈ (s.chan c).queue, s.heads[b.head].channel = c) ∧
    ∀ b, (s.chan c).seq.active = .detached b → s.heads[b.head].channel = c

/-- The commitment of a channel is the one R67's table gives its laser state: 0 in DARK, the bias current in BIAS, and the
active burst's Ib after its derate in every lit state, in which the laser is lit on that burst's head. -/
def CommitLaw (s : State) : Prop :=
  ∀ c : Chan,
    ((s.chan c).seq.laser = .dark → (s.chan c).seq.committed = 0) ∧
    ((s.chan c).seq.laser = .bias → (s.chan c).seq.committed = (s.chan c).seq.biasCurrent) ∧
    ((s.chan c).seq.laser.lit = true →
      ∃ b, (s.chan c).activeBurst = some b ∧ (s.chan c).seq.committed = b.currents.boost ∧
        (s.chan c).seq.selected = some b.head)

/-- While the part is in Safe Dark, or a channel's tracker is neither LOCKED nor COASTING, that channel's queue is empty
and its laser is DARK (R67, R158). -/
def DarkLaw (s : State) : Prop :=
  ∀ c : Chan, s.safe.isSome = true ∨ (s.chan c).tracker.synced = false →
    (s.chan c).queue = [] ∧ (s.chan c).seq.laser = .dark

/-- A request waits only behind one in service (R170, R171). -/
def PlaceLaw (s : State) : Prop := s.link.waiting ≠ none → s.link.served ≠ none

/-- A QUEUED burst has lit nothing (R44). -/
def UnlitLaw (s : State) : Prop := ∀ c : Chan, ∀ b ∈ (s.chan c).queue, b.state = .queued → b.acc = 0

/-- The train of characters completes a frame that is a RESUME (R162, R168). -/
def carriesResume (cs : List Character) (s : State) : Prop :=
  ∃ (pre post : List Character) (k : Character) (u : State) (f : Frame), cs = pre ++ k :: post ∧
    Machine.exec (.frameArrival pre) s = .next u ∧ (u.lineEpoch : Int) ≤ k.start + 50 ∧
    (receiveChar (u.link.rx.afterGap (k.start - u.link.rxEnd)) k).2 = some f ∧
    ∃ tag, requestOf f = .resume tag (.fits ())

/-- The law of the laser supply (R139): the committed sum never exceeds S, and it exceeds S_eff only while a lower limit is
pending. A burst that may still be armed carries no derate factor (R3). -/
structure SupplyLaw (s : State) : Prop where
  within : s.committedSum ≤ s.supply.limit
  waits : ∀ p, s.supply.pending = some p → p < s.committedSum
  fresh : ∀ c : Chan, ∀ b ∈ (s.chan c).queue, b.state = .queued → b.decidedBar = none → b.derate = none

/-- The ranges of a head record's fields (R95). -/
structure HeadRange (r : Head) : Prop where
  ith25 : r.ith25 ≤ 1023
  ktemp : -128 ≤ r.ktemp ∧ r.ktemp ≤ 127
  gain : 16 ≤ r.gain ∧ r.gain ≤ 255
  imax : r.imax ≤ 1023
  ibias : r.ibias ≤ 1023
  lightEst : r.lightEst ≤ 2047
  coldExtra : r.coldExtra ≤ 4095
  lt : -64 ≤ r.lt ∧ r.lt ≤ 63
  strikeLimit : 1 ≤ r.strikeLimit ∧ r.strikeLimit ≤ 7
  strikes : r.strikes ≤ 7
  ceiling : 1 ≤ r.ceiling ∧ r.ceiling ≤ 65535
  samplePeriod : r.samplePeriod ≤ 65535
  countdown : r.sampleCountdown ≤ r.samplePeriod
  leak : r.leak ≤ 255
  bucket : r.bucket ≤ 65535
  lifetime : r.lifetime ≤ 4294967295
  wearThreshold : r.wearThreshold ≤ 4294967295

/-- Every head record's fields lie in their ranges (R95, R149). -/
def HeadLaw (s : State) : Prop := ∀ h : Fin 24, HeadRange s.heads[h]

/-- The Safety Timer's period is within 2..2000 ms, a STOPPED timer points at A, and the timer is STOPPED exactly while
both channels are OFFLINE or the part is in Safe Dark (R151, R154, R159, R162). -/
structure TimerLaw (s : State) : Prop where
  period : 2 ≤ s.safety.period ∧ s.safety.period ≤ 2000
  pointer : s.safety.state = .stopped → s.safety.pointer = .a
  offline : s.ch0.online = false → s.ch1.online = false → s.safety.state = .stopped
  safe : s.safe.isSome = true → s.safety.state = .stopped
  runs : s.ch0.online = true ∨ s.ch1.online = true → s.safe = none → s.safety.state ≠ .stopped
  warned : s.safety.state = .warned → effectiveWindow s.safety.period s.safety.window = .open100

end Sys2Proof.Machine
end

