-- ==== Sys2Proof/Certificates/Slice0/Obligations.lean ====
section
/-! DEFINITION. The statements for the provers. Each docstring names the rules of spec/ that the statement formalises. A
request statement is about a request that arrives on an idle link, where its service and the start of its reply are one
event (R170, R171, R173); `ArrivalTakesAPlace` and `TransmitEndSendsWhatWaits` say what happens on a busy link. -/

open Sys2Proof Sys2Proof.Machine

/-! ## The step -/

/-- With a command at the front of its queue, a step is that command's effect with the queue's rest. -/
def Obligations.StepTakesTheFrontCommand : Prop :=
  ∀ (i : Instr) (rest : List Instr) (s : State), s.pending = i :: rest → step s = exec i { s with pending := rest }

/-- With an empty queue the part goes on by itself (the model's choice: notes/assumptions/1.md and 2.md): when none of its
own events is due, one tick of the timebase goes by, or nothing changes while a cold reset holds the part; otherwise one
event that is due is taken. -/
def Obligations.EmptyQueueLetsTimePass : Prop :=
  ∀ s : State, s.pending = [] →
    (dueEvents s = [] → s.held = false → step s = .next { s with now := s.now + 1 }) ∧
    (s.held = true → step s = .next s) ∧
    (dueEvents s ≠ [] → ∃ i ∈ dueEvents s, ∃ n : Nat, step s = exec i { s with choices := n })

/-- Every command has an effect in every state: none faults and none is refused, and none touches the queue of waiting
commands. The rules give every request an answer and every event an effect; that the part answers a next state in every state,
and that a command for an event that is not due has no effect, is the model's reading (notes/assumptions/20.md and 4.md). -/
def Obligations.EveryCommandGoesOn : Prop :=
  ∀ (i : Instr) (s : State), ∃ t : State, exec i s = .next t ∧ t.pending = s.pending

/-! ## Reset -/

/-- The part right after a cold reset: the reset values of the trackers, the sequencers, the channel configurations, the
queues, the heads, the profiles, the checkers, the rules, the counters, the conditions, the timer, Safe Dark and the link
(R25, R52, R65, R66, R97, R114, R118, R133, R134, R137, R138, R151, R158, R179). The levels of the input pins and the trackers'
good-interval count of 0 are the model's choice (notes/assumptions/3.md and 31.md). -/
def Obligations.ColdResetValues : Prop :=
  (∀ c : Chan,
    ((State.reset.chan c).tracker = ⟨.off, none, 8192, 0, 0⟩ ∧ (State.reset.chan c).queue = [] ∧
      (State.reset.chan c).temp = 25 ∧
      (State.reset.chan c).config =
        ⟨512, 8192, 256, 3, .ticks8, .ticks8, .ticks8, 64, 64, 256, 256, 64, 4096, false, 0, .veto, none⟩ ∧
      (State.reset.chan c).seq =
        ⟨.dark, none, .idle, ⟨none, 0⟩, 0, 0, 0, .none, none, none, true, 0, 0, none⟩ ∧
      (State.reset.chan c).guardLine.filtered = false ∧ (State.reset.chan c).lightLine.filtered = false)) ∧
  (∀ h : Fin 24, State.reset.heads[h] =
    ⟨.absent, .c0, 0, 0, 16, 0, 0, 0, 0, 0, 0, 0, 3, 0, 65535, 0, 0, 0, 0, false⟩) ∧
  (∀ i : Fin 16, State.reset.profiles[i] = ⟨0, 0, 0, 0, 0, 0⟩) ∧
  (∀ i : Fin 8, State.reset.checkers[i] = ⟨.track, 1048575, 0⟩) ∧
  (∀ i : Fin 64, State.reset.rules[i] = ⟨false, 0, 0, 0, .any, 0, 0, none, .select 0 .veto, false⟩) ∧
  (∀ i : Fin 16, State.reset.counters[i] = 0) ∧
  State.reset.supply = ⟨0, none⟩ ∧ State.reset.safety.state = .stopped ∧ State.reset.safety.pointer = .a ∧
  State.reset.safety.period = 100 ∧ State.reset.safety.window = .open100 ∧ State.reset.safe = none ∧
  State.reset.now = 0 ∧ State.reset.rstn.low = false ∧ State.reset.link.rx = .hunting ∧ State.reset.link.served = none ∧
  State.reset.link.waiting = none ∧ State.reset.link.replies = [] ∧ State.reset.link.tx = none ∧
  State.reset.link.notices = [] ∧ State.reset.link.overflow = false

/-- The part meets every law right after a cold reset. -/
def Obligations.ResetMeetsTheLaws : Prop :=
  OutputLaw State.reset ∧ VetoLaw State.reset ∧ NoticeLaw State.reset ∧ QueueLaw State.reset ∧ TagLaw State.reset ∧
    PhaseLaw State.reset ∧ CommitLaw State.reset ∧ HomeLaw State.reset ∧ UnlitLaw State.reset ∧ DarkLaw State.reset ∧
    SupplyLaw State.reset ∧ PlaceLaw State.reset ∧ HeadLaw State.reset ∧ TimerLaw State.reset

/-! ## The laws that every step keeps -/

/-- Every step keeps each veto line exactly as R91 gives it: asserted while the gate is asserted and the laser is not in
BOOST or SUSTAIN, or while the channel is OFFLINE, or while the part is in Safe Dark, and deasserted otherwise. Every step leaves each
drive lane as the tables of R67 and R68 give: NONE and 0 in DARK, the selected head with the bias current in BIAS, with Ip' of the
active burst in PREHEAT, HOLD and TAIL, with its Ib' in BOOST and with its Is' in SUSTAIN. From a state that meets the phase table a
lit laser has an active burst, whose head the lane carries, and a laser in BIAS has a head, at the current the channel commits. -/
def Obligations.StepKeepsTheVetoRule : Prop :=
  ∀ s t : State, OutputLaw s → step s = .next t →
    OutputLaw t ∧
      (∀ c : Chan, (t.chan c).seq.veto = true ↔
        ((t.chan c).wgate = true ∧ (t.chan c).seq.laser ≠ .boost ∧ (t.chan c).seq.laser ≠ .sustain) ∨
          (t.chan c).tracker.state = .off ∨ t.safe ≠ none) ∧
      (∀ c : Chan, laneMatches (t.chan c)) ∧
      (PhaseLaw s → CommitLaw s → ∀ c : Chan,
        ((t.chan c).seq.laser = .bias →
          ∃ h, (t.chan c).seq.selected = some h ∧ (t.chan c).seq.lane = ⟨some h, (t.chan c).seq.committed⟩) ∧
        ((t.chan c).seq.laser ≠ .dark → (t.chan c).seq.laser ≠ .bias →
          ∃ b, runsBurst (t.chan c) b ∧ (t.chan c).seq.selected = some b.head ∧ (t.chan c).seq.lane.head = some b.head))

/-- Every step keeps both queues within 20 bursts, in ascending nominal position and spaced (R5). -/
def Obligations.StepKeepsTheQueueLaw : Prop :=
  ∀ s t : State, QueueLaw s → step s = .next t → QueueLaw t

/-- Every step keeps the tags of the held bursts distinct (R6), and the Notice Queue within 32 notices (R174). -/
def Obligations.StepKeepsTagsDistinctAndNoticesBounded : Prop :=
  ∀ s t : State, step s = .next t → (TagLaw s → TagLaw t) ∧ (NoticeLaw s → NoticeLaw t)

/-- Every step keeps the laser state, the active burst, the front burst and the commitment of each channel together as the
table of R67 gives, with every burst behind the front one QUEUED (R7). It keeps every burst, held or running a detached tail, on
the channel that its head's record names (R3, R98), and every QUEUED burst with nothing accumulated (R44). -/
def Obligations.StepKeepsThePhaseTable : Prop :=
  ∀ s t : State, PhaseLaw s → CommitLaw s → step s = .next t →
    PhaseLaw t ∧ CommitLaw t ∧ (HomeLaw s → HomeLaw t) ∧ (UnlitLaw s → UnlitLaw t)

/-- Every step keeps the committed sum within S, and above a pending limit only while that limit is pending; and while a limit
is pending, before a step and after it, the committed sum does not rise (R139, R144). Every step keeps a request waiting only
behind one in service (R170, R171). -/
def Obligations.StepKeepsTheSupplyLaw : Prop :=
  ∀ s t : State, step s = .next t →
    (SupplyLaw s → SupplyLaw t) ∧ (PlaceLaw s → PlaceLaw t) ∧
    (SupplyLaw s → PlaceLaw s → s.supply.pending ≠ none → t.supply.pending ≠ none → t.committedSum ≤ s.committedSum)

/-- Every step keeps every field of every head record in its range (R95, R110, R149). -/
def Obligations.StepKeepsTheHeadRanges : Prop :=
  ∀ s t : State, HeadLaw s → step s = .next t → HeadLaw t

/-- Every step keeps a channel without lock, and both channels in Safe Dark, with an empty queue and a DARK laser (R67,
R158). Every step keeps the Safety Timer's period in range, and the timer STOPPED, with pointer A, exactly while both channels
are OFFLINE or the part is in Safe Dark (R151, R154, R159, R162). Safe Dark ends only by a RESUME, which is the command taken, a
frame of the train received or the request that was waiting, and with SUPFLT low, or by a reset: one that acts at the end of its
reply, or a cold reset (R158, R162, R178, R180). -/
def Obligations.StepKeepsTheDarkAndTimerLaws : Prop :=
  ∀ s t : State, step s = .next t →
    (DarkLaw s → DarkLaw t) ∧ (TimerLaw s → TimerLaw t) ∧
    (s.safe ≠ none → t.safe = none →
      (s.supflt = false ∧
        ((∃ tag, s.pending.head? = some (.resume tag (.fits ()))) ∨
          (∃ cs, s.pending.head? = some (.frameArrival cs) ∧ carriesResume cs s) ∨
          (∃ tag, s.link.waiting = some (.resume tag (.fits ()))))) ∨
      (∃ x sc, s.link.tx = some x ∧ x.endsAt ≤ s.now ∧ x.acts = some sc) ∨
      (∃ low, s.pending.head? = some (.coldResetBegin low)) ∨ s.pending.head? = some .coldResetAct ∨
      (s.pending = [] ∧ s.rstn.low = true ∧ s.rstn.since + 500 ≤ (s.now : Int)))

/-! ## The link -/

/-- A frame sent back to back to a hunting receiver is taken as exactly the request it carries (R166, R167, R168): whatever
its kind, tag and payload of at most 248 bytes, its arrival is the arrival of the command its kind and payload decode to,
on the link whose receiver is hunting after the frame's last character. What comes behind it in the same train meets the state
that arrival leaves: that the frames of one train arrive in turn is the model's choice (notes/assumptions/12.md). So is it that
a frame whose first character was under way when a reset acted is received (notes/assumptions/34.md). -/
def Obligations.FrameIsReceivedAsItsRequest : Prop :=
  ∀ (f : Frame) (t : Int) (s s1 : State), f.payload.length ≤ 248 → s.held = false → s.link.rx = .hunting →
    (s.lineEpoch : Int) ≤ t + 50 → s1 = { s with link := { s.link with rxEnd := t + 50 * (f.payload.length + 6) } } →
    exec (.frameArrival (trainAt t (frameWire f))) s = exec (requestOf f) s1 ∧
      ∀ (u : State) (more : List Character), exec (requestOf f) s1 = .next u →
        exec (.frameArrival (trainAt t (frameWire f) ++ more)) s = exec (.frameArrival more) u

/-- The bits of the link (R165, R166). While a frame is sent, PLTX carries its bytes back to back, ten bits of 5 ticks to a
byte: a low start bit, then the levels that a receiver takes as that byte with a high stop bit. At and after the frame's end, and
whenever nothing is sent, PLTX is high. -/
def Obligations.PltxCarriesTheFrame : Prop :=
  (∀ (l : Link) (now : Nat), l.tx = none → pltx l now = true) ∧
  (∀ (l : Link) (x : Sending) (start i : Nat) (w : Byte), l.tx = some x →
    x.endsAt = start + 50 * (x.frame.payload.length + 6) → (frameWire x.frame)[i]? = some w →
    (∀ u : Nat, u < 5 → pltx l (start + 50 * i + u) = false) ∧
    (∀ j u : Nat, j < 9 → u < 5 →
      pltx l (start + 50 * i + 5 * (j + 1) + u) = (goodChar (start + 50 * i) w).levels.getLsbD j) ∧
    charData (goodChar (start + 50 * i) w) = w ∧ charStop (goodChar (start + 50 * i) w) = true ∧
    ∀ now : Nat, x.endsAt ≤ now → pltx l now = true)

/-- A received frame whose check bytes are not those of its body is discarded: it changes nothing but the moment the last
character ended, and no reply is made (R167, R168). A bad character inside a frame discards it in the same way (R165), and so
does a length byte below 2 or above 250 (R168). While hunting, every character but a good start byte is skipped, and a character
that starts more than 1,000 ticks after the last one ended meets a hunting receiver (R168). Inside a frame a gap of up to 1,000
ticks, the limit included, makes no difference: the character continues the frame (R168, R181). A character that had ended when
the last reset acted has no effect, and one that was under way then is received from its own start bit on: the model's choice
(notes/assumptions/34.md).
GAP_LIMIT_DISCARD: a partial frame is discarded once the gap has passed 1,000 ticks, and is kept while the gap is at most
that (R168). -/
def Obligations.PartialAndBadFramesAreDiscarded : Prop :=
  ∀ s : State, s.held = false →
    (∀ (f : Frame) (t : Int), f.payload.length ≤ 248 → s.link.rx = .hunting → (s.lineEpoch : Int) ≤ t + 50 →
      (∀ hi lo : Byte, crc (frameBody f) ≠ hi ++ lo →
        exec (.frameArrival (trainAt t (0xA6#8 :: (frameBody f ++ [hi, lo])))) s =
          .next { s with link := { s.link with rxEnd := t + 50 * (f.payload.length + 6) } }) ∧
      (∀ (n : Nat) (b : Byte), n ≤ f.payload.length + 3 →
        exec (.frameArrival (trainAt t (0xA6#8 :: (frameBody f).take n) ++ [badChar (t + 50 * (n + 1)) b])) s =
          .next { s with link := { s.link with rxEnd := t + 50 * (n + 2) } })) ∧
    (∀ (t : Int) (n : Byte), s.link.rx = .hunting → (s.lineEpoch : Int) ≤ t + 50 → n.toNat < 2 ∨ 250 < n.toNat →
      exec (.frameArrival (trainAt t [0xA6#8, n])) s = .next { s with link := { s.link with rxEnd := t + 100 } }) ∧
    (∀ (k : Character) (more : List Character), k.start + 50 < (s.lineEpoch : Int) →
      exec (.frameArrival (k :: more)) s = exec (.frameArrival more) s ∧ exec (.frameArrival [k]) s = .next s) ∧
    (∀ k : Character, s.link.rx = .hunting → (s.lineEpoch : Int) ≤ k.start + 50 →
      (charStop k = false ∨ charData k ≠ 0xA6 →
        exec (.frameArrival [k]) s = .next { s with link := { s.link with rxEnd := k.start + 50 } }) ∧
      (charStop k = true → charData k = 0xA6 →
        exec (.frameArrival [k]) s =
          .next { s with link := { s.link with rx := .assembling [], rxEnd := k.start + 50 } })) ∧
    (∀ (k : Character) (more : List Character) (got : List Byte), s.link.rx = .assembling got →
      (s.lineEpoch : Int) ≤ k.start + 50 → s.link.rxEnd + 1000 < k.start →
      exec (.frameArrival (k :: more)) s =
        exec (.frameArrival (k :: more)) { s with link := { s.link with rx := .hunting } }) ∧
    (∀ (k : Character) (more : List Character) (got : List Byte), s.link.rx = .assembling got →
      (s.lineEpoch : Int) ≤ k.start + 50 → k.start ≤ s.link.rxEnd + 1000 →
      exec (.frameArrival (k :: more)) s =
          exec (.frameArrival (k :: more)) { s with link := { s.link with rxEnd := k.start } } ∧
        ∀ n : Byte, charStop k = true → (got ++ [charData k]).head? = some n → 2 ≤ n.toNat → n.toNat ≤ 250 →
          got.length ≠ n.toNat + 2 →
          exec (.frameArrival [k]) s =
            .next { s with link := { s.link with rx := .assembling (got ++ [charData k]), rxEnd := k.start + 50 } }) ∧
    (∀ got : List Byte, s.link.tx ≠ none → driveOutputs s = s → s.link.rx = .assembling got →
      (s.link.rxEnd + 1000 < (s.now : Int) →
        exec .gapLimitDiscard s = .next { s with link := { s.link with rx := .hunting } }) ∧
      ((s.now : Int) ≤ s.link.rxEnd + 1000 → exec .gapLimitDiscard s = .next s))

/-- A request of an undefined kind is answered BAD_KIND with its kind's most significant bit set, and a request whose
payload does not have the length of its kind is answered BAD_LENGTH; neither changes anything (R169, R172). -/
def Obligations.MalformedRequestsAreRefused : Prop :=
  ∀ (tag : Byte) (s : State), LinkIdle s → driveOutputs s = s →
    (∀ kind : Byte, exec (.undefinedRequest kind tag) s = .next (s.sending ⟨kind ||| 0x80, tag, [0x10]⟩ none)) ∧
    (∀ i ∈ unfitRequests tag, exec i s = .next (s.sending ⟨requestKind i ||| 0x80, tag, [0x11]⟩ none))

/-- A request that arrives while another is in service takes the waiting place; with both places taken it is answered BUSY
when fewer than four BUSY replies wait, and discarded otherwise; while an accepted RESET waits to act every request is
discarded (R170, R178). A BUSY reply goes out at once when the transmitter is free (R173). A request that arrives with no other in
service, and none waiting, while the transmitter is sending is served at once, exactly as on an idle link, but it keeps its place
and its reply waits behind those built before it; so do the places of an accepted RESET and of a PLAN whose entries are taken in
turn (R14, R170, R171, R173, R178). -/
def Obligations.ArrivalTakesAPlace : Prop :=
  (∀ (f : Frame) (s : State), s.held = false → driveOutputs s = s → s.link.served ≠ none →
    (s.link.tx = none → s.link.replies = []) →
    (s.link.resetting = false → s.link.waiting = none →
      exec (requestOf f) s = .next (State.settled { s with link := { s.link with waiting := some (requestOf f) } })) ∧
    (s.link.resetting = false → s.link.waiting ≠ none → (s.link.replies.countP fun q => q.role == .busy) < 4 →
      (s.link.tx ≠ none →
        exec (requestOf f) s =
          .next { s with
            link := { s.link with replies := s.link.replies ++ [⟨.busy, f.kind ||| 0x80, f.tag, .code .busy⟩] } }) ∧
      (s.link.tx = none → exec (requestOf f) s = .next (s.sending ⟨f.kind ||| 0x80, f.tag, [0x13]⟩ none))) ∧
    (s.link.resetting = false → s.link.waiting ≠ none → 4 ≤ (s.link.replies.countP fun q => q.role == .busy) →
      exec (requestOf f) s = .next s) ∧
    (s.link.resetting = true → exec (requestOf f) s = .next s.settled)) ∧
  ∀ (f : Frame) (s s1 : State) (r : Instr), s.held = false → s.link.tx ≠ none → s.link.served = none →
    s.link.waiting = none → r = requestOf f → s1 = { s with link := { s.link with tx := none, replies := [] } } →
    (∀ (tag : Byte) (es : List PlanEntry), r = .plan tag (.fits es) → 1 ≤ es.length → es.length ≤ 4 →
      exec r s = .next (driveOutputs { s with link := { s.link with served := some ⟨r, .planning es []⟩ } })) ∧
    (∀ (tag : Byte) (sc : Scope), r = .resetFull tag .fits ∧ sc = .full ∨ r = .resetRun tag .fits ∧ sc = .run →
      exec r s =
        .next (driveOutputs { s with
          link := { s.link with
            served := some ⟨r, .resetting sc⟩
            replies := s.link.replies ++
              [⟨.served, f.kind ||| 0x80, f.tag, .reset sc (s.ch0.queue.length + s.ch1.queue.length)⟩] } })) ∧
    ((∀ tag es, r = .plan tag (.fits es) → es.length = 0 ∨ 4 < es.length) →
      (∀ tag, r ≠ .resetFull tag .fits ∧ r ≠ .resetRun tag .fits) →
      ∃ (u : State) (p : Reply),
        exec r s1 = .next (u.replying (f.kind ||| 0x80) f.tag p.payload) ∧
          exec r s =
            .next (driveOutputs { u with
              link := { u.link with
                tx := s.link.tx
                served := some ⟨r, .replied⟩
                replies := s.link.replies ++ [⟨.served, f.kind ||| 0x80, f.tag, p⟩] } }))

/-- At the end of a frame the transmitter takes the oldest waiting reply, the front notice when no reply waits, or nothing
(R173, R174). The reply of the served request releases its place, and a waiting request is then served as one that arrives on a
link whose transmitter is sending that reply (R171). The reply of an accepted RESET keeps its place, and the reset acts at the
end of the frame begun (R171, R178). -/
def Obligations.TransmitEndSendsWhatWaits : Prop :=
  ∀ (x : Sending) (s : State), s.held = false → driveOutputs s = s → s.link.tx = some x → x.endsAt ≤ s.now →
    x.acts = none →
    (∀ (q : QueuedReply) (rest : List QueuedReply), s.link.replies = q :: rest → q.role = .busy →
      exec .transmitEnd s =
        .next (State.sending { s with link := { s.link with replies := rest } } ⟨q.kind, q.tag, q.reply.payload⟩ none)) ∧
    (∀ (q : QueuedReply) (rest : List QueuedReply) (r : Instr), s.link.replies = q :: rest → q.role = .served →
      s.link.served = some ⟨r, .replied⟩ → s.link.waiting = none →
      exec .transmitEnd s =
        .next (State.sending { s with link := { s.link with replies := rest, served := none } }
          ⟨q.kind, q.tag, q.reply.payload⟩ none)) ∧
    (∀ (q : QueuedReply) (rest : List QueuedReply) (r : Instr) (f : Frame), s.link.replies = q :: rest → q.role = .served →
      s.link.served = some ⟨r, .replied⟩ → s.link.waiting = some (requestOf f) →
      exec .transmitEnd s =
        exec (requestOf f)
          (State.sending { s with link := { s.link with replies := rest, served := none, waiting := none } }
            ⟨q.kind, q.tag, q.reply.payload⟩ none)) ∧
    (∀ (q : QueuedReply) (rest : List QueuedReply) (r : Instr) (sc : Scope), s.link.replies = q :: rest →
      q.role = .served → s.link.served = some ⟨r, .resetting sc⟩ →
      exec .transmitEnd s =
        .next (State.sending { s with link := { s.link with replies := rest } } ⟨q.kind, q.tag, q.reply.payload⟩
          (some sc))) ∧
    (∀ (n : QueuedNotice) (rest : List QueuedNotice), s.link.replies = [] → s.link.notices = n :: rest →
      exec .transmitEnd s =
        .next (State.sending { s with link := { s.link with notices := rest } } ⟨n.notice.kind, 0, n.payload⟩ none)) ∧
    (s.link.replies = [] → s.link.notices = [] →
      exec .transmitEnd s = .next { s with link := { s.link with tx := none } })

/-- A reset acts at the end of its reply. FULL: every block takes its cold-reset state and the timebase restarts at 0. RUN:
the timebase and the tables are kept, and the head records but for the strikes, which are 0, and the heat of what the reset
darkens, which is charged; the channels are OFFLINE with empty queues and DARK lasers, a pending limit is dropped, the timer is
STOPPED and Safe Dark is clear. Both leave the link in its reset state (R23, R25, R48, R65, R66, R97, R135, R138, R146, R178,
R179). With the supply fault line high Safe Dark follows at once (R145). RSTN and the ticks for which it has been low are no part of the
reset (R180). That a flush of the whole queue charges a BARRED burst
whose tail has ended is the model's reading (notes/assumptions/6.md). The good-interval count of 0 after a reset, and the values of
the moments beside a pin or a phase, no rule gives: they are the model's choice (notes/assumptions/31.md and 3.md). -/
def Obligations.ResetActsAtTheEndOfItsReply : Prop :=
  ∀ (x : Sending) (s : State), s.held = false → s.link.tx = some x → x.endsAt ≤ s.now →
    (x.acts = some .full → s.supflt = false →
      ∃ t, exec .transmitEnd s = .next t ∧
        t = { State.reset with
          pending := s.pending
          rstn := ⟨s.rstn.low, s.rstn.since - (s.now : Int)⟩
          ch0 := { State.reset.ch0 with
            syncLine := ⟨s.ch0.syncLine.high, 0, false⟩, indexPin := ⟨s.ch0.indexPin.high, 0⟩
            guardLine := ⟨s.ch0.guardLine.high, 0, false⟩, lightLine := ⟨s.ch0.lightLine.high, 0, false⟩
            wgate := s.ch0.wgate }
          ch1 := { State.reset.ch1 with
            syncLine := ⟨s.ch1.syncLine.high, 0, false⟩, indexPin := ⟨s.ch1.indexPin.high, 0⟩
            guardLine := ⟨s.ch1.guardLine.high, 0, false⟩, lightLine := ⟨s.ch1.lightLine.high, 0, false⟩
            wgate := s.ch1.wgate }
          choices := s.choices }) ∧
    (x.acts = some .run → s.supflt = false →
      ∃ t, exec .transmitEnd s = .next t ∧ t.now = s.now ∧ t.rstn = s.rstn ∧ t.lineEpoch = s.now ∧ t.link = idleLink ∧
        t.safe = none ∧
        t.safety = { s.safety with state := .stopped, pointer := .a } ∧ t.supply = ⟨s.supply.limit, none⟩ ∧
        t.profiles = s.profiles ∧ t.checkers = s.checkers ∧ t.rules = s.rules ∧ t.counters = s.counters ∧
        (∀ h : Fin 24, t.heads[h] = { (darkenHeat .c1 (darkenHeat .c0 s)).heads[h] with strikes := 0 }) ∧
        ∀ c : Chan,
          (t.chan c).config = (s.chan c).config ∧ (t.chan c).temp = (s.chan c).temp ∧
            (t.chan c).tracker = ⟨.off, none, (s.chan c).config.pnom, 0, 0⟩ ∧ (t.chan c).queue = [] ∧
            (t.chan c).seq.laser = .dark ∧ (t.chan c).seq.committed = 0 ∧ (t.chan c).seq.veto = true ∧
            (t.chan c).seq.lane = ⟨none, 0⟩ ∧ (t.chan c).wgate = (s.chan c).wgate ∧
            (t.chan c).syncLine = ⟨(s.chan c).syncLine.high, s.now, false⟩ ∧
            (t.chan c).indexPin = ⟨(s.chan c).indexPin.high, s.now⟩ ∧
            (t.chan c).guardLine = ⟨(s.chan c).guardLine.high, s.now, false⟩ ∧
            (t.chan c).lightLine = ⟨(s.chan c).lightLine.high, s.now, false⟩) ∧
    (x.acts ≠ none → s.supflt = true →
      ∃ t, exec .transmitEnd s = .next t ∧ t.safe = some .supply ∧ t.supflt = true)

/-- A cold reset begins once RSTN has been low for 500 ticks, by the part itself when no command tells more: both lanes then carry
NONE and 0, both vetoes are asserted, and no command but those of the input pins and the rise of RSTN has an effect. A low pulse
shorter than 500 ticks has none. The reset acts at that rise: every block takes its cold-reset state and the timebase is at 0 (R48,
R179, R180). That the edges of RSTN are told by commands is the model's reading (notes/assumptions/11.md and 4.md). That the cold-reset state is taken at the beginning, and that a
movement of SYNCn, INDEXn, GUARDn or LSENSEn moves the pin alone meanwhile, so that the level at the rise is the one that counts,
is the model's reading (notes/assumptions/10.md). The good-interval count of 0 after the reset, and the values of the moments beside
a pin or a phase, no rule gives: they are the model's choice (notes/assumptions/31.md and 3.md). -/
def Obligations.ColdResetHoldsThenActs : Prop :=
  (∀ (low since : Int) (s : State), s.held = false →
    (s.rstn.low = true ∧ since = s.rstn.since ∨ s.rstn.low = false ∧ s.rstn.since ≤ low ∧ since = low) →
    since + 500 ≤ (s.now : Int) →
    (∃ t, exec (.coldResetBegin low) s = .next t ∧ t.held = true ∧ t.rstn = ⟨true, since⟩ ∧ t.now = s.now ∧
      t.link = idleLink ∧ ∀ c : Chan, (t.chan c).seq.lane = ⟨none, 0⟩ ∧ (t.chan c).seq.veto = true) ∧
    (s.rstn.low = true →
      .coldResetBegin since ∈ dueEvents s ∧
        ∀ t : State, exec (.coldResetBegin since) s = .next t → exec .coldResetAct s = exec .coldResetAct t)) ∧
  (∀ (low : Int) (s : State), s.held = false →
    (s.rstn.low = true → (s.now : Int) < s.rstn.since + 500 →
      exec (.coldResetBegin low) s = .next s ∧
        exec .coldResetAct s = .next { s with rstn := ⟨false, (s.now : Int)⟩ }) ∧
    (s.rstn.low = false →
      (s.rstn.since ≤ low → low ≤ (s.now : Int) → (s.now : Int) < low + 500 →
        exec (.coldResetBegin low) s = .next { s with rstn := ⟨true, low⟩ }) ∧
      (low < s.rstn.since ∨ (s.now : Int) < low → exec (.coldResetBegin low) s = .next s) ∧
      exec .coldResetAct s = .next s)) ∧
  (∀ (i : Instr) (s : State), s.held = true → i ≠ .coldResetAct → i ≠ .supfltRise → i ≠ .supfltFall →
    (∀ c : Chan, i ≠ .wgateRise c ∧ i ≠ .wgateFall c) →
    (∀ (c : Chan) (e : Nat), i ≠ .guardAssertion c e ∧ i ≠ .guardDeassertion c e ∧ i ≠ .lightAssertion c e ∧
      i ≠ .lightDeassertion c e) →
    (∀ (c : Chan) (sync index : List LineEdge), i ≠ .syncRecognition c sync index) → exec i s = .next s) ∧
  (∀ (c : Chan) (e : LineEdge) (s : State) (x : Channel), s.held = true → x = s.chan c →
    exec (.syncRecognition c [e] []) s = .next (s.setChan c { x with syncLine := { x.syncLine with high := e.high } }) ∧
      exec (.syncRecognition c [] [e]) s = .next (s.setChan c { x with indexPin := { x.indexPin with high := e.high } }) ∧
      exec (.syncRecognition c [] []) s = .next s ∧
      ∀ sync index : List LineEdge, edgesWf sync = true → edgesWf index = true →
        exec (.syncRecognition c sync index) s = .next (s.setChan c { x with
          syncLine := { x.syncLine with high := (sync.getLast?.map fun d => d.high).getD x.syncLine.high }
          indexPin := { x.indexPin with high := (index.getLast?.map fun d => d.high).getD x.indexPin.high } })) ∧
  (∀ (c : Chan) (e : Nat) (s : State) (x : Channel), s.held = true → x = s.chan c →
    exec (.guardAssertion c e) s = .next (s.setChan c { x with guardLine := { x.guardLine with high := true } }) ∧
      exec (.guardDeassertion c e) s = .next (s.setChan c { x with guardLine := { x.guardLine with high := false } }) ∧
      exec (.lightAssertion c e) s = .next (s.setChan c { x with lightLine := { x.lightLine with high := true } }) ∧
      exec (.lightDeassertion c e) s = .next (s.setChan c { x with lightLine := { x.lightLine with high := false } })) ∧
  (∀ s : State, s.held = true → s.supflt = false →
    ∃ t, exec .coldResetAct s = .next t ∧
      t = { State.reset with
        pending := s.pending
        ch0 := { State.reset.ch0 with
          syncLine := ⟨s.ch0.syncLine.high, 0, false⟩, indexPin := ⟨s.ch0.indexPin.high, 0⟩
          guardLine := ⟨s.ch0.guardLine.high, 0, false⟩, lightLine := ⟨s.ch0.lightLine.high, 0, false⟩
          wgate := s.ch0.wgate }
        ch1 := { State.reset.ch1 with
          syncLine := ⟨s.ch1.syncLine.high, 0, false⟩, indexPin := ⟨s.ch1.indexPin.high, 0⟩
          guardLine := ⟨s.ch1.guardLine.high, 0, false⟩, lightLine := ⟨s.ch1.lightLine.high, 0, false⟩
          wgate := s.ch1.wgate }
        choices := s.choices }) ∧
  (∀ s : State, s.held = true → s.supflt = true →
    ∃ t, exec .coldResetAct s = .next t ∧ t.held = false ∧ t.now = 0 ∧ t.safe = some .supply)

/-! ## Requests that answer and change nothing -/

/-- IDENT is answered OK with the vendor code, the part code, the revision and the sizes of the part, and changes nothing
(R176). -/
def Obligations.IdentAnswersTheIdentity : Prop :=
  ∀ (tag : Byte) (s : State), LinkIdle s → driveOutputs s = s →
    exec (.ident tag (.fits ())) s =
      .next (s.sending ⟨0x81, tag, [0x00, 0x57, 0x20, 0x24, 1, 24, 2, 20, 64, 16, 8, 16, 32]⟩ none)

/-- STATUS is answered OK with the state of both channels and of the part, all of one moment. HEAD_GET, PROFILE_GET and
RULE_GET are answered OK with the record named, or FIELD_RANGE for an index past the table. None of them changes anything
(R101, R115, R127, R177, R184). -/
def Obligations.ReadsAnswerAndChangeNothing : Prop :=
  ∀ (tag b : Byte) (s : State), LinkIdle s → driveOutputs s = s →
    (exec (.status tag (.fits ())) s = .next (s.sending ⟨0x82, tag, 0x00 :: statusBytes s⟩ none)) ∧
    (∀ h : Fin 24, b.toNat = h.val →
      exec (.headGet tag (.fits b)) s = .next (s.sending ⟨0x91, tag, 0x00 :: headBytes h s.heads[h]⟩ none)) ∧
    (24 ≤ b.toNat → exec (.headGet tag (.fits b)) s = .next (s.sending ⟨0x91, tag, [0x12]⟩ none)) ∧
    (∀ i : Fin 16, b.toNat = i.val →
      exec (.profileGet tag (.fits b)) s =
        .next (s.sending ⟨0x94, tag, 0x00 :: b :: profileBytes s.profiles[i]⟩ none)) ∧
    (16 ≤ b.toNat → exec (.profileGet tag (.fits b)) s = .next (s.sending ⟨0x94, tag, [0x12]⟩ none)) ∧
    (∀ i : Fin 64, b.toNat = i.val →
      exec (.ruleGet tag (.fits b)) s = .next (s.sending ⟨0x9A, tag, 0x00 :: ruleBytes i s.rules[i]⟩ none)) ∧
    (64 ≤ b.toNat → exec (.ruleGet tag (.fits b)) s = .next (s.sending ⟨0x9A, tag, [0x12]⟩ none))

/-! ## The counters and the tables -/

/-- COUNTERS answers the counters of its span in ascending order, and with READ_AND_CLEAR sets each of them to 0; a clear
choice, first index or span out of range is answered FIELD_RANGE and reads and clears nothing (R132). -/
def Obligations.CountersReadAndClear : Prop :=
  ∀ (tag : Byte) (f : CountersFields) (s : State), LinkIdle s → driveOutputs s = s →
    (2 ≤ f.clear.toNat ∨ 15 < f.first.toNat ∨ f.span.toNat = 0 ∨ 16 < f.span.toNat ∨
        16 < f.first.toNat + f.span.toNat →
      exec (.counters tag (.fits f)) s = .next (s.sending ⟨0x9B, tag, [0x12]⟩ none)) ∧
    (f.clear.toNat ≤ 1 → f.first.toNat ≤ 15 → 1 ≤ f.span.toNat → f.first.toNat + f.span.toNat ≤ 16 →
      ∃ v : Vector U32 16,
        (∀ i : Fin 16, v[i] =
          if f.clear = 1 ∧ f.first.toNat ≤ i.val ∧ i.val < f.first.toNat + f.span.toNat then 0 else s.counters[i]) ∧
        exec (.counters tag (.fits f)) s =
          .next (State.sending { s with counters := v }
            ⟨0x9B, tag, 0x00 :: f.first :: f.span ::
              ((s.counters.toList.drop f.first.toNat).take f.span.toNat).flatMap bytes32⟩ none))

/-- PROFILE_SET replaces the profile with the values clamped to their ranges, answers CLAMPED when a clamp acted and OK
otherwise, and shows the profile as applied; an index above 15 is answered FIELD_RANGE (R114, R115, R183). -/
def Obligations.ProfileSetWritesTheProfile : Prop :=
  ∀ (tag : Byte) (f : ProfileSetFields) (s : State), LinkIdle s → driveOutputs s = s →
    (16 ≤ f.index.toNat → exec (.profileSet tag (.fits f)) s = .next (s.sending ⟨0x93, tag, [0x12]⟩ none)) ∧
    (∀ (i : Fin 16) (p : Profile), f.index.toNat = i.val →
      p = ⟨f.p.toNat, f.db.toNat, min f.kb.toNat 4095, min f.fp.toNat 16, min f.lb.toNat 4095, min f.tt.toNat 4095⟩ →
      exec (.profileSet tag (.fits f)) s =
        .next (State.sending { s with profiles := s.profiles.set i p }
          ⟨0x93, tag,
            (if f.kb.toNat ≤ 4095 ∧ f.fp.toNat ≤ 16 ∧ f.lb.toNat ≤ 4095 ∧ f.tt.toNat ≤ 4095 then 0x00 else 0x01) ::
              f.index :: profileBytes p⟩ none))

/-- RANGE_SET: a count of 0 or above 8 is answered BAD_LENGTH; a write with an undefined index or field refuses the whole
request with FIELD_RANGE; otherwise each bound is clamped, the writes are applied in message order, and the reply shows all
eight checkers (R119). -/
def Obligations.RangeSetWritesTheCheckers : Prop :=
  ∀ (tag : Byte) (ws : List RangeWrite) (s : State), LinkIdle s → driveOutputs s = s →
    (ws.length = 0 ∨ 8 < ws.length →
      exec (.rangeSet tag (.fits ws)) s = .next (s.sending ⟨0x98, tag, [0x11]⟩ none)) ∧
    (1 ≤ ws.length → ws.length ≤ 8 → (∃ w ∈ ws, 8 ≤ w.index.toNat ∨ 3 ≤ w.field.toNat) →
      exec (.rangeSet tag (.fits ws)) s = .next (s.sending ⟨0x98, tag, [0x12]⟩ none)) ∧
    (1 ≤ ws.length → ws.length ≤ 8 → (∀ w ∈ ws, w.index.toNat < 8 ∧ w.field.toNat < 3) →
      ∃ v : Vector RangeChecker 8,
        (∀ i : Fin 8, v[i] = ws.foldl (fun k w => if w.index.toNat = i.val then writtenChecker w else k) s.checkers[i]) ∧
        exec (.rangeSet tag (.fits ws)) s =
          .next (State.sending { s with checkers := v }
            ⟨0x98, tag,
              (if ∀ w ∈ ws, (-1048576 ≤ w.low.toInt ∧ w.low.toInt ≤ 1048575) ∧
                  (-1048576 ≤ w.high.toInt ∧ w.high.toInt ≤ 1048575) then 0x00 else 0x01) ::
                v.toList.flatMap checkerBytes⟩ none))

/-- RULE_SET for a SELECT entry and for a TRIM entry writes the entry with its head and mask fields, its profile or its
trims clamped, stores the action of its own stage alone, and answers the entry as written (R120, R125, R126, R185). An
index above 63 or an undefined stage, kind set, channel, counter or SELECT policy is answered FIELD_RANGE. -/
def Obligations.RuleSetWritesTheEntry : Prop :=
  ∀ (tag : Byte) (f : RuleSetFields) (s : State), LinkIdle s → driveOutputs s = s →
    (64 ≤ f.index.toNat ∨ 2 ≤ f.stage.toNat ∨ 16 ≤ f.kinds.toNat ∨ 3 ≤ f.channel.toNat ∨
        (16 ≤ f.counter.toNat ∧ f.counter ≠ 0xFF) ∨ (f.stage = 0 ∧ 2 ≤ f.policy.toNat) →
      exec (.ruleSet tag (.fits f)) s = .next (s.sending ⟨0x99, tag, [0x12]⟩ none)) ∧
    (∀ (i : Fin 64) (m : ChanMatch) (k : Option (Fin 16)), f.index.toNat = i.val → f.kinds.toNat < 16 →
      m.code = f.channel → counterCode k = f.counter →
      (∀ u : Policy, f.stage = 0 → u.code = f.policy →
        ∃ p : Fin 16, p.val = min f.profile.toNat 15 ∧
          ∃ e : RuleEntry,
            e = ⟨f.flags.getLsbD 0, BitVec.ofNat 5 (min f.headValue.toNat 31), BitVec.ofNat 5 (min f.headMask.toNat 31),
              f.kinds.setWidth 4, m, f.rangeValue, f.rangeMask, k, .select p u, f.flags.getLsbD 1⟩ ∧
            exec (.ruleSet tag (.fits f)) s =
              .next (State.sending { s with rules := s.rules.set i e }
                ⟨0x99, tag,
                  (if f.headValue.toNat ≤ 31 ∧ f.headMask.toNat ≤ 31 ∧ f.profile.toNat ≤ 15 then 0x00 else 0x01) ::
                    ruleBytes i e⟩ none)) ∧
      (f.stage = 1 →
        ∃ e : RuleEntry,
          e = ⟨f.flags.getLsbD 0, BitVec.ofNat 5 (min f.headValue.toNat 31), BitVec.ofNat 5 (min f.headMask.toNat 31),
            f.kinds.setWidth 4, m, f.rangeValue, f.rangeMask, k,
            .trim (max (-64) (min 63 f.dP.toInt)) (max (-512) (min 511 f.dL.toInt)), f.flags.getLsbD 1⟩ ∧
          exec (.ruleSet tag (.fits f)) s =
            .next (State.sending { s with rules := s.rules.set i e }
              ⟨0x99, tag,
                (if f.headValue.toNat ≤ 31 ∧ f.headMask.toNat ≤ 31 ∧ (-64 ≤ f.dP.toInt ∧ f.dP.toInt ≤ 63) ∧
                    (-512 ≤ f.dL.toInt ∧ f.dL.toInt ≤ 511) then 0x00 else 0x01) :: ruleBytes i e⟩ none)))

/-! ## Channels, conditions and resets -/

/-- The service of an accepted RESET changes nothing but the link: the reply carries OK, the scope and the bursts held in
both queues, and the reset acts when the reply has been sent. An undefined scope is answered FIELD_RANGE (R178). -/
def Obligations.ResetRequestBuildsItsReply : Prop :=
  ∀ (tag : Byte) (s : State), LinkIdle s → driveOutputs s = s →
    (∀ scope : Scope,
      exec (match scope with
        | .full => .resetFull tag .fits
        | .run => .resetRun tag .fits) s =
        .next (State.sending
          { s with link := { s.link with
            served := some ⟨match scope with
              | .full => .resetFull tag .fits
              | .run => .resetRun tag .fits, .resetting scope⟩ } }
          ⟨0x83, tag, [0x00, scope.code, BitVec.ofNat 8 (s.ch0.queue.length + s.ch1.queue.length)]⟩ (some scope))) ∧
    (∀ b : Byte, 2 ≤ b.toNat →
      exec (.resetFull tag (.undefinedScope b)) s = .next (s.sending ⟨0x83, tag, [0x12]⟩ none) ∧
        exec (.resetRun tag (.undefinedScope b)) s = .next (s.sending ⟨0x83, tag, [0x12]⟩ none))

/-- CHANNEL_SET: a channel number above 1 is answered FIELD_RANGE, an online channel WRONG_STATE, an undefined enumerated
field FIELD_RANGE, in that order; otherwise the whole configuration is replaced by the fields sent, each numeric one clamped
to its range, and the reply shows it (R51, R52, R183). That the period estimate of the OFF tracker is left as it is, although
Pnom changes, is the model's reading (notes/assumptions/7.md). -/
def Obligations.ChannelSetWritesTheConfiguration : Prop :=
  ∀ (tag : Byte) (f : ChannelSetFields) (s : State), LinkIdle s → driveOutputs s = s →
    (2 ≤ f.channel.toNat → exec (.channelSet tag (.fits f)) s = .next (s.sending ⟨0x88, tag, [0x12]⟩ none)) ∧
    ∀ c : Chan, f.channel = chanCode c →
      ((s.chan c).tracker.state ≠ .off →
        exec (.channelSet tag (.fits f)) s = .next (s.sending ⟨0x88, tag, [0x29]⟩ none)) ∧
      ((s.chan c).tracker.state = .off →
        4 ≤ f.syncFilter.toNat ∨ 4 ≤ f.guardFilter.toNat ∨ 4 ≤ f.lightFilter.toNat ∨ 2 ≤ f.policy.toNat ∨
          2 ≤ f.reportOk.toNat ∨ (16 ≤ f.counter.toNat ∧ f.counter ≠ 0xFF) →
        exec (.channelSet tag (.fits f)) s = .next (s.sending ⟨0x88, tag, [0x12]⟩ none)) ∧
      ((s.chan c).tracker.state = .off →
        f.syncFilter.toNat < 4 → f.guardFilter.toNat < 4 → f.lightFilter.toNat < 4 → f.policy.toNat < 2 →
        f.reportOk.toNat < 2 → f.counter.toNat < 16 ∨ f.counter = 0xFF →
        ∃ g : ChanConfig, configAsApplied f g ∧
          exec (.channelSet tag (.fits f)) s =
            .next ((s.setChan c { s.chan c with config := g }).replying 0x88 tag
              ((if configInRange f then 0x00 else 0x01) :: chanCode c :: configBytes g)))

/-- CHANNEL_ONLINE: an OFFLINE channel's tracker begins to acquire with Pest at Pnom, its veto for OFFLINE is released, and
the Safety Timer starts when the other channel is OFFLINE and the part is not in Safe Dark; a channel already online is
answered WRONG_STATE, and a channel number above 1 FIELD_RANGE (R53, R154). -/
def Obligations.ChannelOnlineBeginsToAcquire : Prop :=
  ∀ (tag b : Byte) (s : State), LinkIdle s → driveOutputs s = s →
    (2 ≤ b.toNat → exec (.channelOnline tag (.fits b)) s = .next (s.sending ⟨0x89, tag, [0x12]⟩ none)) ∧
    ∀ c : Chan, b = chanCode c →
      ((s.chan c).tracker.state ≠ .off →
        exec (.channelOnline tag (.fits b)) s = .next (s.sending ⟨0x89, tag, [0x29]⟩ none)) ∧
      ((s.chan c).tracker.state = .off →
        exec (.channelOnline tag (.fits b)) s =
          .next (State.replying
            { (s.setChan c { s.chan c with tracker := ⟨.acquiring, none, (s.chan c).config.pnom, 0, 0⟩ }) with
              safety := if (s.chan c.other).tracker.state = .off ∧ s.safe = none then
                { s.safety with state := .running, pointer := .a, restartedAt := s.now } else s.safety } 0x89 tag [0x00]))

/-- CHANNEL_OFFLINE: the tracker goes OFF, the whole queue is flushed, the laser goes DARK with its commitment at 0 and its heat
charged, the reply carries the bursts flushed, and the Safety Timer stops when both channels are then OFFLINE; nothing else
changes but the supply limit adopted. For a channel already OFFLINE the count is 0 and nothing changes (R22, R23, R54, R92,
R144, R149, R154). That a flush of the whole queue charges a BARRED burst whose tail has ended is the model's reading
(notes/assumptions/6.md). -/
def Obligations.ChannelOfflineFlushesTheChannel : Prop :=
  ∀ (tag b : Byte) (s : State), LinkIdle s → driveOutputs s = s →
    (2 ≤ b.toNat → exec (.channelOffline tag (.fits b)) s = .next (s.sending ⟨0x8A, tag, [0x12]⟩ none)) ∧
    ∀ c : Chan, b = chanCode c →
      ((s.chan c).tracker.state = .off →
        exec (.channelOffline tag (.fits b)) s = .next (s.sending ⟨0x8A, tag, [0x00, 0]⟩ none)) ∧
      ((s.chan c).tracker.state ≠ .off →
        ∃ t : State,
          exec (.channelOffline tag (.fits b)) s =
            .next (t.replying 0x8A tag [0x00, BitVec.ofNat 8 (s.chan c).queue.length]) ∧
          (t.chan c).tracker = ⟨.off, none, (s.chan c).config.pnom, 0, 0⟩ ∧ (t.chan c).syncLine = (s.chan c).syncLine ∧
          (t.chan c).indexPin = (s.chan c).indexPin ∧
          ChannelDarkened (s.chan c) (t.chan c) s.now ∧ SameOther c s t ∧ t.heads = (darkenHeat c s).heads ∧
          t.link = (darkenHeat c s).link ∧ t.supply = supplyAfter s.supply (s.chan c.other).seq.committed ∧
          t.safety = (if (s.chan c.other).tracker.state = .off then
            { s.safety with state := .stopped, pointer := .a } else s.safety) ∧
          t.safe = s.safe ∧ SameRest s t)

/-- CONDITIONS: both temperatures are replaced, clamped to -20..100, and the supply limit, clamped to 0..2047, takes effect
at once when it is at or above the committed sum and becomes the pending limit otherwise; the reply shows the temperatures,
S and the pending limit as they then stand (R136, R143). -/
def Obligations.ConditionsSetTemperaturesAndSupply : Prop :=
  ∀ (tag : Byte) (f : ConditionsFields) (s : State) (t0 t1 : Int) (v : Nat) (u : Supply),
    LinkIdle s → t0 = max (-20) (min 100 f.temp0.toInt) → t1 = max (-20) (min 100 f.temp1.toInt) →
    v = min 2047 f.supply.toNat →
    u = (if s.ch0.seq.committed + s.ch1.seq.committed ≤ v then ⟨v, none⟩ else ⟨s.supply.limit, some v⟩) →
    exec (.conditions tag (.fits f)) s =
      .next (State.replying
        { s with ch0 := { s.ch0 with temp := t0 }, ch1 := { s.ch1 with temp := t1 }, supply := u } 0x8B tag
        ((if f.temp0.toInt = t0 ∧ f.temp1.toInt = t1 ∧ f.supply.toNat = v then 0x00 else 0x01) ::
          (s8 t0 ++ s8 t1 ++ u16 u.limit ++
            (match u.pending with
              | some p => 1 :: u16 p
              | none => 0 :: u16 0))))

/-! ## Heads -/

/-- HEAD_SET on a head with no burst held: the set fields are written clamped, an ABSENT head becomes READY, the countdown is
reloaded, a different wear threshold clears the wear-noticed flag, a Sequencer in BIAS or running a detached tail on the head
goes DARK with the heat of that tail charged, and the wear test follows; the reply shows the record before that test, and nothing
else changes. A head with a burst held is answered HEAD_BUSY, and a head above 23 or a channel above 1 FIELD_RANGE (R92, R98,
R99, R149, R150). That the reply is built before the wear test, and that the charge comes before it, is the model's reading
(notes/assumptions/8.md), and so is that the tail end of the head's last held burst frees the head for a HEAD_SET of the same
moment (notes/assumptions/32.md). -/
def Obligations.HeadSetWritesTheCalibration : Prop :=
  ∀ (tag : Byte) (f : HeadSetFields) (s : State), LinkIdle s → driveOutputs s = s →
    (24 ≤ f.head.toNat ∨ 2 ≤ f.channel.toNat →
      exec (.headSet tag (.fits f)) s = .next (s.sending ⟨0x90, tag, [0x12]⟩ none)) ∧
    ∀ (h : Fin 24) (c : Chan) (code : Byte), f.head.toNat = h.val → f.channel = chanCode c →
      code = (if headInRange f then 0x00 else 0x01) →
      (HoldsBurstOf s h → exec (.headSet tag (.fits f)) s = .next (s.sending ⟨0x90, tag, [0x26]⟩ none)) ∧
      (¬ HoldsBurstOf s h →
        ∃ r : Head, headAsSet f c s.heads[h] r ∧
          ((∀ d : Chan, (s.chan d).seq.selected ≠ some h) →
            exec (.headSet tag (.fits f)) s =
              .next (State.replying (wearTest h (s.setHead h r)) 0x90 tag (code :: headBytes h r))) ∧
          (∀ (d : Chan) (t : State), (s.chan d).seq.selected = some h → (s.chan d.other).seq.selected ≠ some h →
            t = State.setHead
              { (s.setChan d { s.chan d with seq := (s.chan d).seq.darkAt s.now }) with
                supply := supplyAfter s.supply (s.chan d.other).seq.committed } h r →
            ((s.chan d).seq.laser = .bias → (s.chan d).seq.active = .idle →
              exec (.headSet tag (.fits f)) s =
                .next (State.replying (wearTest h t) 0x90 tag (code :: headBytes h r))) ∧
            (∀ (b : Burst) (units : Nat), (s.chan d).seq.laser = .tail → (s.chan d).seq.active = .detached b → b.head = h →
              units = heatOf (b.litFor .tail (s.now - (s.chan d).seq.phaseStart)).acc →
              exec (.headSet tag (.fits f)) s =
                .next (State.replying (wearTest h (charge h units t)) 0x90 tag
                  (code :: headBytes h (r.heated units))))) ∧
          ∃ (t : State) (p : Head),
            exec (.headSet tag (.fits f)) s = .next (t.replying 0x90 tag (code :: headBytes h p)) ∧
            { p with bucket := r.bucket, lifetime := r.lifetime, wearNoticed := r.wearNoticed } = r ∧
            t.heads[h] = { p with
              wearNoticed := p.wearNoticed || (p.wearThreshold != 0 && decide (p.wearThreshold ≤ p.lifetime)) } ∧
            HeadDarkened h s t)

/-- UNPARK returns a PARKED head to READY, and CLEAR_FAULT returns a FAULT head to READY with its strikes 0 and its cause
removed; neither touches another field, and both answer OK with a count of 0. In another state each is answered
WRONG_STATE with the unchanged state, and a head above 23 FIELD_RANGE (R102, R104, R184). -/
def Obligations.UnparkAndClearFaultReturnToReady : Prop :=
  ∀ (tag b : Byte) (s : State), LinkIdle s → driveOutputs s = s →
    (24 ≤ b.toNat →
      exec (.unpark tag (.fits b)) s = .next (s.sending ⟨0x92, tag, [0x12]⟩ none) ∧
        exec (.clearFault tag (.fits b)) s = .next (s.sending ⟨0x92, tag, [0x12]⟩ none)) ∧
    (∀ a : Byte, exec (.unpark tag (.undefinedAction b a)) s = .next (s.sending ⟨0x92, tag, [0x12]⟩ none) ∧
      exec (.clearFault tag (.undefinedAction b a)) s = .next (s.sending ⟨0x92, tag, [0x12]⟩ none)) ∧
    ∀ h : Fin 24, b.toNat = h.val →
      (s.heads[h].state = .parked →
        exec (.unpark tag (.fits b)) s =
          .next (State.sending (s.setHead h { s.heads[h] with state := .ready }) ⟨0x92, tag, [0x00, 1, 0]⟩ none)) ∧
      (s.heads[h].state ≠ .parked →
        exec (.unpark tag (.fits b)) s = .next (s.sending ⟨0x92, tag, [0x29, s.heads[h].state.code, 0]⟩ none)) ∧
      (∀ k, s.heads[h].state = .fault k →
        exec (.clearFault tag (.fits b)) s =
          .next (State.sending (s.setHead h { s.heads[h] with state := .ready, strikes := 0 })
            ⟨0x92, tag, [0x00, 1, 0]⟩ none)) ∧
      ((∀ k, s.heads[h].state ≠ .fault k) →
        exec (.clearFault tag (.fits b)) s = .next (s.sending ⟨0x92, tag, [0x29, s.heads[h].state.code, 0]⟩ none))

/-- RETIRE: a head with no burst held becomes ABSENT with its strikes 0, a Sequencer in BIAS or running a detached tail on
it goes DARK with the heat of that tail charged, and its other fields are kept; the reply is OK with a count of 0. A head with a
burst held is answered HEAD_BUSY with its unchanged state, and a head above 23 or an undefined action FIELD_RANGE (R92, R102,
R105, R149, R184). -/
def Obligations.RetireMakesAHeadAbsent : Prop :=
  ∀ (tag b : Byte) (s : State), LinkIdle s → driveOutputs s = s →
    (24 ≤ b.toNat → exec (.retire tag (.fits b)) s = .next (s.sending ⟨0x92, tag, [0x12]⟩ none)) ∧
    (∀ a : Byte, exec (.retire tag (.undefinedAction b a)) s = .next (s.sending ⟨0x92, tag, [0x12]⟩ none)) ∧
    ∀ (h : Fin 24) (r : Head), b.toNat = h.val → r = { s.heads[h] with state := .absent, strikes := 0 } →
    (HoldsBurstOf s h →
      exec (.retire tag (.fits b)) s = .next (s.sending ⟨0x92, tag, [0x26, s.heads[h].state.code, 0]⟩ none)) ∧
    (¬ HoldsBurstOf s h → (∀ d : Chan, (s.chan d).seq.selected ≠ some h) →
      exec (.retire tag (.fits b)) s = .next (State.sending (s.setHead h r) ⟨0x92, tag, [0x00, 0, 0]⟩ none)) ∧
    (∀ (d : Chan) (t : State), ¬ HoldsBurstOf s h → (s.chan d).seq.selected = some h →
      (s.chan d.other).seq.selected ≠ some h →
      t = State.setHead
        { (s.setChan d { s.chan d with seq := (s.chan d).seq.darkAt s.now }) with
          supply := supplyAfter s.supply (s.chan d.other).seq.committed } h r →
      ((s.chan d).seq.laser = .bias → (s.chan d).seq.active = .idle →
        exec (.retire tag (.fits b)) s = .next (t.replying 0x92 tag [0x00, 0, 0])) ∧
      (∀ x : Burst, (s.chan d).seq.laser = .tail → (s.chan d).seq.active = .detached x → x.head = h →
        exec (.retire tag (.fits b)) s =
          .next (State.replying (charge h (heatOf (x.litFor .tail (s.now - (s.chan d).seq.phaseStart)).acc) t) 0x92 tag
            [0x00, 0, 0]))) ∧
    (¬ HoldsBurstOf s h →
      ∃ t : State, exec (.retire tag (.fits b)) s = .next (t.replying 0x92 tag [0x00, 0, 0]) ∧
        { t.heads[h] with bucket := r.bucket, lifetime := r.lifetime, wearNoticed := r.wearNoticed } = r ∧
        HeadDarkened h s t)

/-- PARK: a READY head becomes PARKED, its QUEUED and BARRED bursts are flushed from its channel's queue and counted in the
reply, a running tail of such a burst goes on detached, and a BIAS on the head ends; the head's other fields, its bucket among
them, are as they were, and so are the channel's other bursts and the other channel. A head that is not READY is answered
WRONG_STATE with its unchanged state, and a head above 23 or an undefined action FIELD_RANGE (R22, R69, R93, R102, R103,
R184). -/
def Obligations.ParkFlushesTheWaitingBursts : Prop :=
  ∀ (tag b : Byte) (s : State), LinkIdle s → driveOutputs s = s →
    (24 ≤ b.toNat → exec (.park tag (.fits b)) s = .next (s.sending ⟨0x92, tag, [0x12]⟩ none)) ∧
    (∀ a : Byte, exec (.park tag (.undefinedAction b a)) s = .next (s.sending ⟨0x92, tag, [0x12]⟩ none)) ∧
    ∀ (h : Fin 24) (c : Chan) (x : Channel) (out : Burst → Bool), b.toNat = h.val → c = s.heads[h].channel → x = s.chan c →
      (∀ d, out d = (d.head == h && waitsToBeLit d.state)) →
      (s.heads[h].state ≠ .ready →
        exec (.park tag (.fits b)) s = .next (s.sending ⟨0x92, tag, [0x29, s.heads[h].state.code, 0]⟩ none)) ∧
      (s.heads[h].state = .ready →
        ∃ t : State,
          exec (.park tag (.fits b)) s =
            .next (t.replying 0x92 tag [0x00, 2, BitVec.ofNat 8 (x.queue.countP out)]) ∧
          t.heads[h].state = .parked ∧ (∀ d ∈ (t.chan c).queue, d.head = h → waitsToBeLit d.state = false) ∧
          SameOther c s t ∧ SameTables s t ∧ SameRequests s t ∧
          (tailRuns x → (∀ d ∈ x.queue.tail, d.state = .queued ∧ d.decidedBar = none) →
            (t.chan c).queue = x.queue.filter (fun d => !out d) ∧ SameLines x (t.chan c) ∧
            t.heads = s.heads.set h { s.heads[h] with state := .parked } ∧ t.link = s.link ∧
            ((∃ d ∈ x.queue.head?, out d = true) →
              (t.chan c).gate = (t.chan c).queue.head?.bind (expectedGate x.tracker)) ∧
            ((∀ d ∈ x.queue.head?, out d = false) → (t.chan c).gate = x.gate) ∧
            (x.seq.laser = .bias → x.seq.selected = some h →
              (t.chan c).seq.laser = .dark ∧ (t.chan c).seq.selected = none ∧ (t.chan c).seq.committed = 0 ∧
                t.supply = supplyAfter s.supply (s.chan c.other).seq.committed) ∧
            (x.seq.laser ≠ .bias ∨ x.seq.selected ≠ some h →
              t.supply = s.supply ∧
              (∀ d, x.queue.head? = some d → out d = true → x.seq.laser = .tail → x.seq.active = .front →
                (t.chan c).seq = { x.seq with active := .detached d }) ∧
              (x.seq.laser ≠ .tail ∨ x.seq.active ≠ .front ∨ (∀ d ∈ x.queue.head?, out d = false) →
                (t.chan c).seq = x.seq))))

/-! ## Planning -/

/-- PLAN: a count of 0 or above 4 is answered BAD_LENGTH and no entry is considered; otherwise its entries come into service
one at a time, in message order. PLAN_ENTRY takes the next one: its code joins the results and the rest wait, and the free
transmitter may take a notice. After the last one the reply carries one code for each entry, in order: it goes out at once on a
free transmitter, which releases the place to a waiting request, and waits behind the replies built before it otherwise (R14,
R171, R173). That a PLAN_ENTRY with no PLAN in service changes nothing is the model's reading (notes/assumptions/4.md). -/
def Obligations.PlanIsJudgedEntryByEntry : Prop :=
  (∀ (tag : Byte) (es : List PlanEntry) (s : State), LinkIdle s → driveOutputs s = s →
    (es.length = 0 ∨ 4 < es.length → exec (.plan tag (.fits es)) s = .next (s.sending ⟨0xA0, tag, [0x11]⟩ none)) ∧
    (1 ≤ es.length → es.length ≤ 4 →
      exec (.plan tag (.fits es)) s =
        .next (State.settled
          { s with link := { s.link with served := some ⟨.plan tag (.fits es), .planning es []⟩ } }))) ∧
  (∀ (r : Instr) (e e' : PlanEntry) (left : List PlanEntry) (done : List Code) (s : State), s.held = false →
    s.link.served = some ⟨r, .planning (e :: e' :: left) done⟩ → (s.link.tx = none → s.link.replies = []) →
    exec .planEntry s =
      .next (State.settled { (judgeEntry e s).1 with
        link := { (judgeEntry e s).1.link with
          served := some ⟨r, .planning (e' :: left) (done ++ [(judgeEntry e s).2])⟩ } })) ∧
  (∀ (tag : Byte) (p : Payload (List PlanEntry)) (e : PlanEntry) (done : List Code) (s : State) (codes : List Code)
    (payload : List Byte), s.held = false → s.link.served = some ⟨.plan tag p, .planning [e] done⟩ →
    codes = done ++ [(judgeEntry e s).2] →
    payload = 0x00 :: BitVec.ofNat 8 (done.length + 1) :: codes.map Code.byte →
    (s.link.tx = none → s.link.replies = [] → s.link.waiting = none →
      exec .planEntry s =
        .next (State.replying
          { (judgeEntry e s).1 with link := { (judgeEntry e s).1.link with served := none } } 0xA0 tag payload)) ∧
    (∀ f : Frame, s.link.tx = none → s.link.replies = [] → s.link.waiting = some (requestOf f) →
      exec .planEntry s =
        exec (requestOf f)
          (State.sending
            { (judgeEntry e s).1 with link := { (judgeEntry e s).1.link with served := none, waiting := none } }
            ⟨0xA0, tag, payload⟩ none)) ∧
    (s.link.tx ≠ none →
      exec .planEntry s =
        .next (driveOutputs { (judgeEntry e s).1 with
          link := { (judgeEntry e s).1.link with
            served := some ⟨.plan tag p, .replied⟩
            replies := s.link.replies ++ [⟨.served, 0xA0, tag, .plan codes⟩] } }))) ∧
  (∀ s : State, s.held = false → s.link.served = none → s.link.tx ≠ none → driveOutputs s = s →
    exec .planEntry s = .next s)

/-- The checks of a PLAN entry are made in the order of R15, the first that fails gives the code, and a refused entry changes
nothing: SAFE_DARK, FIELD_RANGE, HEAD_UNAVAILABLE, NO_SYNC, DUPLICATE_TAG, QUEUE_FULL, OVERLAP, UNDERDRIVE, TOO_LATE (R4,
R6, R14 to R18, R37). -/
def Obligations.PlanEntryChecksInOrder : Prop :=
  ∀ (e : PlanEntry) (s : State), QueueLaw s →
    (s.safe ≠ none → judgeEntry e s = (s, .safeDark)) ∧
    (s.safe = none →
      24 ≤ e.head.toNat ∨ 4 ≤ e.kind.toNat ∨ 3 < e.laps.toNat ∨ e.length.toNat < 16 ∨ 1048575 < e.track.toNat →
      judgeEntry e s = (s, .fieldRange)) ∧
    ∀ (h : Fin 24) (kind : WriteKind) (c : Chan) (x : Channel), s.safe = none → e.head.toNat = h.val →
      e.kind = kind.byte → e.laps.toNat ≤ 3 → 16 ≤ e.length.toNat → e.track.toNat ≤ 1048575 →
      c = s.heads[h].channel → x = s.chan c →
      (x.config.w ≤ e.wedge.toNat ∨ x.config.pnom ≤ e.offset.toNat → judgeEntry e s = (s, .fieldRange)) ∧
      (e.wedge.toNat < x.config.w → e.offset.toNat < x.config.pnom →
        (s.heads[h].state ≠ .ready → judgeEntry e s = (s, .headUnavailable)) ∧
        (s.heads[h].state = .ready → x.tracker.state = .off ∨ x.tracker.state = .acquiring →
          judgeEntry e s = (s, .noSync)) ∧
        ∀ (a : Anchor) (target position : Nat) (k : Classified) (p : Plan),
          s.heads[h].state = .ready → x.tracker.state = .locked ∨ x.tracker.state = .coasting →
          x.tracker.anchor = some a → target = targetAfter x.config.w a e.wedge.toNat e.laps.toNat →
          position = target * x.config.pnom + e.offset.toNat →
          k = classify s h c kind e.track.toNat e.offset.toNat →
          p = computePlan s.heads[h] s.profiles[k.profile] x.temp k.dP k.dL k.selectRule k.trimRule k.policy →
          ((∃ d : Chan, ∃ b ∈ (s.chan d).queue, b.tag = e.tag) → judgeEntry e s = (s, .duplicateTag)) ∧
          ((∀ d : Chan, ∀ b ∈ (s.chan d).queue, b.tag ≠ e.tag) →
            (x.queue.length = 20 → judgeEntry e s = (s, .queueFull)) ∧
            (x.queue.length < 20 →
              (∃ b ∈ x.queue, conflicts x.config.spacing position e.length.toNat b) ∨
                (∃ b ∈ x.queue.head?, position < b.position ∧ b.state ≠ .queued) →
              judgeEntry e s = (s, .overlap)) ∧
            (x.queue.length < 20 → (∀ b ∈ x.queue, ¬ conflicts x.config.spacing position e.length.toNat b) →
              (∀ b ∈ x.queue.head?, position < b.position → b.state = .queued) →
              (p.sustain ≤ p.ith → judgeEntry e s = (s, .underdrive)) ∧
              (p.ith < p.sustain →
                (a.time : Int) + ((target : Int) - (a.count : Int)) * (x.tracker.pest : Int) + (e.offset.toNat : Int) -
                    (p.coldLead : Int) < (s.now : Int) + 512 →
                judgeEntry e s = (s, .tooLate)))))

/-- A PLAN entry that passes every check is admitted: its record, QUEUED and with its frozen plan, stands between the bursts
below and above its position; each counter its actions name rises by 1, once; the chosen rules' capture flags are cleared,
with one CAPTURE notice when one was set; its expected gate time is formed when it becomes the front burst; and nothing
else changes (R3, R4, R5, R19, R69, R128, R131). -/
def Obligations.PlanEntryAdmits : Prop :=
  ∀ (e : PlanEntry) (s : State) (h : Fin 24) (kind : WriteKind) (c : Chan) (x : Channel) (a : Anchor)
    (target position : Nat) (k : Classified) (p : Plan),
    QueueLaw s → s.safe = none → e.head.toNat = h.val → e.kind = kind.byte → e.laps.toNat ≤ 3 → 16 ≤ e.length.toNat →
    e.track.toNat ≤ 1048575 → c = s.heads[h].channel → x = s.chan c → e.wedge.toNat < x.config.w →
    e.offset.toNat < x.config.pnom → s.heads[h].state = .ready →
    x.tracker.state = .locked ∨ x.tracker.state = .coasting → x.tracker.anchor = some a →
    target = targetAfter x.config.w a e.wedge.toNat e.laps.toNat →
    position = target * x.config.pnom + e.offset.toNat → k = classify s h c kind e.track.toNat e.offset.toNat →
    p = computePlan s.heads[h] s.profiles[k.profile] x.temp k.dP k.dL k.selectRule k.trimRule k.policy →
    (∀ d : Chan, ∀ b ∈ (s.chan d).queue, b.tag ≠ e.tag) → x.queue.length < 20 →
    (∀ b ∈ x.queue, ¬ conflicts x.config.spacing position e.length.toNat b) →
    (∀ b ∈ x.queue.head?, position < b.position → b.state = .queued) → p.ith < p.sustain →
    (s.now : Int) + 512 ≤
      (a.time : Int) + ((target : Int) - (a.count : Int)) * (x.tracker.pest : Int) + (e.offset.toNat : Int) -
        (p.coldLead : Int) →
    ∃ (t : State) (b : Burst) (m : Option CaptureMark), judgeEntry e s = (t, .ok) ∧
      (m = none ↔ (∀ j, k.selectRule = some j → s.rules[j].capture = false) ∧
        ∀ j, k.trimRule = some j → s.rules[j].capture = false) ∧
      (∀ z, m = some z → (z.select = true ↔ ∃ j, k.selectRule = some j ∧ s.rules[j].capture = true) ∧
        (z.trim = true ↔ ∃ j, k.trimRule = some j ∧ s.rules[j].capture = true) ∧ z.rangeBits = k.key.rangeBits ∧
        t.link = (placeNotice (.capture ⟨e.tag, h, c, kind, z, k.profile, k.dP, k.dL, b.plan⟩) s).link) ∧
      (m = none → t.link = s.link) ∧
      b = { newBurst e ⟨h, c, kind, e.wedge.toNat, e.laps.toNat, e.offset.toNat, e.length.toNat, e.track.toNat⟩ target
              position { p with capture := m } with state := .queued } ∧
      (t.chan c).queue =
        (x.queue.filter fun d => d.position < position) ++ b :: (x.queue.filter fun d => position ≤ d.position) ∧
      ((∀ d ∈ x.queue, position ≤ d.position) →
        (t.chan c).gate = some ⟨(a.time : Int) + ((target : Int) - (a.count : Int)) * (x.tracker.pest : Int) +
          (e.offset.toNat : Int), false, false⟩) ∧
      ((∃ d ∈ x.queue, d.position < position) → (t.chan c).gate = x.gate) ∧
      (∀ i : Fin 16, t.counters[i] =
        if k.selectCounter = some i ∨ k.trimCounter = some i then s.counters[i] + 1 else s.counters[i]) ∧
      (∀ i : Fin 64, t.rules[i] =
        if k.selectRule = some i ∨ k.trimRule = some i then { s.rules[i] with capture := false } else s.rules[i]) ∧
      (t.chan c).seq = x.seq ∧ SameLines x (t.chan c) ∧ SameOther c s t ∧ t.heads = s.heads ∧ t.supply = s.supply ∧
      SameTables s { t with rules := s.rules, counters := s.counters }

/-- Classification takes the first valid SELECT rule and the first valid TRIM rule, in ascending index order, that match the
burst's key; without one, the channel's default action, and no trims (R116 to R124). The key's range bits are those of the
enabled checkers whose field lies within their bounds. -/
def Obligations.ClassificationTakesTheFirstMatch : Prop :=
  ∀ (s : State) (h : Fin 24) (c : Chan) (kind : WriteKind) (track offset : Nat) (k : Classified),
    k = classify s h c kind track offset →
    k.key.head = h ∧ k.key.channel = c ∧ k.key.kind = kind ∧
    (∀ i : Fin 8, k.key.rangeBits.getLsbD i.val = true ↔
      (s.checkers[i].field = .track → s.checkers[i].low ≤ (track : Int) ∧ (track : Int) ≤ s.checkers[i].high) ∧
      (s.checkers[i].field = .temperature →
        s.checkers[i].low ≤ (s.chan c).temp ∧ (s.chan c).temp ≤ s.checkers[i].high) ∧
      (s.checkers[i].field = .offset →
        s.checkers[i].low ≤ (offset : Int) ∧ (offset : Int) ≤ s.checkers[i].high)) ∧
    FirstRule s.rules true k.key k.selectRule ∧ FirstRule s.rules false k.key k.trimRule ∧
    (k.selectRule = none →
      k.profile = (s.chan c).config.profile ∧ k.policy = (s.chan c).config.policy ∧
        k.selectCounter = (s.chan c).config.counter) ∧
    (∀ j, k.selectRule = some j →
      s.rules[j].action = .select k.profile k.policy ∧ k.selectCounter = s.rules[j].counter) ∧
    (k.trimRule = none → k.dP = 0 ∧ k.dL = 0 ∧ k.trimCounter = none) ∧
    (∀ j, k.trimRule = some j → s.rules[j].action = .trim k.dP k.dL ∧ k.trimCounter = s.rules[j].counter)

/-- CANCEL: an undefined selector, a channel above 1 or a head above 23 is answered FIELD_RANGE and touches no burst.
Otherwise the reply counts the bursts reached and removed, and those skipped because they are WRITING or COOLING; by tag the
code is OK, TOO_LATE or NOT_FOUND. The queues keep exactly the bursts that are not removed. Where no front burst is removed,
nothing else changes. A HEATING or READY front burst that is removed leaves its laser in a detached TAIL for its Tt, over at once
when Tt is 0; the running tail of a BARRED one goes on detached; a QUEUED one, or a BARRED one with no tail, leaves the laser as it
is; and the burst that comes to the front has its expected gate time formed. Where a tail of no length ends and that burst enters a
decided bar with its window over, it completes at once (R20, R21, R69, R71, R75, R85, R93). That this follows the end of the tail
is the model's choice (notes/assumptions/16.md), and that a BARRED burst whose tail has ended is charged what it lit is the model's
reading (notes/assumptions/6.md). -/
def Obligations.CancelRemovesByState : Prop :=
  ∀ (tag : Byte) (f : CancelFields) (s : State), LinkIdle s →
    (driveOutputs s = s →
      3 ≤ f.selector.toNat ∨ (f.selector = 1 ∧ 2 ≤ f.value.toNat) ∨ (f.selector = 2 ∧ 24 ≤ f.value.toNat) →
      exec (.cancel tag (.fits f)) s = .next (s.sending ⟨0xA1, tag, [0x12]⟩ none)) ∧
    ∀ (out : Chan → Burst → Bool) (removed skipped : Nat) (code : Code),
      f.selector.toNat ≤ 2 → (f.selector = 1 → f.value.toNat < 2) → (f.selector = 2 → f.value.toNat < 24) →
      (∀ c b, out c b = (reaches f c b && !runsOn b.state)) →
      removed = s.ch0.queue.countP (out .c0) + s.ch1.queue.countP (out .c1) →
      skipped = s.ch0.queue.countP (fun b => reaches f .c0 b && runsOn b.state) +
        s.ch1.queue.countP (fun b => reaches f .c1 b && runsOn b.state) →
      code = (if f.selector ≠ 0 ∨ 0 < removed then .ok else if 0 < skipped then .tooLate else .notFound) →
      ((∀ c : Chan, ∀ b ∈ (s.chan c).queue.head?, out c b = false) →
        exec (.cancel tag (.fits f)) s =
          .next (State.replying
            { s with
              ch0 := { s.ch0 with queue := s.ch0.queue.filter fun b => !out .c0 b }
              ch1 := { s.ch1 with queue := s.ch1.queue.filter fun b => !out .c1 b } } 0xA1 tag
            [code.byte, BitVec.ofNat 8 removed, BitVec.ofNat 8 skipped])) ∧
      (PhaseLaw s →
        (∀ c : Chan, ∀ b ∈ (s.chan c).queue.head?, out c b = true →
          tailRuns (s.chan c) ∧ waitsInTurn (s.chan c) s.now ((s.chan c).queue.filter fun d => !out c d) ∧
            (b.state = .heating ∨ b.state = .ready → 0 < b.plan.tailLen)) →
        exec (.cancel tag (.fits f)) s =
          .next (State.replying
            { cancelHeat .c1 (out .c1) (cancelHeat .c0 (out .c0) s) with
              ch0 := s.ch0.cancelled (out .c0) s.now
              ch1 := s.ch1.cancelled (out .c1) s.now } 0xA1 tag
            [code.byte, BitVec.ofNat 8 removed, BitVec.ofNat 8 skipped])) ∧
      (∀ c : Chan, PhaseLaw s →
        (∃ b ∈ (s.chan c).queue.head?, out c b = true ∧ (b.state = .heating ∨ b.state = .ready) ∧ b.plan.tailLen = 0) →
        (∀ b ∈ (s.chan c.other).queue, out c.other b = false) →
        ∃ w : State, w.link.tx = none ∧
          exec (.tailEnd c) (s.setChan c ((s.chan c).cancelled (out c) s.now)) = .next w.settled ∧
          (waitsInTurn (s.chan c) s.now ((s.chan c).queue.filter fun d => !out c d) →
            exec (.cancel tag (.fits f)) s =
              .next (w.replying 0xA1 tag [code.byte, BitVec.ofNat 8 removed, BitVec.ofNat 8 skipped])) ∧
          ∀ (d : Burst) (rest : List Burst) (r : Reason),
            ((s.chan c).queue.filter fun d => !out c d) = d :: rest → closesOnEntry (s.chan c) s.now d r →
            waitsInTurn (s.chan c) s.now rest → TagLaw s →
            ∃ t : State, (t.chan c).seq = (w.chan c).seq ∧ t.supply = w.supply ∧
              Completes c { d with state := .barred r } ⟨.vetoed, r⟩ rest w t ∧
              exec (.cancel tag (.fits f)) s =
                .next (t.replying 0xA1 tag [code.byte, BitVec.ofNat 8 removed, BitVec.ofNat 8 skipped])) ∧
      (PhaseLaw s →
        ∃ t : State,
          exec (.cancel tag (.fits f)) s =
            .next (t.replying 0xA1 tag [code.byte, BitVec.ofNat 8 removed, BitVec.ofNat 8 skipped]) ∧
          (∀ c : Chan, ∀ b ∈ (t.chan c).queue, reaches f c b = true →
            ∃ d ∈ (s.chan c).queue, d.tag = b.tag ∧ runsOn d.state = true) ∧
          (∀ c : Chan, ∀ b ∈ (s.chan c).queue.head?, out c b = true → b.state = .heating ∨ b.state = .ready →
            0 < b.plan.tailLen →
            (t.chan c).seq.laser = .tail ∧ (t.chan c).seq.phaseEnd = some (s.now + b.plan.tailLen) ∧
              (t.chan c).seq.committed = (s.chan c).seq.committed ∧
              (t.chan c).seq.active =
                .detached (b.litFor (s.chan c).seq.laser (s.now - (s.chan c).seq.phaseStart))) ∧
          SameTables s t ∧ SameRequests s t)

/-! ## The Safety Timer and Safe Dark -/

/-- SAFETY_SET: an undefined window is answered FIELD_RANGE and changes nothing; otherwise the period clamped to 2..2000 and
the window are written, elapsed restarts at 0, the pointer becomes A, and a RUNNING or WARNED timer is RUNNING while a STOPPED
one stays STOPPED; the reply carries the period, the window, the effective window and the state (R152, R153). -/
def Obligations.SafetySetSetsTheTimer : Prop :=
  ∀ (tag : Byte) (f : SafetySetFields) (s : State), LinkIdle s → driveOutputs s = s →
    (3 ≤ f.window.toNat → exec (.safetySet tag (.fits f)) s = .next (s.sending ⟨0xA8, tag, [0x12]⟩ none)) ∧
    (∀ (w : Window) (n : Nat) (st : TimerState), f.window = w.code → n = max 2 (min 2000 f.period.toNat) →
      st = (if s.safety.state = .stopped then .stopped else .running) →
      exec (.safetySet tag (.fits f)) s =
        .next (State.sending { s with safety := ⟨st, .a, s.now, n, w⟩ }
          ⟨0xA8, tag,
            (if 2 ≤ f.period.toNat ∧ f.period.toNat ≤ 2000 then 0x00 else 0x01) ::
              (u16 n ++ [w.code, (if n ≤ 8 then Window.open100 else w).code, st.code])⟩ none))

/-- TEND: an undefined phase is answered FIELD_RANGE and a STOPPED timer WRONG_STATE, and neither moves the pointer. Otherwise
a phase other than the pointer is OUT_OF_STEP and moves the pointer; A with pointer A is HALF; B with pointer B in the open
part restarts the timer, and in the closed part it is EARLY and enters Safe Dark. The reply carries the answer, the pointer and
the state after, and the elapsed milliseconds as judged (R153, R155, R159). What a Safe Dark entry charges, and in which order,
is the model's reading (notes/assumptions/6.md and 27.md). -/
def Obligations.TendTakesThePhases : Prop :=
  ∀ (tag b : Byte) (s : State), LinkIdle s → driveOutputs s = s →
    (2 ≤ b.toNat → exec (.tend tag (.fits b)) s = .next (s.sending ⟨0xA9, tag, [0x12]⟩ none)) ∧
    (b.toNat < 2 → s.safety.state = .stopped →
      exec (.tend tag (.fits b)) s = .next (s.sending ⟨0xA9, tag, [0x29]⟩ none)) ∧
    ∀ (p : Phase) (elapsed closed : Nat), b = p.code → s.safety.state ≠ .stopped →
      elapsed = s.now - s.safety.restartedAt →
      closed = (if s.safety.period ≤ 8 then 0 else
        match s.safety.window with
        | .open100 => 0
        | .open75 => s.safety.period * 125000
        | .open50 => s.safety.period * 250000) →
      (p ≠ s.safety.pointer →
        exec (.tend tag (.fits b)) s =
          .next (State.sending { s with safety := { s.safety with pointer := p } }
            ⟨0xA9, tag, 0x00 :: TendAnswer.outOfStep.code :: p.code :: s.safety.state.code :: u16 (elapsed / 500000)⟩
            none)) ∧
      (p = .a → s.safety.pointer = .a →
        exec (.tend tag (.fits b)) s =
          .next (State.sending { s with safety := { s.safety with pointer := .b } }
            ⟨0xA9, tag, 0x00 :: TendAnswer.half.code :: Phase.b.code :: s.safety.state.code :: u16 (elapsed / 500000)⟩
            none)) ∧
      (p = .b → s.safety.pointer = .b → closed ≤ elapsed →
        exec (.tend tag (.fits b)) s =
          .next (State.sending
            { s with safety := { s.safety with state := .running, pointer := .a, restartedAt := s.now } }
            ⟨0xA9, tag,
              0x00 :: TendAnswer.restarted.code :: Phase.a.code :: TimerState.running.code :: u16 (elapsed / 500000)⟩
            none)) ∧
      (p = .b → s.safety.pointer = .b → elapsed < closed → s.safe = none →
        ∃ t : State, EntersSafeDark .earlyTend s t ∧
          exec (.tend tag (.fits b)) s =
            .next (t.replying 0xA9 tag
              (0x00 :: TendAnswer.early.code :: Phase.a.code :: TimerState.stopped.code :: u16 (elapsed / 500000))))

/-- RESUME is answered WRONG_STATE, and changes nothing, while the safe flag is clear or the supply fault line is high.
Otherwise it clears the flag and the cause, starts the timer when a channel is online, and carries the cause; the vetoes are
judged again with the flag clear (R91, R154, R162). -/
def Obligations.ResumeClearsSafeDark : Prop :=
  ∀ (tag : Byte) (s : State), LinkIdle s →
    (driveOutputs s = s → s.safe = none ∨ s.supflt = true →
      exec (.resume tag (.fits ())) s = .next (s.sending ⟨0xAA, tag, [0x29]⟩ none)) ∧
    (∀ cause : SafeCause, s.safe = some cause → s.supflt = false →
      exec (.resume tag (.fits ())) s =
        .next (State.replying
          { s with
            safe := none
            safety := if s.ch0.tracker.state = .off ∧ s.ch1.tracker.state = .off then s.safety
              else { s.safety with state := .running, pointer := .a, restartedAt := s.now } } 0xAA tag
          [0x00, cause.code]))

/-- SUPFLT_RISE enters Safe Dark with cause SUPPLY, and has no effect but its level when the flag is set; SUPFLT_FALL changes
the level alone. SAFETY_EXPIRY, once the period has elapsed, warns from RUNNING under OPEN_100 and enters Safe Dark with cause
EXPIRY otherwise (R145, R157, R159). What a Safe Dark entry charges, and in which order, is the model's reading
(notes/assumptions/6.md and 27.md), and so is that an event that is not due has no effect (notes/assumptions/4.md). -/
def Obligations.SupplyFaultAndExpiryEnterSafeDark : Prop :=
  (∀ s : State, s.held = false → s.supflt = false →
    (s.safe = none → ∃ t : State, EntersSafeDark .supply { s with supflt := true } t ∧
      exec .supfltRise s = .next t.settled) ∧
    (s.safe ≠ none → exec .supfltRise s = .next (State.settled { s with supflt := true }))) ∧
  (∀ s : State, exec .supfltFall s = .next { s with supflt := false }) ∧
  (∀ (s : State) (eff : Window), s.held = false →
    eff = (if s.safety.period ≤ 8 then .open100 else s.safety.window) →
    (s.safety.state = .stopped ∨ s.now - s.safety.restartedAt < s.safety.period * 500000 →
      exec .safetyExpiry s = .next s.settled) ∧
    (s.safety.state = .running → s.safety.period * 500000 ≤ s.now - s.safety.restartedAt → eff = .open100 →
      exec .safetyExpiry s =
        .next (State.settled (placeNotice (.safetyWarning s.safety.period eff s.safety.pointer)
          { s with safety := { s.safety with state := .warned, pointer := .a, restartedAt := s.now } }))) ∧
    (s.safety.state ≠ .stopped → s.safety.period * 500000 ≤ s.now - s.safety.restartedAt →
      s.safety.state = .warned ∨ eff ≠ .open100 → s.safe = none →
      ∃ t : State, EntersSafeDark .expiry s t ∧ exec .safetyExpiry s = .next t.settled))

/-! ## The Wedge Tracker -/

/-- SYNC_RECOGNITION takes the edges of SYNCn and INDEXn that it tells in the order of time, an edge of INDEXn before one of
SYNCn at the same moment. Each moves its pin; a rise of SYNCn that its filter has held by then is recognised first, and what the
edges leave is recognised as it is without them. A pulse shorter than the filter's length is not recognised, and a rise is
recognised once, by the part itself when no command tells more (R49, R50). While the channel is OFFLINE a recognised sync is
ignored; while it is ACQUIRING the first one with index becomes the anchor; an interval within Pnom - Tw to Pnom + Tw advances the
wedge and the count and sets Pest, and the second such interval locks the tracker with a SYNC_CHANGE notice; a sync with index
starts over; an interval outside drops the anchor (R56, R57). That edges are told by commands, and that one earlier than what is
known of the line moves nothing, is the model's reading (notes/assumptions/11.md and 4.md). -/
def Obligations.SyncAcquires : Prop :=
  ∀ (c : Chan) (s : State) (x : Channel) (stamp : Nat) (y : Channel), s.held = false → x = s.chan c →
    stamp = x.syncLine.since → y = x.syncTaken (stamp + x.config.syncFilter.ticks) →
    (∀ (sync index : List LineEdge) (e : LineEdge) (at' : Nat), edgesWf sync = true → edgesWf index = true →
      at' = max e.time s.lineEpoch →
      ((∃ rest, sync = e :: rest ∧ ∀ d ∈ index.head?, e.time < d.time) ∨
          (∃ rest, index = e :: rest ∧ ∀ d ∈ sync.head?, e.time ≤ d.time) →
        syncWaits x at' → at' ≤ s.now →
        ∃ t : State, exec (.syncRecognition c [] []) s = .next t ∧
          exec (.syncRecognition c sync index) s = exec (.syncRecognition c sync index) t) ∧
      (¬ (syncWaits x at' ∧ at' ≤ s.now) →
        (∀ rest, sync = e :: rest → (∀ d ∈ index.head?, e.time < d.time) →
          exec (.syncRecognition c sync index) s =
            exec (.syncRecognition c rest index) (s.setChan c { x with
              syncLine := if x.syncLine.high ≠ e.high ∧ x.syncLine.since ≤ at' ∧ at' ≤ s.now then ⟨e.high, at', false⟩
                else x.syncLine })) ∧
        (∀ rest, index = e :: rest → (∀ d ∈ sync.head?, e.time ≤ d.time) →
          exec (.syncRecognition c sync index) s =
            exec (.syncRecognition c sync rest) (s.setChan c { x with
              indexPin := if x.indexPin.high ≠ e.high ∧ x.indexPin.since ≤ at' ∧ at' ≤ s.now then ⟨e.high, at'⟩
                else x.indexPin })))) ∧
    (¬ syncWaits x s.now → exec (.syncRecognition c [] []) s = .next s.settled) ∧
    (syncWaits x s.now → .syncRecognition c [] [] ∈ dueEvents s) ∧
    (syncWaits x s.now →
      (x.tracker.state = .off → exec (.syncRecognition c [] []) s = .next (State.settled (s.setChan c y))) ∧
      (x.tracker.state = .acquiring → x.tracker.anchor = none →
        (indexCarried x →
          exec (.syncRecognition c [] []) s =
            .next (State.settled (s.setChan c { y with
              tracker := { x.tracker with anchor := some ⟨stamp, 0, 0⟩, good := 0 } }))) ∧
        (¬ indexCarried x → exec (.syncRecognition c [] []) s = .next (State.settled (s.setChan c y)))) ∧
      ∀ a : Anchor, x.tracker.state = .acquiring → x.tracker.anchor = some a →
        ((x.config.pnom : Int) - x.config.tw ≤ (stamp : Int) - a.time →
          (stamp : Int) - a.time ≤ (x.config.pnom : Int) + x.config.tw →
          (indexCarried x →
            exec (.syncRecognition c [] []) s =
              .next (State.settled (s.setChan c { y with
                tracker := { x.tracker with anchor := some ⟨stamp, 0, 0⟩, good := 0 } }))) ∧
          (¬ indexCarried x → x.tracker.good = 0 →
            exec (.syncRecognition c [] []) s =
              .next (State.settled (s.setChan c { y with
                tracker := ⟨.acquiring, some ⟨stamp, (a.wedge + 1) % x.config.w, a.count + 1⟩,
                  min (stamp - a.time) 65535, 1, 0⟩ }))) ∧
          (¬ indexCarried x → x.tracker.good = 1 →
            exec (.syncRecognition c [] []) s =
              .next (State.settled (placeNotice
                (.syncChange c .acquired .locked ((a.wedge + 1) % x.config.w) (min (stamp - a.time) 65535) 0 0)
                (s.setChan c { y with
                  tracker := ⟨.locked, some ⟨stamp, (a.wedge + 1) % x.config.w, a.count + 1⟩,
                    min (stamp - a.time) 65535, 2, 0⟩ }))))) ∧
        ((stamp : Int) - a.time < (x.config.pnom : Int) - x.config.tw ∨
            (x.config.pnom : Int) + x.config.tw < (stamp : Int) - a.time →
          (indexCarried x →
            exec (.syncRecognition c [] []) s =
              .next (State.settled (s.setChan c { y with
                tracker := { x.tracker with pest := x.config.pnom, good := 0, anchor := some ⟨stamp, 0, 0⟩ } }))) ∧
          (¬ indexCarried x →
            exec (.syncRecognition c [] []) s =
              .next (State.settled (s.setChan c { y with
                tracker := { x.tracker with pest := x.config.pnom, good := 0, anchor := none } })))))

/-- SYNC_RECOGNITION while LOCKED or COASTING, of a sync that its filter has held: one outside prediction - Tw to prediction + Tw
is ignored; one inside becomes the anchor, with the next wedge and count, the miss count 0, and Pest moved an eighth of the way to
the interval; one that carries index where the wedge is not 0 is an index slip, which loses the reference. An anchor forms the
front burst's expected gate time again while it is QUEUED, and its own wedge fixes it, whatever its state; in BIAS the anchor
counts toward the bias hold; and a window that a re-anchoring leaves in the past or present closes at once (R49, R50, R58, R61,
R62, R69, R75, R86). That the laser stays in BIAS at the anchor whose count reaches the bias hold, and goes DARK by
BIAS_HOLD_EXPIRY, is the model's reading (notes/assumptions/14.md), and so is that the flush at an index slip charges a BARRED
burst whose tail has ended (notes/assumptions/6.md). -/
def Obligations.SyncTracks : Prop :=
  ∀ (c : Chan) (s : State) (x y0 : Channel) (stamp : Nat) (a : Anchor) (w : Nat) (p : Nat),
    s.held = false → x = s.chan c → syncWaits x s.now → stamp = x.syncLine.since →
    y0 = x.syncTaken (stamp + x.config.syncFilter.ticks) → x.tracker.state = .locked ∨ x.tracker.state = .coasting →
    x.tracker.anchor = some a → w = (a.wedge + 1) % x.config.w →
    p = ((x.tracker.pest : Int) +
      Int.tdiv (min ((stamp : Int) - a.time) 65535 - (x.tracker.pest : Int)) 8).toNat →
    ((stamp : Int) < (a.time + x.tracker.pest : Int) - x.config.tw ∨
        (a.time + x.tracker.pest : Int) + x.config.tw < stamp →
      exec (.syncRecognition c [] []) s = .next (State.settled (s.setChan c y0))) ∧
    ((a.time + x.tracker.pest : Int) - x.config.tw ≤ stamp → (stamp : Int) ≤ (a.time + x.tracker.pest : Int) + x.config.tw →
      (indexCarried x → w ≠ 0 →
        ∃ t : State, exec (.syncRecognition c [] []) s = .next t.settled ∧ (t.chan c).syncLine = y0.syncLine ∧
          (t.chan c).indexPin = y0.indexPin ∧
          LosesReference c .indexSlip ⟨.acquiring, some ⟨stamp, 0, 0⟩, x.config.pnom, 0, 0⟩ s t) ∧
      (∀ y : Channel, ¬ indexCarried x ∨ w = 0 → tailRuns x →
        y = Channel.anchored { y0 with tracker := ⟨.locked, some ⟨stamp, w, a.count + 1⟩, p, x.tracker.good, 0⟩ } →
        (frontStays y s.now ∨ ¬ reanchored x (a.count + 1) →
          exec (.syncRecognition c [] []) s = .next (State.settled (s.setChan c y))) ∧
        (∀ (b : Burst) (rest : List Burst), x.queue = b :: rest → reanchored x (a.count + 1) → ¬ windowOpen y s.now →
          (∀ t : State, x.seq.active = .front →
            b.state = .heating ∧ x.seq.laser = .preheat ∨ b.state = .ready ∧ x.seq.laser = .hold →
            t = s.setChan c (y.tailing
              { b.litFor x.seq.laser (s.now - x.seq.phaseStart) with state := .cooling ⟨.missed, .none⟩ } s.now) →
            (0 < b.plan.tailLen → exec (.syncRecognition c [] []) s = .next t.settled) ∧
            (b.plan.tailLen = 0 → exec (.syncRecognition c [] []) s = exec (.tailEnd c) t)) ∧
          (∀ r, b.state = .barred r → (∀ g ∈ y.gate, g.closed = false) →
            (x.seq.laser = .tail ∧ x.seq.active = .front ∨ b.gateVetoed = true →
              exec (.syncRecognition c [] []) s = .next (State.settled (s.setChan c y.windowOver))) ∧
            (x.seq.active ≠ .front → b.gateVetoed = false → waitsInTurn y s.now rest →
              ∃ t : State, exec (.syncRecognition c [] []) s = .next t.settled ∧ (t.chan c).seq = y.seq ∧
                t.supply = s.supply ∧ Completes c b ⟨.vetoed, r⟩ rest (s.setChan c y) t)))))

/-- MISS_EXPIRY: once the timebase has passed prediction + Tw + the filter, a tracker that has missed fewer than M coasts: the
predicted wedge becomes the anchor, with all that an anchor does to the front burst and to the bias hold count, the miss count
rises by 1, and leaving LOCKED is reported; at M the lock is lost: the tracker acquires, the queue is flushed and the laser goes
DARK. Before that it has no effect (R59, R60, R62, R69, R75, R86). That the report of leaving LOCKED is placed before the
completion of a burst whose window the coasted anchor closes is the model's choice (notes/assumptions/28.md), and that the bias
hold expires by an event of its own, that an event that is not due has no effect, and that the flush charges a BARRED burst
whose tail has ended are its readings (notes/assumptions/14.md, 4.md and 6.md). -/
def Obligations.MissExpiryCoastsOrLosesLock : Prop :=
  ∀ (c : Chan) (s : State) (x : Channel) (a : Anchor) (w : Nat), s.held = false → x = s.chan c →
    x.tracker.anchor = some a → w = (a.wedge + 1) % x.config.w →
    (s.now ≤ a.time + x.tracker.pest + x.config.tw + x.config.syncFilter.ticks →
      exec (.missExpiry c) s = .next s.settled) ∧
    (a.time + x.tracker.pest + x.config.tw + x.config.syncFilter.ticks < s.now →
      x.tracker.state = .locked ∨ x.tracker.state = .coasting →
      (x.config.m ≤ x.tracker.miss →
        ∃ t : State, exec (.missExpiry c) s = .next t.settled ∧ (t.chan c).syncLine = x.syncLine ∧
          (t.chan c).indexPin = x.indexPin ∧
          LosesReference c .lost ⟨.acquiring, none, x.config.pnom, 0, 0⟩ s t) ∧
      (∀ (y : Channel) (u : State), x.tracker.miss < x.config.m → tailRuns x →
        y = Channel.anchored { x with
          tracker := ⟨.coasting, some ⟨a.time + x.tracker.pest, w, a.count + 1⟩, x.tracker.pest, x.tracker.good,
            x.tracker.miss + 1⟩ } →
        u = (if x.tracker.state = .locked then
          placeNotice (.syncChange c .coasting .coasting w x.tracker.pest (x.tracker.miss + 1) 0) s else s) →
        (frontStays y s.now ∨ ¬ reanchored x (a.count + 1) →
          exec (.missExpiry c) s = .next (State.settled (u.setChan c y))) ∧
        (∀ (b : Burst) (rest : List Burst), x.queue = b :: rest → reanchored x (a.count + 1) → ¬ windowOpen y s.now →
          (∀ t : State, x.seq.active = .front →
            b.state = .heating ∧ x.seq.laser = .preheat ∨ b.state = .ready ∧ x.seq.laser = .hold →
            t = u.setChan c (y.tailing
              { b.litFor x.seq.laser (s.now - x.seq.phaseStart) with state := .cooling ⟨.missed, .none⟩ } s.now) →
            (0 < b.plan.tailLen → exec (.missExpiry c) s = .next t.settled) ∧
            (b.plan.tailLen = 0 → exec (.missExpiry c) s = exec (.tailEnd c) t)) ∧
          (∀ r, b.state = .barred r → (∀ g ∈ y.gate, g.closed = false) →
            (x.seq.laser = .tail ∧ x.seq.active = .front ∨ b.gateVetoed = true →
              exec (.missExpiry c) s = .next (State.settled (u.setChan c y.windowOver))) ∧
            (x.seq.active ≠ .front → b.gateVetoed = false → waitsInTurn y s.now rest →
              ∃ t : State, exec (.missExpiry c) s = .next t.settled ∧ (t.chan c).seq = y.seq ∧ t.supply = s.supply ∧
                Completes c b ⟨.vetoed, r⟩ rest (u.setChan c y) t)))))

/-! ## Guard and light sense -/

/-- GUARD_ASSERTION. A rise that has been held for the filter's length is recognised: in DARK, BIAS and TAIL it changes the
filtered level alone; in PREHEAT and HOLD the burst becomes BARRED (GUARD) and its tail runs; in BOOST and SUSTAIN the burst is
ABORTED (GUARD), its gate duration ending now, and its tail runs, over at once when Tt is 0. GUARD_DEASSERTION: a fall that has
been held changes the filtered level alone. An edge not yet held, or one that ends a pulse shorter than the filter's length,
moves the pin alone, and the part recognises a level by itself once it has been held (R44, R49, R81, R87). That an edge is told by
a command, and that one earlier than what is known of the line has no effect, is the model's reading (notes/assumptions/11.md and
4.md). -/
def Obligations.GuardStrikesALitLaser : Prop :=
  ∀ (c : Chan) (edge : Nat) (s : State) (x : Channel) (p : Line) (f : Filter) (stamp : Nat), s.held = false →
    x = s.chan c → p = x.guardLine → f = x.config.guardFilter → stamp = max edge s.lineEpoch →
    (∀ (level : Bool) (i : Instr), i = (if level then .guardAssertion c edge else .guardDeassertion c edge) →
      (edgeIdle p f level stamp s.now → exec i s = .next s.settled) ∧
      (edgeMoves p f level stamp s.now →
        exec i s = .next (State.settled (s.setChan c { x with guardLine := ⟨level, stamp, p.filtered⟩ }))) ∧
      (edgeOvertakes p f level stamp s.now →
        ∃ t : State, exec (if level then .guardDeassertion c p.since else .guardAssertion c p.since) s = .next t ∧
          exec i s = exec i t) ∧
      (p.high = level → p.filtered ≠ level → p.since + f.ticks ≤ s.now →
        (if level then .guardAssertion c p.since else .guardDeassertion c p.since) ∈ dueEvents s)) ∧
    (∀ since : Nat, edgeRecognised p f false stamp since s.now →
      exec (.guardDeassertion c edge) s =
        .next (State.settled (s.setChan c { x with guardLine := ⟨false, since + f.ticks, false⟩ }))) ∧
    ∀ (since : Nat) (y : Channel), edgeRecognised p f true stamp since s.now →
      y = { x with guardLine := ⟨true, since + f.ticks, true⟩ } →
      (x.seq.laser = .dark ∨ x.seq.laser = .bias ∨ x.seq.laser = .tail → tailRuns x →
        exec (.guardAssertion c edge) s = .next (State.settled (s.setChan c y))) ∧
      ∀ (b d : Burst) (rest : List Burst), x.queue = b :: rest → x.seq.active = .front →
        ((x.seq.laser = .preheat ∨ x.seq.laser = .hold) ∧
            d = { b.litFor x.seq.laser (s.now - x.seq.phaseStart) with state := .barred .guard } ∨
          (x.seq.laser = .boost ∨ x.seq.laser = .sustain) ∧
            d = { b.litFor x.seq.laser (s.now - x.seq.phaseStart) with
              state := .cooling ⟨.aborted, .guard⟩, gate := b.gate.map fun g => { g with stop := some s.now } }) →
        (0 < b.plan.tailLen →
          exec (.guardAssertion c edge) s = .next (State.settled (s.setChan c (y.tailing d s.now)))) ∧
        (b.plan.tailLen = 0 →
          exec (.guardAssertion c edge) s = exec (.tailEnd c) (s.setChan c (y.tailing d s.now)))

/-- LIGHT_ASSERTION, recognised once it has been held: the first of a lit span makes the light status SEEN, and a sampled arming
records its latency, unless it is stamped before PREHEAT entry; any other changes the filtered level alone. LIGHT_DEASSERTION,
recognised while SEEN and lit, is a dropout: in PREHEAT and HOLD the burst becomes BARRED (LIGHT_LOSS), in BOOST and SUSTAIN it is
ABORTED (LIGHT_LOSS), its tail runs, over at once when Tt is 0, and its head has a strike more; at the strike limit the head
enters FAULT, which flushes its waiting bursts, the barred one among them with its tail running on. A dropout that falls together
with a flush of the whole queue taken before it still takes the head to FAULT when its strike reaches the limit; that a strike
below the limit is then not counted is the model's reading (notes/assumptions/26.md), and so are the strike before the end of a
tail of no length (notes/assumptions/16.md) and which edges move nothing (notes/assumptions/4.md and 11.md). Any other recognised
fall changes the filtered level alone, and an edge not yet held, or one that ends a short pulse, moves the pin alone (R49, R81,
R88, R90, R110, R111, R113). -/
def Obligations.LightIsSeenOrDropsOut : Prop :=
  ∀ (c : Chan) (edge : Nat) (s : State) (x : Channel) (p : Line) (f : Filter) (stamp : Nat), s.held = false →
    x = s.chan c → p = x.lightLine → f = x.config.lightFilter → stamp = max edge s.lineEpoch →
    (∀ (level : Bool) (i : Instr), i = (if level then .lightAssertion c edge else .lightDeassertion c edge) →
      (edgeIdle p f level stamp s.now → exec i s = .next s.settled) ∧
      (edgeMoves p f level stamp s.now →
        exec i s = .next (State.settled (s.setChan c { x with lightLine := ⟨level, stamp, p.filtered⟩ }))) ∧
      (edgeOvertakes p f level stamp s.now →
        ∃ t : State, exec (if level then .lightDeassertion c p.since else .lightAssertion c p.since) s = .next t ∧
          exec i s = exec i t) ∧
      (p.high = level → p.filtered ≠ level → p.since + f.ticks ≤ s.now →
        (if level then .lightAssertion c p.since else .lightDeassertion c p.since) ∈ dueEvents s)) ∧
    (∀ since : Nat, edgeRecognised p f true stamp since s.now →
      (x.seq.light = .none ∨ x.seq.light = .seen →
        exec (.lightAssertion c edge) s =
          .next (State.settled (s.setChan c { x with lightLine := ⟨true, since + f.ticks, true⟩ }))) ∧
      (∀ (e : Nat) (b d : Burst) (rest : List Burst), x.seq.light = .awaiting e →
        d = (if b.sampledArming = true ∧ x.seq.litSince ≤ since then
          { b with latency := some (min (since - x.seq.litSince) 65535) } else b) →
        (x.seq.active = .front → x.queue = b :: rest →
          exec (.lightAssertion c edge) s =
            .next (State.settled (s.setChan c { x with
              lightLine := ⟨true, since + f.ticks, true⟩, seq := { x.seq with light := .seen }, queue := d :: rest }))) ∧
        (x.seq.active = .detached b →
          exec (.lightAssertion c edge) s =
            .next (State.settled (s.setChan c { x with
              lightLine := ⟨true, since + f.ticks, true⟩
              seq := { x.seq with light := .seen, active := .detached d } }))))) ∧
    (∀ (since : Nat) (y : Channel), edgeRecognised p f false stamp since s.now →
      y = { x with lightLine := ⟨false, since + f.ticks, false⟩ } →
      (x.seq.light ≠ .seen ∨ x.seq.laser = .tail ∨ x.seq.laser = .dark ∨ x.seq.laser = .bias →
        ((∀ h m, x.seq.darkened = some ⟨h, m, .seen⟩ → m < since + f.ticks) →
          exec (.lightDeassertion c edge) s = .next (State.settled (s.setChan c y))) ∧
        ∀ (h : Fin 24) (m n : Nat) (z : Channel), x.seq.darkened = some ⟨h, m, .seen⟩ →
          since + f.ticks ≤ m → n = min (s.heads[h].strikes + 1) 7 →
          z = { y with seq := { x.seq with darkened := none } } →
          (n < s.heads[h].strikeLimit → exec (.lightDeassertion c edge) s = .next (State.settled (s.setChan c z))) ∧
          (s.heads[h].strikeLimit ≤ n → s.heads[h].state = .ready ∨ s.heads[h].state = .parked →
            s.heads[h].channel = c → x.queue = [] → x.seq.laser = .dark →
            exec (.lightDeassertion c edge) s =
              .next (State.settled (placeNotice (.headFault h c .dropout n 0)
                ((s.setChan c z).setHead h { s.heads[h] with strikes := n, state := .fault .dropout }))))) ∧
      ∀ (b d : Burst) (rest kept : List Burst) (n flushed : Nat) (z : Channel), x.seq.light = .seen →
        x.seq.active = .front → x.queue = b :: rest → x.seq.selected = some b.head →
        n = min (s.heads[b.head].strikes + 1) 7 →
        kept = rest.filter (fun r => !(r.head == b.head && waitsToBeLit r.state)) →
        ((x.seq.laser = .preheat ∧ b.state = .heating ∨ x.seq.laser = .hold ∧ b.state = .ready) ∧
            d = { b.litFor x.seq.laser (s.now - x.seq.phaseStart) with state := .barred .lightLoss } ∧
            flushed = rest.length - kept.length + 1 ∧
            z = { y.tailing d s.now with
              queue := asFront kept, gate := kept.head?.bind (expectedGate x.tracker)
              seq := { (y.tailing d s.now).seq with active := .detached d } } ∨
          (x.seq.laser = .boost ∨ x.seq.laser = .sustain) ∧
            d = { b.litFor x.seq.laser (s.now - x.seq.phaseStart) with
              state := .cooling ⟨.aborted, .lightLoss⟩, gate := b.gate.map fun g => { g with stop := some s.now } } ∧
            flushed = rest.length - kept.length ∧ z = { y.tailing d s.now with queue := d :: kept }) →
        (∀ u : State, n < s.heads[b.head].strikeLimit →
          u = (s.setChan c (y.tailing d s.now)).setHead b.head { s.heads[b.head] with strikes := n } →
          (0 < b.plan.tailLen → exec (.lightDeassertion c edge) s = .next u.settled) ∧
          (b.plan.tailLen = 0 → exec (.lightDeassertion c edge) s = exec (.tailEnd c) u)) ∧
        (∀ u : State, s.heads[b.head].strikeLimit ≤ n →
          s.heads[b.head].state = .ready ∨ s.heads[b.head].state = .parked → s.heads[b.head].channel = c →
          u = placeNotice (.headFault b.head c .dropout n flushed)
            ((s.setChan c z).setHead b.head { s.heads[b.head] with strikes := n, state := .fault .dropout }) →
          (0 < b.plan.tailLen → (d.state = .barred .lightLoss → waitsInTurn x s.now kept) →
            exec (.lightDeassertion c edge) s = .next u.settled) ∧
          (b.plan.tailLen = 0 → (d.state = .barred .lightLoss → waitsInTurn x s.now kept) →
            exec (.lightDeassertion c edge) s = exec (.tailEnd c) u) ∧
          (∀ (k : Burst) (left : List Burst) (r : Reason), b.plan.tailLen = 0 → d.state = .barred .lightLoss →
            kept = k :: left → closesOnEntry x s.now k r → waitsInTurn x s.now left → TagLaw s →
            ∃ w t : State, w.link.tx = s.link.tx ∧ exec (.tailEnd c) u = .next w.settled ∧ (t.chan c).seq = (w.chan c).seq ∧
              t.supply = w.supply ∧ Completes c { k with state := .barred r } ⟨.vetoed, r⟩ left w t ∧
              exec (.lightDeassertion c edge) s = .next t.settled)))

/-! ## The write gate -/

/-- WGATE_RISE inside the front burst's window, whose close has not been taken: a READY burst's gate is accepted, and so is a
HEATING one's under ACCEPT, with UNDERHEAT: the burst is WRITING with its gate error, the laser is in BOOST, or in SUSTAIN when Kb
is 0, and the overrun time is set; under VETO the burst is COOLING (VETOED, UNDERHEAT) with its tail, over at once when Tt is 0
(R81); a BARRED burst's gate is vetoed. Any other rise of a low pin is an unplanned gate, noted and leaving the burst as it is (R75
to R79, R94). That a command for a rise of a pin that is high already has no effect is the model's reading
(notes/assumptions/4.md), and so is the veto for a BARRED burst while a detached tail runs (notes/assumptions/33.md). -/
def Obligations.GateRiseIsJudged : Prop :=
  ∀ (c : Chan) (s : State) (x y : Channel), x = s.chan c → y = { x with wgate := true } →
    (x.wgate = true → exec (.wgateRise c) s = .next s) ∧
    (s.held = false → x.wgate = false →
      (∀ (b : Burst) (rest : List Burst) (g : GateTime) (u : Bool), x.queue = b :: rest → x.gate = some g →
        g.closed = false → g.time - x.config.early ≤ s.now → (s.now : Int) ≤ g.time + x.config.late →
        x.seq.active = .front →
        (b.state = .ready ∧ x.seq.laser = .hold ∧ u = b.underheat ∨
          b.state = .heating ∧ x.seq.laser = .preheat ∧ b.plan.policy = .accept ∧ u = true) →
        exec (.wgateRise c) s =
          .next (State.settled (s.setChan c { y with
            queue := { b.litFor x.seq.laser (s.now - x.seq.phaseStart) with
              state := .writing, gate := some ⟨s.now, (s.now : Int) - g.time, none⟩, underheat := u } :: rest
            seq := { x.seq with
              laser := if b.plan.boostLen = 0 then .sustain else .boost
              phaseEnd := if b.plan.boostLen = 0 then none else some (s.now + b.plan.boostLen)
              overrunAt := some (s.now + b.length + x.config.overrun)
              phaseStart := s.now } }))) ∧
      (∀ (b : Burst) (rest : List Burst) (g : GateTime), x.queue = b :: rest → x.gate = some g →
        g.closed = false → g.time - x.config.early ≤ s.now → (s.now : Int) ≤ g.time + x.config.late →
        (∀ t : State, b.state = .heating → x.seq.laser = .preheat → x.seq.active = .front → b.plan.policy = .veto →
          t = s.setChan c (y.tailing
            { b.litFor .preheat (s.now - x.seq.phaseStart) with state := .cooling ⟨.vetoed, .underheat⟩ } s.now) →
          (0 < b.plan.tailLen → exec (.wgateRise c) s = .next t.settled) ∧
          (b.plan.tailLen = 0 → exec (.wgateRise c) s = exec (.tailEnd c) t)) ∧
        (∀ r : Reason, b.state = .barred r → tailRuns x →
          exec (.wgateRise c) s =
            .next (State.settled (s.setChan c
              { y with queue := { b with gateVetoed := true, barOver := false } :: rest })))) ∧
      ((x.queue = [] ∨ (∃ b ∈ x.queue.head?, b.state = .queued ∨ runsOn b.state = true) ∨
          (∀ g, x.gate = some g →
            g.closed = true ∨ (s.now : Int) < g.time - x.config.early ∨ g.time + x.config.late < (s.now : Int))) →
        tailRuns x →
        exec (.wgateRise c) s =
          .next (State.settled (placeNotice
            (.unplannedGate c x.seq.laser (x.tracker.anchor.map fun a => min (s.now - a.time) 4294967295))
            (s.setChan c y)))))

/-- WGATE_FALL in BOOST or SUSTAIN where the burst behind does not chain (it is of another head, is not QUEUED, carries a decided
bar, or starts warm later than the tail would end): the outcome WRITTEN is decided, the gate ends, and the tail runs for Tt, over
at once when Tt is 0. A fall of a BARRED burst's vetoed gate ends it: the burst waits for its tail, or completes VETOED with its
reason when none runs. A fall outside a write and with no
vetoed gate changes the pin alone (R11, R79, R81, R83). That a command for a fall of a pin that is low already has no effect is
the model's reading (notes/assumptions/4.md). -/
def Obligations.GateFallEndsTheWrite : Prop :=
  ∀ (c : Chan) (s : State) (x y : Channel), x = s.chan c → y = { x with wgate := false } →
    (x.wgate = false → exec (.wgateFall c) s = .next s) ∧
    (s.held = false → x.wgate = true →
      (∀ (b : Burst) (rest : List Burst) (t : State), x.queue = b :: rest → x.seq.active = .front →
        x.seq.laser = .boost ∨ x.seq.laser = .sustain → (∀ d ∈ rest.head?, ¬ hotChains x b d s.now) →
        t = s.setChan c (y.tailing
          { b.litFor x.seq.laser (s.now - x.seq.phaseStart) with
            state := .cooling ⟨.written, .none⟩, gate := b.gate.map fun g => { g with stop := some s.now } } s.now) →
        (0 < b.plan.tailLen → exec (.wgateFall c) s = .next t.settled) ∧
        (b.plan.tailLen = 0 → exec (.wgateFall c) s = exec (.tailEnd c) t)) ∧
      (x.seq.laser ≠ .boost → x.seq.laser ≠ .sustain → (∀ b ∈ x.queue.head?, b.gateVetoed = false) →
        exec (.wgateFall c) s = .next (State.settled (s.setChan c y))) ∧
      (∀ (b : Burst) (rest : List Burst) (r : Reason), x.queue = b :: rest → b.gateVetoed = true →
        b.state = .barred r →
        (x.seq.laser = .tail → x.seq.active = .front → tailRuns x →
          exec (.wgateFall c) s =
            .next (State.settled (s.setChan c
              { y with queue := { b with gateVetoed := false, barOver := true } :: rest }))) ∧
        (x.seq.laser = .dark ∨ x.seq.laser = .bias → waitsInTurn x s.now rest →
          ∃ t : State, exec (.wgateFall c) s = .next t.settled ∧ (t.chan c).seq = x.seq ∧ t.supply = s.supply ∧
            Completes c b ⟨.vetoed, r⟩ rest (s.setChan c y) t)))

/-- WGATE_FALL with a hot chain: the second burst is QUEUED, of the same head and with no decided bar, and its warm start falls
no later than the writing burst's tail would end. When its supply and heat checks pass, the writing burst completes WRITTEN
with no tail, and the second is READY in HOLD, hot-chained, warm and committed, its accumulation beginning. When one fails, the
bar is decided on the second burst, and the writing burst runs its tail, over at once when Tt is 0. Where the second burst's window
has closed already, the window close follows the handover at once: it is COOLING (MISSED) with its tail (R11, R75, R81, R83, R84,
R148). That a commitment accepted and withdrawn within the event adopts no pending supply limit is the model's reading
(notes/assumptions/15.md). -/
def Obligations.HotChainHandsOver : Prop :=
  ∀ (c : Chan) (s : State) (x : Channel) (b1 b2 d1 d2 : Burst) (rest : List Burst) (a : Anchor) (gate headroom : Int)
    (f level : Nat),
    s.held = false → x = s.chan c → x.wgate = true → x.seq.laser = .boost ∨ x.seq.laser = .sustain →
    x.seq.active = .front → x.queue = b1 :: b2 :: rest → b1.state = .writing → b2.state = .queued → b2.decidedBar = none →
    b2.head = b1.head → x.tracker.anchor = some a →
    gate = (a.time : Int) + ((b2.target : Int) - (a.count : Int)) * (x.tracker.pest : Int) + (b2.offset : Int) →
    gate - (b2.plan.lead : Int) ≤ (s.now : Int) + (b1.plan.tailLen : Int) →
    headroom = (s.supply.effective : Int) - ((s.chan c.other).seq.committed : Int) →
    d1 = { b1.litFor x.seq.laser (s.now - x.seq.phaseStart) with
      gate := b1.gate.map fun g => { g with stop := some s.now } } →
    f = (if 0 < headroom then headroom.toNat * 256 / b2.plan.boost else 0) →
    level = s.heads[b1.head].bucket + d1.acc / 4096 →
    ((b2.plan.boost : Int) ≤ headroom ∧ d2 = b2 ∨
      headroom < b2.plan.boost ∧ b2.plan.ith < b2.plan.sustain * f / 256 ∧
        d2 = { b2 with derate := some f, derated := true } →
      (level + heatEstimate d2 b2.plan.lead ≤ s.heads[b1.head].ceiling →
        ∃ (t : State) (m : Burst),
          m = { d2 with state := .ready, hotChain := true, leadUsed := some ⟨b2.plan.lead, false⟩ } ∧
          ((s.now : Int) < gate + x.config.late → exec (.wgateFall c) s = .next t.settled) ∧
          (∀ z : State, gate + x.config.late ≤ s.now →
            z = t.setChan c ((t.chan c).tailing { m.litFor .hold 0 with state := .cooling ⟨.missed, .none⟩ } s.now) →
            (0 < b2.plan.tailLen → exec (.wgateFall c) s = .next z.settled) ∧
            (b2.plan.tailLen = 0 → exec (.wgateFall c) s = exec (.tailEnd c) z)) ∧
          (t.chan c).queue = m :: rest ∧
          (t.chan c).gate = some ⟨gate, decide (b2.target ≤ a.count), false⟩ ∧
          (t.chan c).seq = { x.seq with
            laser := .hold, committed := d2.currents.boost, phaseEnd := none, overrunAt := none, phaseStart := s.now } ∧
          t.supply = supplyAfter s.supply (d2.currents.boost + (s.chan c.other).seq.committed) ∧
          HeadCompleted d1 ⟨.written, .none⟩ s.heads[b1.head] t.heads[b1.head] ∧
          t.link = (completionNoted x.config.reportOk d1 ⟨.written, .none⟩ s).link ∧
          SameLines { x with wgate := false } (t.chan c) ∧ SameHeadsBut b1.head s t ∧ SameOther c s t ∧ SameTables s t) ∧
      (∀ t : State, s.heads[b1.head].ceiling < level + heatEstimate d2 b2.plan.lead →
        t = s.setChan c (Channel.tailing
          { x with wgate := false, queue := b1 :: { d2 with decidedBar := some .hot } :: rest }
          { d1 with state := .cooling ⟨.written, .none⟩ } s.now) →
        (0 < b1.plan.tailLen → exec (.wgateFall c) s = .next t.settled) ∧
        (b1.plan.tailLen = 0 → exec (.wgateFall c) s = exec (.tailEnd c) t))) ∧
    (∀ t : State, headroom < b2.plan.boost → b2.plan.sustain * f / 256 ≤ b2.plan.ith →
      t = s.setChan c (Channel.tailing
        { x with wgate := false, queue := b1 :: { b2 with derate := some f, decidedBar := some .starved } :: rest }
        { d1 with state := .cooling ⟨.written, .none⟩ } s.now) →
      (0 < b1.plan.tailLen → exec (.wgateFall c) s = .next t.settled) ∧
      (b1.plan.tailLen = 0 → exec (.wgateFall c) s = exec (.tailEnd c) t))

/-! ## The timed events of the Laser Sequencer -/

/-- ARMING of the front QUEUED burst, once its scheduled start is reached in a rest state: an asserted guard bars it (GUARD); a
derated sustain current at or below threshold bars it (STARVED); a heat estimate that does not fit under the ceiling bars it
(HOT); otherwise the laser enters PREHEAT on its head with its lead, warm from BIAS on the head and cold otherwise, its
commitment, its light deadline and its sampling decision. Where the burst's window has closed already, the window close follows at
once: the barred burst completes VETOED, and the lit one is COOLING (MISSED) with its tail, over at once when Tt is 0. Before the
scheduled start nothing happens (R39 to R41, R70 to R73, R75, R79, R81, R107, R148). That a command for it then has no effect, and
that a commitment accepted and withdrawn by a HOT bar adopts no pending supply limit, is the model's reading
(notes/assumptions/4.md and 15.md). -/
def Obligations.ArmingIsChecked : Prop :=
  ∀ (c : Chan) (s : State) (x : Channel) (b : Burst) (rest : List Burst) (g : GateTime) (cold : Bool) (lead f : Nat)
    (headroom : Int),
    s.held = false → x = s.chan c → x.seq.laser = .dark ∨ x.seq.laser = .bias → x.queue = b :: rest →
    b.state = .queued → b.decidedBar = none → x.gate = some g →
    cold = !(x.seq.laser == .bias && x.seq.selected == some b.head) →
    lead = (if cold then b.plan.coldLead else b.plan.lead) →
    headroom = (s.supply.effective : Int) - ((s.chan c.other).seq.committed : Int) →
    f = (if 0 < headroom then headroom.toNat * 256 / b.plan.boost else 0) →
    ((s.now : Int) < g.time - lead → exec (.arming c) s = .next s.settled) ∧
    (g.time - lead ≤ s.now →
      (∀ (r : Reason) (d : Burst) (u : State),
        (x.guardLine.filtered = true ∧ r = .guard ∧ d = { b with state := .barred .guard } ∨
          x.guardLine.filtered = false ∧ headroom < b.plan.boost ∧ b.plan.sustain * f / 256 ≤ b.plan.ith ∧
            r = .starved ∧ d = { b with state := .barred .starved, derate := some f } ∨
          x.guardLine.filtered = false ∧ (b.plan.boost : Int) ≤ headroom ∧
            s.heads[b.head].ceiling < s.heads[b.head].bucket + heatEstimate b lead ∧
            r = .hot ∧ d = { b with state := .barred .hot } ∨
          x.guardLine.filtered = false ∧ headroom < b.plan.boost ∧ b.plan.ith < b.plan.sustain * f / 256 ∧
            s.heads[b.head].ceiling <
              s.heads[b.head].bucket + heatEstimate { b with derate := some f, derated := true } lead ∧
            r = .hot ∧ d = { b with derate := some f, derated := true, state := .barred .hot }) →
        u = s.setChan c { x with queue := d :: rest, seq := { x.seq with biasCount := 0 } } →
        (windowOpen x s.now → exec (.arming c) s = .next u.settled) ∧
        (¬ windowOpen x s.now → g.closed = false → b.gateVetoed = false → waitsInTurn x s.now rest →
          ∃ t : State, exec (.arming c) s = .next t.settled ∧ (t.chan c).seq = (u.chan c).seq ∧ t.supply = s.supply ∧
            Completes c d ⟨.vetoed, r⟩ rest u t)) ∧
      (∀ (d : Burst) (u : State), x.guardLine.filtered = false →
        ((b.plan.boost : Int) ≤ headroom ∧ d = b ∨
          headroom < b.plan.boost ∧ b.plan.ith < b.plan.sustain * f / 256 ∧
            d = { b with derate := some f, derated := true }) →
        s.heads[b.head].bucket + heatEstimate d lead ≤ s.heads[b.head].ceiling →
        u = { (s.setChan c { x with
            queue := { d with
              state := .heating
              leadUsed := some ⟨lead, cold⟩
              sampledArming := !cold && s.heads[b.head].sampleCountdown == 0 &&
                decide (0 < s.heads[b.head].samplePeriod) } :: rest
            seq := { x.seq with
              laser := .preheat
              selected := some b.head
              active := .front
              committed := d.currents.boost
              biasCurrent := 0
              biasCount := 0
              light := if x.lightLine.filtered then .seen else .awaiting (s.now + lead + x.config.lightGrace)
              phaseEnd := some (s.now + lead)
              overrunAt := none
              phaseStart := s.now
              litSince := s.now } }) with
          supply := supplyAfter s.supply (d.currents.boost + (s.chan c.other).seq.committed) } →
        (windowOpen x s.now → exec (.arming c) s = .next u.settled) ∧
        (∀ (m : Burst) (z : State), ¬ windowOpen x s.now → (u.chan c).queue = m :: rest →
          z = u.setChan c ((u.chan c).tailing { m.litFor .preheat 0 with state := .cooling ⟨.missed, .none⟩ } s.now) →
          (0 < b.plan.tailLen → exec (.arming c) s = .next z.settled) ∧
          (b.plan.tailLen = 0 → exec (.arming c) s = exec (.tailEnd c) z))))

/-- PREHEAT_END, BOOST_END and BIAS_HOLD_EXPIRY, when due: HOLD with the burst READY, SUSTAIN, and DARK with nothing committed;
each has no effect before (R74, R80, R86, R144). That a command for an event that is not due has no effect, and that the bias hold
expires by an event of its own, is the model's reading (notes/assumptions/4.md and 14.md). -/
def Obligations.PhasesEndInTurn : Prop :=
  ∀ (c : Chan) (s : State) (x : Channel), s.held = false → x = s.chan c →
    (∀ (e : Nat) (b : Burst) (rest : List Burst), x.seq.laser = .preheat → x.seq.phaseEnd = some e →
      x.seq.active = .front → x.queue = b :: rest →
      (s.now < e → exec (.preheatEnd c) s = .next s.settled) ∧
      (e ≤ s.now →
        exec (.preheatEnd c) s =
          .next (State.settled (s.setChan c { x with
            queue := { b.litFor .preheat (s.now - x.seq.phaseStart) with state := .ready } :: rest
            seq := { x.seq with laser := .hold, phaseEnd := none, phaseStart := s.now } })))) ∧
    (∀ (e : Nat) (b : Burst) (rest : List Burst), x.seq.laser = .boost → x.seq.phaseEnd = some e →
      x.seq.active = .front → x.queue = b :: rest →
      (s.now < e → exec (.boostEnd c) s = .next s.settled) ∧
      (e ≤ s.now →
        exec (.boostEnd c) s =
          .next (State.settled (s.setChan c { x with
            queue := b.litFor .boost (s.now - x.seq.phaseStart) :: rest
            seq := { x.seq with laser := .sustain, phaseEnd := none, phaseStart := s.now } })))) ∧
    (x.seq.laser = .bias →
      (x.config.biasHold = 0 ∨ x.seq.biasCount < x.config.biasHold → exec (.biasHoldExpiry c) s = .next s.settled) ∧
      (x.config.biasHold ≠ 0 → x.config.biasHold ≤ x.seq.biasCount →
        exec (.biasHoldExpiry c) s =
          .next (State.settled
            { (s.setChan c { x with
                seq := { x.seq with
                  laser := .dark, selected := none, active := .idle, committed := 0, biasCurrent := 0
                  biasCount := 0, light := .none, phaseEnd := none, overrunAt := none } }) with
              supply := supplyAfter s.supply (s.chan c.other).seq.committed })))

/-- WINDOW_CLOSE of a HEATING or READY front burst: MISSED, with its tail, over at once when Tt is 0; of a BARRED one whose tail
runs, or whose vetoed gate is still asserted: its window is over, and a rise that is taken after the close is outside it (R94); of
a BARRED one with neither: it completes VETOED with its reason; before the close there is no effect. OVERRUN of a WRITING burst:
ABORTED (OVERRUN), with a gate that ends at the overrun time, and its tail (R11, R75, R79, R81,
R82). That a command for an event that is not due has no effect is the model's reading (notes/assumptions/4.md). -/
def Obligations.WindowCloseAndOverrunEndTheBurst : Prop :=
  ∀ (c : Chan) (s : State) (x : Channel) (b : Burst) (rest : List Burst), s.held = false → x = s.chan c →
    x.queue = b :: rest →
    (∀ g : GateTime, x.gate = some g →
      ((s.now : Int) < g.time + x.config.late → exec (.windowClose c) s = .next s.settled) ∧
      (∀ t : State, g.time + x.config.late ≤ s.now → x.seq.active = .front →
        b.state = .heating ∧ x.seq.laser = .preheat ∨ b.state = .ready ∧ x.seq.laser = .hold →
        t = s.setChan c (x.tailing
          { b.litFor x.seq.laser (s.now - x.seq.phaseStart) with state := .cooling ⟨.missed, .none⟩ } s.now) →
        (0 < b.plan.tailLen → exec (.windowClose c) s = .next t.settled) ∧
        (b.plan.tailLen = 0 → exec (.windowClose c) s = exec (.tailEnd c) t)) ∧
      (∀ r : Reason, b.state = .barred r → g.closed = true → exec (.windowClose c) s = .next s.settled) ∧
      (∀ r : Reason, g.time + x.config.late ≤ s.now → b.state = .barred r → g.closed = false → tailRuns x →
        (x.seq.laser = .tail ∧ x.seq.active = .front ∨ b.gateVetoed = true →
          exec (.windowClose c) s = .next (State.settled (s.setChan c x.windowOver))) ∧
        (x.seq.active ≠ .front → b.gateVetoed = false → waitsInTurn x s.now rest →
          ∃ t : State, exec (.windowClose c) s = .next t.settled ∧ (t.chan c).seq = x.seq ∧ t.supply = s.supply ∧
            Completes c b ⟨.vetoed, r⟩ rest s t))) ∧
    (∀ e : Nat, x.seq.active = .front → x.seq.laser = .boost ∨ x.seq.laser = .sustain → x.seq.overrunAt = some e →
      (s.now < e → exec (.overrun c) s = .next s.settled) ∧
      (∀ t : State, e ≤ s.now →
        t = s.setChan c (x.tailing
          { b.litFor x.seq.laser (s.now - x.seq.phaseStart) with
            state := .cooling ⟨.aborted, .overrun⟩, gate := b.gate.map fun g => { g with stop := some e } } s.now) →
        (0 < b.plan.tailLen → exec (.overrun c) s = .next t.settled) ∧
        (b.plan.tailLen = 0 → exec (.overrun c) s = exec (.tailEnd c) t)))

/-- TAIL_END, when due. A COOLING front burst completes with its decided outcome, and a BARRED one whose window is over completes
VETOED with its reason: it leaves the queue, its head is charged, sampled or counted down, and it is reported as R12 gives. A
BARRED burst whose first moment of R79 has not passed stays: its window's close is an event of its own (R75, R94). A detached
tail charges its head. The laser then rests in BIAS on the head or in DARK. The burst that comes to the front enters BARRED when it
carries a decided bar, and arms at once when its scheduled start is due in that rest state; that a BARRED burst and the one behind
it have different tags is `TagLaw`, which every step keeps. Before the end there is no effect (R11
to R13, R42, R45, R71, R79, R85, R108, R144, R149). That it then has none, and that a window once over stays over, is the model's
reading (notes/assumptions/4.md and 30.md). -/
def Obligations.TailEndCompletesTheBurst : Prop :=
  ∀ (c : Chan) (s : State) (x : Channel) (e : Nat), s.held = false → x = s.chan c → x.seq.laser = .tail →
    x.seq.phaseEnd = some e →
    (s.now < e → exec (.tailEnd c) s = .next s.settled) ∧
    (e ≤ s.now →
      (∀ (b d : Burst) (rest : List Burst) (v : Verdict), x.seq.active = .front → x.queue = b :: rest →
        b.state = .cooling v ∨ (∃ r, b.state = .barred r ∧ b.barOver = true ∧ v = ⟨.vetoed, r⟩) →
        d = b.litFor .tail (s.now - x.seq.phaseStart) →
        (rest = [] →
          ∃ t : State, exec (.tailEnd c) s = .next t.settled ∧ Completes c d v [] s t ∧ RestSettled c b s t) ∧
        (waitsInTurn x s.now rest →
          ∃ t : State, Completes c d v rest s t ∧ RestSettled c b s t ∧
            (¬ startDue (t.chan c) s.now → exec (.tailEnd c) s = .next t.settled) ∧
            (startDue (t.chan c) s.now → TagLaw s → exec (.tailEnd c) s = exec (.arming c) t))) ∧
      (∀ (b d : Burst) (units : Nat), x.seq.active = .detached b → (∀ r ∈ x.queue.head?, r.state = .queued) →
        d = b.litFor .tail (s.now - x.seq.phaseStart) → units = heatOf d.acc →
        ∃ t : State, (t.chan c).queue = x.queue ∧ (t.chan c).gate = x.gate ∧ RestSettled c b s t ∧
          t.heads = (charge b.head units s).heads ∧ t.link = (charge b.head units s).link ∧ SameLines x (t.chan c) ∧
          SameOther c s t ∧ SameTables s t ∧
          (x.queue = [] → exec (.tailEnd c) s = .next t.settled) ∧
          (¬ startDue (t.chan c) s.now → exec (.tailEnd c) s = .next t.settled) ∧
          (startDue (t.chan c) s.now → exec (.tailEnd c) s = exec (.arming c) t)) ∧
      (∀ (b : Burst) (rest : List Burst) (r : Reason), x.seq.active = .front → x.queue = b :: rest → b.state = .barred r →
        b.barOver = false →
        ∃ t : State, exec (.tailEnd c) s = .next t.settled ∧
          (t.chan c).queue = b.litFor .tail (s.now - x.seq.phaseStart) :: rest ∧ (t.chan c).gate = x.gate ∧
          RestSettled c b s t ∧ t.heads = s.heads ∧ t.link = s.link ∧ SameLines x (t.chan c) ∧ SameOther c s t ∧
          SameTables s t))

/-- LIGHT_DEADLINE, reached with the light still awaited: the laser goes DARK with nothing committed, the lit burst completes,
VETOED or ABORTED with LIGHT_ABSENT, or with its decided outcome when it is COOLING; a BARRED burst with its tail running is
flushed by the fault, and its heat and that of a detached tail are charged up to the darkening; and the head enters FAULT with
that cause, which flushes the head's waiting bursts and is noted with their number. Where a flush of the whole queue that fell
together with the deadline was taken first, the head still enters FAULT, with a flushed count of 0. Before the deadline, or once
light is seen, it has no effect (R11, R22, R89, R96, R111, R112, R113, R149). What a darkened span keeps for that,
and that the command has no effect before, is the model's reading (notes/assumptions/26.md and 4.md). -/
def Obligations.LightDeadlineFaultsTheHead : Prop :=
  ∀ (c : Chan) (s : State) (x : Channel), s.held = false → x = s.chan c →
    ((∀ h m d, x.seq.darkened ≠ some ⟨h, m, .awaiting d⟩) →
      x.seq.light = .none ∨ x.seq.light = .seen ∨ (∃ e, x.seq.light = .awaiting e ∧ s.now < e) →
      exec (.lightDeadline c) s = .next s.settled) ∧
    (∀ (h : Fin 24) (m d : Nat), x.seq.darkened = some ⟨h, m, .awaiting d⟩ → x.seq.light = .none → x.seq.laser = .dark →
      x.queue = [] → s.heads[h].channel = c → s.heads[h].state = .ready ∨ s.heads[h].state = .parked →
      exec (.lightDeadline c) s =
        .next (State.settled (placeNotice (.headFault h c .lightAbsent s.heads[h].strikes 0)
          ((s.setChan c { x with seq := { x.seq with darkened := none } }).setHead h
            { s.heads[h] with state := .fault .lightAbsent })))) ∧
    ∀ e : Nat, x.seq.light = .awaiting e → e ≤ s.now →
      (∀ (b d : Burst) (rest : List Burst) (v : Verdict), x.seq.laser.lit = true → x.seq.active = .front →
        x.queue = b :: rest →
        ((b.state = .heating ∨ b.state = .ready) ∧ v = ⟨.vetoed, .lightAbsent⟩ ∧
            d = b.litFor x.seq.laser (s.now - x.seq.phaseStart) ∨
          b.state = .cooling v ∧ d = b.litFor x.seq.laser (s.now - x.seq.phaseStart) ∨
          b.state = .writing ∧ v = ⟨.aborted, .lightAbsent⟩ ∧
            d = { b.litFor x.seq.laser (s.now - x.seq.phaseStart) with
              gate := b.gate.map fun g => { g with stop := some s.now } }) →
        s.heads[b.head].state = .ready ∨ s.heads[b.head].state = .parked →
        ∃ t : State, exec (.lightDeadline c) s = .next t.settled ∧ t.heads[b.head].state = .fault .lightAbsent ∧
          (∀ r ∈ (t.chan s.heads[b.head].channel).queue, r.head = b.head → waitsToBeLit r.state = false) ∧
          (t.chan c).seq.laser = .dark ∧ (t.chan c).seq.selected = none ∧ (t.chan c).seq.committed = 0 ∧
          SameTables s t ∧ SameRequests s t ∧
          (∀ kept : List Burst, s.heads[b.head].channel = c →
            kept = rest.filter (fun r => !(r.head == b.head && waitsToBeLit r.state)) →
            (∀ r ∈ rest.head?, r.state = .queued ∧ r.acc = 0) → waitsInTurn x s.now kept →
            (t.chan c).queue = asFront kept ∧ (t.chan c).gate = kept.head?.bind (expectedGate x.tracker) ∧
              HeadCompleted d v s.heads[b.head] { t.heads[b.head] with state := s.heads[b.head].state } ∧
              SameHeadsBut b.head s t ∧ SameOther c s t ∧ SameLines x (t.chan c) ∧
              t.link = (placeNotice
                (.headFault b.head c .lightAbsent t.heads[b.head].strikes (rest.length - kept.length))
                (completionNoted x.config.reportOk d v s)).link ∧
              t.supply = supplyAfter s.supply (s.chan c.other).seq.committed)) ∧
      (∀ (b : Burst) (h : Fin 24) (rest kept q : List Burst) (g : Option GateTime) (flushed units : Nat),
        x.seq.laser = .tail → s.heads[h].channel = c → s.heads[h].state = .ready ∨ s.heads[h].state = .parked →
        b.head = h → kept = rest.filter (fun r => !(r.head == h && waitsToBeLit r.state)) →
        (∀ r ∈ rest.head?, r.state = .queued ∧ r.acc = 0) →
        (x.seq.active = .front ∧ x.queue = b :: rest ∧ (∃ r, b.state = .barred r) ∧
            flushed = rest.length - kept.length + 1 ∧ waitsInTurn x s.now kept ∧
            q = asFront kept ∧ g = kept.head?.bind (expectedGate x.tracker) ∨
          x.seq.active = .detached b ∧ x.queue = rest ∧ (∃ r ∈ rest.head?, r.head = h) ∧
            flushed = rest.length - kept.length ∧ waitsInTurn x s.now kept ∧
            q = asFront kept ∧ g = kept.head?.bind (expectedGate x.tracker) ∨
          x.seq.active = .detached b ∧ x.queue = rest ∧ (∀ r ∈ rest.head?, r.head ≠ h) ∧
            flushed = rest.length - kept.length ∧ q = kept ∧ g = x.gate) →
        units = heatOf (b.litFor .tail (s.now - x.seq.phaseStart)).acc →
        ∃ t : State, exec (.lightDeadline c) s = .next t.settled ∧ (t.chan c).queue = q ∧ (t.chan c).gate = g ∧
          (t.chan c).seq.laser = .dark ∧ (t.chan c).seq.selected = none ∧ (t.chan c).seq.committed = 0 ∧
          t.heads = s.heads.set h { s.heads[h].heated units with state := .fault .lightAbsent } ∧
          t.link = (placeNotice (.headFault h c .lightAbsent s.heads[h].strikes flushed) (charge h units s)).link ∧
          t.supply = supplyAfter s.supply (s.chan c.other).seq.committed ∧ SameOther c s t ∧ SameLines x (t.chan c) ∧
          SameTables s t)

/-! ## The Heat Monitor and the arithmetic -/

/-- LEAK_INSTANT: at each leak instant, a positive whole multiple of 1,024 ticks, every head's bucket falls by its leak, or to 0,
whatever the head's state, and nothing else changes; the instant is due once the timebase has reached it, and is taken once
(R147). That the command has no effect before is the model's reading (notes/assumptions/4.md). -/
def Obligations.LeakInstantLowersEveryBucket : Prop :=
  ∀ s : State, s.held = false →
    (s.now < (s.leaksTaken + 1) * 1024 → exec .leakInstant s = .next s.settled ∧ .leakInstant ∉ dueEvents s) ∧
    ((s.leaksTaken + 1) * 1024 ≤ s.now → .leakInstant ∈ dueEvents s ∧
      ∃ v : Vector Head 24, (∀ h : Fin 24, v[h] = { s.heads[h] with bucket := s.heads[h].bucket - s.heads[h].leak }) ∧
        exec .leakInstant s = .next (State.settled { s with heads := v, leaksTaken := s.leaksTaken + 1 }))

/-- Placing a notice: on a queue of fewer than 32 it stands last, with the overflow flag as its indication, and the flag is
cleared; on a full queue it is discarded and the flag is set (R174, R175). The wear test of a head sets its wear-noticed flag and
places a WEAR notice when it passes, and changes nothing otherwise (R150). A charge of units to a head adds them to its bucket
and its lifetime heat, which saturate, and makes the wear test; a charge of 0 changes nothing (R149). A notice is sent with its
indication in bit 7 of its flags byte (R186). -/
def Obligations.PlacingAndCharging : Prop :=
  (∀ (n : Notice) (s : State),
    (s.link.notices.length < 32 →
      placeNotice n s =
        { s with link := { s.link with notices := s.link.notices ++ [⟨s.link.overflow, n⟩], overflow := false } }) ∧
    (32 ≤ s.link.notices.length → placeNotice n s = { s with link := { s.link with overflow := true } })) ∧
  (∀ (h : Fin 24) (s : State) (r : Head), r = s.heads[h] →
    (r.wearThreshold ≠ 0 → r.wearNoticed = false → r.wearThreshold ≤ r.lifetime →
      wearTest h s =
        placeNotice (.wear h r.channel r.lifetime r.wearThreshold) (s.setHead h { r with wearNoticed := true })) ∧
    (r.wearThreshold = 0 ∨ r.wearNoticed = true ∨ r.lifetime < r.wearThreshold → wearTest h s = s) ∧
    (∀ units : Nat, units ≠ 0 →
      (r.wearThreshold ≠ 0 → r.wearNoticed = false → r.wearThreshold ≤ min (r.lifetime + units) 4294967295 →
        charge h units s =
          placeNotice (.wear h r.channel (min (r.lifetime + units) 4294967295) r.wearThreshold)
            (s.setHead h (r.heated units))) ∧
      (r.wearThreshold = 0 ∨ r.wearNoticed = true ∨ min (r.lifetime + units) 4294967295 < r.wearThreshold →
        charge h units s = s.setHead h (r.heated units))) ∧
    charge h 0 s = s) ∧
  (∀ q : QueuedNotice, q.payload = (q.notice.flagBits ||| if q.overflow then 0x80 else 0x00) :: q.notice.fields)

/-- The heating arithmetic: the ten quantities of a plan (R29 to R36) with their law (R38), the derate factor and the derated
currents (R40), the STARVED test (R41), the heat estimate (R43), and the current that each laser state applies (R67), which a lit
phase adds to the burst's accumulation for each of its ticks, up to 2^40 - 1: Ip' in PREHEAT, HOLD and TAIL, Ib' in BOOST, Is' in
SUSTAIN, and nothing in BIAS and DARK (R44). -/
def Obligations.HeatingArithmetic : Prop :=
  (∀ (h : Head) (p : Profile) (t dP dL : Int) (select trim : Option (Fin 64)) (policy : Policy) (q : Plan)
    (ith iop l : Int),
    HeadRange h → q = computePlan h p t dP dL select trim policy →
    ith = max 0 (min 1023 ((h.ith25 : Int) + Int.tdiv (h.ktemp * (t - 25)) 16)) →
    iop = max 0 (min 255 ((p.p : Int) + dP)) * (h.gain : Int) / 64 →
    l = max 16 (min 8191 ((p.lb : Int) + (h.lightEst : Int) + Int.tdiv (h.lt * (t - 25)) 8 + dL)) →
    (q.ith : Int) = ith ∧ (q.sustain : Int) = min (ith + iop) (h.imax : Int) ∧
      (q.capped = true ↔ (h.imax : Int) < ith + iop) ∧ q.boost = min (q.sustain + p.db) h.imax ∧
      q.preheat = q.sustain * p.fp / 16 ∧
      (q.bias : Int) = (if ith = 0 then 0 else min (h.ibias : Int) (min (ith - 1) (h.imax : Int))) ∧
      q.boostLen = p.kb ∧ q.tailLen = p.tt ∧ (q.lead : Int) = l ∧
      (q.coldLead : Int) = min (l + (h.coldExtra : Int)) 8191 ∧ 16 ≤ q.lead ∧ q.lead ≤ q.coldLead ∧ q.coldLead ≤ 8191 ∧
      (q.ith < q.sustain → p.fp ≤ 16 →
        q.sustain ≤ q.boost ∧ q.boost ≤ h.imax ∧ h.imax ≤ 1023 ∧ q.preheat ≤ q.sustain ∧ 1 ≤ q.boost ∧
          q.bias ≤ h.imax ∧ (q.bias < q.ith ∨ q.bias = 0 ∧ q.ith = 0))) ∧
  (∀ (p : Plan) (headroom : Int) (f : Nat), f = (if 0 < headroom then headroom.toNat * 256 / p.boost else 0) →
    ((p.boost : Int) ≤ headroom → supplyCheck p headroom = .clear) ∧
    (headroom < (p.boost : Int) →
      f ≤ 255 ∧ ((0 : Int) ≤ headroom → ((p.boost * f / 256 : Nat) : Int) ≤ headroom) ∧
        supplyCheck p headroom = if p.sustain * f / 256 ≤ p.ith then .starved f else .derated f)) ∧
  (∀ (b : Burst) (lead k : Nat), k = min b.plan.boostLen b.length →
    heatEstimate b lead =
      (b.currents.preheat * lead + b.currents.boost * k + b.currents.sustain * (b.length - k) +
        b.currents.preheat * b.plan.tailLen) / 4096) ∧
  (∀ (b : Burst) (f : Nat), (b.derate = none → b.currents = ⟨b.plan.boost, b.plan.sustain, b.plan.preheat⟩) ∧
    (b.derate = some f →
      b.currents = ⟨b.plan.boost * f / 256, b.plan.sustain * f / 256, b.plan.preheat * f / 256⟩)) ∧
  (∀ (b : Burst) (l : LaserState) (current ticks : Nat),
    ((l = .preheat ∨ l = .hold ∨ l = .tail) ∧ current = b.currents.preheat ∨ l = .boost ∧ current = b.currents.boost ∨
        l = .sustain ∧ current = b.currents.sustain ∨ (l = .bias ∨ l = .dark) ∧ current = 0) →
      litCurrent l b = current ∧
        b.litFor l ticks = { b with acc := min (b.acc + current * ticks) (2 ^ 40 - 1) })
end

