-- ==== Sys2Proof/Laws/State.lean ====
section
/-! SUPPORT. What each update of the state leaves in each of its fields: one simp lemma per field and update, true by
computation, so that no proof unfolds an update. -/

namespace Sys2Proof.Machine

/-! ## Channels -/

@[simp] theorem State.chan_c0 (s : State) : s.chan .c0 = s.ch0 := rfl
@[simp] theorem State.chan_c1 (s : State) : s.chan .c1 = s.ch1 := rfl
@[simp] theorem Chan.other_other (c : Chan) : c.other.other = c := by cases c <;> rfl
theorem Chan.other_ne (c : Chan) : c.other ≠ c := by cases c <;> decide
theorem Chan.eq_or_other (c d : Chan) : d = c ∨ d = c.other := by cases c <;> cases d <;> simp [Chan.other]

@[simp] theorem State.setChan_chan (s : State) (c : Chan) (x : Channel) : (s.setChan c x).chan c = x := by
  cases c <;> rfl
@[simp] theorem State.setChan_other (s : State) (c : Chan) (x : Channel) :
    (s.setChan c x).chan c.other = s.chan c.other := by
  cases c <;> rfl
@[simp] theorem State.modChan_chan (s : State) (c : Chan) (f : Channel → Channel) :
    (s.modChan c f).chan c = f (s.chan c) := by
  cases c <;> rfl
@[simp] theorem State.modChan_other (s : State) (c : Chan) (f : Channel → Channel) :
    (s.modChan c f).chan c.other = s.chan c.other := by
  cases c <;> rfl
@[simp] theorem State.modSeq_chan (s : State) (c : Chan) (f : Sequencer → Sequencer) :
    (s.modSeq c f).chan c = { s.chan c with seq := f (s.chan c).seq } := by
  cases c <;> rfl
@[simp] theorem State.modSeq_other (s : State) (c : Chan) (f : Sequencer → Sequencer) :
    (s.modSeq c f).chan c.other = s.chan c.other := by
  cases c <;> rfl

/-! ## `setChan` -/

@[simp] theorem State.setChan_pending (s : State) (c : Chan) (x : Channel) : (s.setChan c x).pending = s.pending := by cases c <;> rfl
@[simp] theorem State.setChan_now (s : State) (c : Chan) (x : Channel) : (s.setChan c x).now = s.now := by cases c <;> rfl
@[simp] theorem State.setChan_held (s : State) (c : Chan) (x : Channel) : (s.setChan c x).held = s.held := by cases c <;> rfl
@[simp] theorem State.setChan_rstn (s : State) (c : Chan) (x : Channel) : (s.setChan c x).rstn = s.rstn := by cases c <;> rfl
@[simp] theorem State.setChan_lineEpoch (s : State) (c : Chan) (x : Channel) : (s.setChan c x).lineEpoch = s.lineEpoch := by cases c <;> rfl
@[simp] theorem State.setChan_supflt (s : State) (c : Chan) (x : Channel) : (s.setChan c x).supflt = s.supflt := by cases c <;> rfl
@[simp] theorem State.setChan_heads (s : State) (c : Chan) (x : Channel) : (s.setChan c x).heads = s.heads := by cases c <;> rfl
@[simp] theorem State.setChan_profiles (s : State) (c : Chan) (x : Channel) : (s.setChan c x).profiles = s.profiles := by cases c <;> rfl
@[simp] theorem State.setChan_checkers (s : State) (c : Chan) (x : Channel) : (s.setChan c x).checkers = s.checkers := by cases c <;> rfl
@[simp] theorem State.setChan_rules (s : State) (c : Chan) (x : Channel) : (s.setChan c x).rules = s.rules := by cases c <;> rfl
@[simp] theorem State.setChan_counters (s : State) (c : Chan) (x : Channel) : (s.setChan c x).counters = s.counters := by cases c <;> rfl
@[simp] theorem State.setChan_supply (s : State) (c : Chan) (x : Channel) : (s.setChan c x).supply = s.supply := by cases c <;> rfl
@[simp] theorem State.setChan_safety (s : State) (c : Chan) (x : Channel) : (s.setChan c x).safety = s.safety := by cases c <;> rfl
@[simp] theorem State.setChan_safe (s : State) (c : Chan) (x : Channel) : (s.setChan c x).safe = s.safe := by cases c <;> rfl
@[simp] theorem State.setChan_link (s : State) (c : Chan) (x : Channel) : (s.setChan c x).link = s.link := by cases c <;> rfl
@[simp] theorem State.setChan_leaksTaken (s : State) (c : Chan) (x : Channel) : (s.setChan c x).leaksTaken = s.leaksTaken := by cases c <;> rfl
@[simp] theorem State.setChan_choices (s : State) (c : Chan) (x : Channel) : (s.setChan c x).choices = s.choices := by cases c <;> rfl

/-! ## `modChan` -/

@[simp] theorem State.modChan_pending (s : State) (c : Chan) (f : Channel → Channel) : (s.modChan c f).pending = s.pending := by cases c <;> rfl
@[simp] theorem State.modChan_now (s : State) (c : Chan) (f : Channel → Channel) : (s.modChan c f).now = s.now := by cases c <;> rfl
@[simp] theorem State.modChan_held (s : State) (c : Chan) (f : Channel → Channel) : (s.modChan c f).held = s.held := by cases c <;> rfl
@[simp] theorem State.modChan_rstn (s : State) (c : Chan) (f : Channel → Channel) : (s.modChan c f).rstn = s.rstn := by cases c <;> rfl
@[simp] theorem State.modChan_lineEpoch (s : State) (c : Chan) (f : Channel → Channel) : (s.modChan c f).lineEpoch = s.lineEpoch := by cases c <;> rfl
@[simp] theorem State.modChan_supflt (s : State) (c : Chan) (f : Channel → Channel) : (s.modChan c f).supflt = s.supflt := by cases c <;> rfl
@[simp] theorem State.modChan_heads (s : State) (c : Chan) (f : Channel → Channel) : (s.modChan c f).heads = s.heads := by cases c <;> rfl
@[simp] theorem State.modChan_profiles (s : State) (c : Chan) (f : Channel → Channel) : (s.modChan c f).profiles = s.profiles := by cases c <;> rfl
@[simp] theorem State.modChan_checkers (s : State) (c : Chan) (f : Channel → Channel) : (s.modChan c f).checkers = s.checkers := by cases c <;> rfl
@[simp] theorem State.modChan_rules (s : State) (c : Chan) (f : Channel → Channel) : (s.modChan c f).rules = s.rules := by cases c <;> rfl
@[simp] theorem State.modChan_counters (s : State) (c : Chan) (f : Channel → Channel) : (s.modChan c f).counters = s.counters := by cases c <;> rfl
@[simp] theorem State.modChan_supply (s : State) (c : Chan) (f : Channel → Channel) : (s.modChan c f).supply = s.supply := by cases c <;> rfl
@[simp] theorem State.modChan_safety (s : State) (c : Chan) (f : Channel → Channel) : (s.modChan c f).safety = s.safety := by cases c <;> rfl
@[simp] theorem State.modChan_safe (s : State) (c : Chan) (f : Channel → Channel) : (s.modChan c f).safe = s.safe := by cases c <;> rfl
@[simp] theorem State.modChan_link (s : State) (c : Chan) (f : Channel → Channel) : (s.modChan c f).link = s.link := by cases c <;> rfl
@[simp] theorem State.modChan_leaksTaken (s : State) (c : Chan) (f : Channel → Channel) : (s.modChan c f).leaksTaken = s.leaksTaken := by cases c <;> rfl
@[simp] theorem State.modChan_choices (s : State) (c : Chan) (f : Channel → Channel) : (s.modChan c f).choices = s.choices := by cases c <;> rfl

/-! ## `modSeq` -/

@[simp] theorem State.modSeq_pending (s : State) (c : Chan) (f : Sequencer → Sequencer) : (s.modSeq c f).pending = s.pending := by cases c <;> rfl
@[simp] theorem State.modSeq_now (s : State) (c : Chan) (f : Sequencer → Sequencer) : (s.modSeq c f).now = s.now := by cases c <;> rfl
@[simp] theorem State.modSeq_held (s : State) (c : Chan) (f : Sequencer → Sequencer) : (s.modSeq c f).held = s.held := by cases c <;> rfl
@[simp] theorem State.modSeq_rstn (s : State) (c : Chan) (f : Sequencer → Sequencer) : (s.modSeq c f).rstn = s.rstn := by cases c <;> rfl
@[simp] theorem State.modSeq_lineEpoch (s : State) (c : Chan) (f : Sequencer → Sequencer) : (s.modSeq c f).lineEpoch = s.lineEpoch := by cases c <;> rfl
@[simp] theorem State.modSeq_supflt (s : State) (c : Chan) (f : Sequencer → Sequencer) : (s.modSeq c f).supflt = s.supflt := by cases c <;> rfl
@[simp] theorem State.modSeq_heads (s : State) (c : Chan) (f : Sequencer → Sequencer) : (s.modSeq c f).heads = s.heads := by cases c <;> rfl
@[simp] theorem State.modSeq_profiles (s : State) (c : Chan) (f : Sequencer → Sequencer) : (s.modSeq c f).profiles = s.profiles := by cases c <;> rfl
@[simp] theorem State.modSeq_checkers (s : State) (c : Chan) (f : Sequencer → Sequencer) : (s.modSeq c f).checkers = s.checkers := by cases c <;> rfl
@[simp] theorem State.modSeq_rules (s : State) (c : Chan) (f : Sequencer → Sequencer) : (s.modSeq c f).rules = s.rules := by cases c <;> rfl
@[simp] theorem State.modSeq_counters (s : State) (c : Chan) (f : Sequencer → Sequencer) : (s.modSeq c f).counters = s.counters := by cases c <;> rfl
@[simp] theorem State.modSeq_supply (s : State) (c : Chan) (f : Sequencer → Sequencer) : (s.modSeq c f).supply = s.supply := by cases c <;> rfl
@[simp] theorem State.modSeq_safety (s : State) (c : Chan) (f : Sequencer → Sequencer) : (s.modSeq c f).safety = s.safety := by cases c <;> rfl
@[simp] theorem State.modSeq_safe (s : State) (c : Chan) (f : Sequencer → Sequencer) : (s.modSeq c f).safe = s.safe := by cases c <;> rfl
@[simp] theorem State.modSeq_link (s : State) (c : Chan) (f : Sequencer → Sequencer) : (s.modSeq c f).link = s.link := by cases c <;> rfl
@[simp] theorem State.modSeq_leaksTaken (s : State) (c : Chan) (f : Sequencer → Sequencer) : (s.modSeq c f).leaksTaken = s.leaksTaken := by cases c <;> rfl
@[simp] theorem State.modSeq_choices (s : State) (c : Chan) (f : Sequencer → Sequencer) : (s.modSeq c f).choices = s.choices := by cases c <;> rfl

/-! ## `setHead` -/

@[simp] theorem State.setHead_chan (s : State) (h : Fin 24) (r : Head) (c : Chan) : (s.setHead h r).chan c = s.chan c := by
  cases c <;> rfl
@[simp] theorem State.setHead_heads (s : State) (h : Fin 24) (r : Head) : (s.setHead h r).heads = s.heads.set h r := rfl
@[simp] theorem State.setHead_pending (s : State) (h : Fin 24) (r : Head) : (s.setHead h r).pending = s.pending := rfl
@[simp] theorem State.setHead_now (s : State) (h : Fin 24) (r : Head) : (s.setHead h r).now = s.now := rfl
@[simp] theorem State.setHead_held (s : State) (h : Fin 24) (r : Head) : (s.setHead h r).held = s.held := rfl
@[simp] theorem State.setHead_rstn (s : State) (h : Fin 24) (r : Head) : (s.setHead h r).rstn = s.rstn := rfl
@[simp] theorem State.setHead_lineEpoch (s : State) (h : Fin 24) (r : Head) : (s.setHead h r).lineEpoch = s.lineEpoch := rfl
@[simp] theorem State.setHead_supflt (s : State) (h : Fin 24) (r : Head) : (s.setHead h r).supflt = s.supflt := rfl
@[simp] theorem State.setHead_ch0 (s : State) (h : Fin 24) (r : Head) : (s.setHead h r).ch0 = s.ch0 := rfl
@[simp] theorem State.setHead_ch1 (s : State) (h : Fin 24) (r : Head) : (s.setHead h r).ch1 = s.ch1 := rfl
@[simp] theorem State.setHead_profiles (s : State) (h : Fin 24) (r : Head) : (s.setHead h r).profiles = s.profiles := rfl
@[simp] theorem State.setHead_checkers (s : State) (h : Fin 24) (r : Head) : (s.setHead h r).checkers = s.checkers := rfl
@[simp] theorem State.setHead_rules (s : State) (h : Fin 24) (r : Head) : (s.setHead h r).rules = s.rules := rfl
@[simp] theorem State.setHead_counters (s : State) (h : Fin 24) (r : Head) : (s.setHead h r).counters = s.counters := rfl
@[simp] theorem State.setHead_supply (s : State) (h : Fin 24) (r : Head) : (s.setHead h r).supply = s.supply := rfl
@[simp] theorem State.setHead_safety (s : State) (h : Fin 24) (r : Head) : (s.setHead h r).safety = s.safety := rfl
@[simp] theorem State.setHead_safe (s : State) (h : Fin 24) (r : Head) : (s.setHead h r).safe = s.safe := rfl
@[simp] theorem State.setHead_link (s : State) (h : Fin 24) (r : Head) : (s.setHead h r).link = s.link := rfl
@[simp] theorem State.setHead_leaksTaken (s : State) (h : Fin 24) (r : Head) : (s.setHead h r).leaksTaken = s.leaksTaken := rfl
@[simp] theorem State.setHead_choices (s : State) (h : Fin 24) (r : Head) : (s.setHead h r).choices = s.choices := rfl

/-! ## `modLink` -/

@[simp] theorem State.modLink_chan (s : State) (f : Link → Link) (c : Chan) : (s.modLink f).chan c = s.chan c := by
  cases c <;> rfl
@[simp] theorem State.modLink_link (s : State) (f : Link → Link) : (s.modLink f).link = f s.link := rfl
@[simp] theorem State.modLink_pending (s : State) (f : Link → Link) : (s.modLink f).pending = s.pending := rfl
@[simp] theorem State.modLink_now (s : State) (f : Link → Link) : (s.modLink f).now = s.now := rfl
@[simp] theorem State.modLink_held (s : State) (f : Link → Link) : (s.modLink f).held = s.held := rfl
@[simp] theorem State.modLink_rstn (s : State) (f : Link → Link) : (s.modLink f).rstn = s.rstn := rfl
@[simp] theorem State.modLink_lineEpoch (s : State) (f : Link → Link) : (s.modLink f).lineEpoch = s.lineEpoch := rfl
@[simp] theorem State.modLink_supflt (s : State) (f : Link → Link) : (s.modLink f).supflt = s.supflt := rfl
@[simp] theorem State.modLink_ch0 (s : State) (f : Link → Link) : (s.modLink f).ch0 = s.ch0 := rfl
@[simp] theorem State.modLink_ch1 (s : State) (f : Link → Link) : (s.modLink f).ch1 = s.ch1 := rfl
@[simp] theorem State.modLink_heads (s : State) (f : Link → Link) : (s.modLink f).heads = s.heads := rfl
@[simp] theorem State.modLink_profiles (s : State) (f : Link → Link) : (s.modLink f).profiles = s.profiles := rfl
@[simp] theorem State.modLink_checkers (s : State) (f : Link → Link) : (s.modLink f).checkers = s.checkers := rfl
@[simp] theorem State.modLink_rules (s : State) (f : Link → Link) : (s.modLink f).rules = s.rules := rfl
@[simp] theorem State.modLink_counters (s : State) (f : Link → Link) : (s.modLink f).counters = s.counters := rfl
@[simp] theorem State.modLink_supply (s : State) (f : Link → Link) : (s.modLink f).supply = s.supply := rfl
@[simp] theorem State.modLink_safety (s : State) (f : Link → Link) : (s.modLink f).safety = s.safety := rfl
@[simp] theorem State.modLink_safe (s : State) (f : Link → Link) : (s.modLink f).safe = s.safe := rfl
@[simp] theorem State.modLink_leaksTaken (s : State) (f : Link → Link) : (s.modLink f).leaksTaken = s.leaksTaken := rfl
@[simp] theorem State.modLink_choices (s : State) (f : Link → Link) : (s.modLink f).choices = s.choices := rfl

/-! ## `driveOutputs` -/

@[simp] theorem driveOutputs_pending (s : State) : (driveOutputs s).pending = s.pending := rfl
@[simp] theorem driveOutputs_now (s : State) : (driveOutputs s).now = s.now := rfl
@[simp] theorem driveOutputs_held (s : State) : (driveOutputs s).held = s.held := rfl
@[simp] theorem driveOutputs_rstn (s : State) : (driveOutputs s).rstn = s.rstn := rfl
@[simp] theorem driveOutputs_lineEpoch (s : State) : (driveOutputs s).lineEpoch = s.lineEpoch := rfl
@[simp] theorem driveOutputs_supflt (s : State) : (driveOutputs s).supflt = s.supflt := rfl
@[simp] theorem driveOutputs_heads (s : State) : (driveOutputs s).heads = s.heads := rfl
@[simp] theorem driveOutputs_profiles (s : State) : (driveOutputs s).profiles = s.profiles := rfl
@[simp] theorem driveOutputs_checkers (s : State) : (driveOutputs s).checkers = s.checkers := rfl
@[simp] theorem driveOutputs_rules (s : State) : (driveOutputs s).rules = s.rules := rfl
@[simp] theorem driveOutputs_counters (s : State) : (driveOutputs s).counters = s.counters := rfl
@[simp] theorem driveOutputs_supply (s : State) : (driveOutputs s).supply = s.supply := rfl
@[simp] theorem driveOutputs_safety (s : State) : (driveOutputs s).safety = s.safety := rfl
@[simp] theorem driveOutputs_safe (s : State) : (driveOutputs s).safe = s.safe := rfl
@[simp] theorem driveOutputs_link (s : State) : (driveOutputs s).link = s.link := rfl
@[simp] theorem driveOutputs_leaksTaken (s : State) : (driveOutputs s).leaksTaken = s.leaksTaken := rfl
@[simp] theorem driveOutputs_choices (s : State) : (driveOutputs s).choices = s.choices := rfl
@[simp] theorem driveOutputs_chan (s : State) (c : Chan) :
    (driveOutputs s).chan c = (s.chan c).driven s.safe.isSome := by
  cases c <;> rfl

/-! ## Characters -/

/-- The low eight bits of a byte with one level above it are the byte. -/
theorem setWidth_append_byte (x : BitVec 1) (b : Byte) : (x ++ b).setWidth 8 = b :=
  BitVec.eq_of_getLsbD_eq fun i hi => by
    rw [BitVec.getLsbD_setWidth, BitVec.getLsbD_append]; simp [hi]

@[simp] theorem charData_good (t : Int) (b : Byte) : charData (goodChar t b) = b := setWidth_append_byte 1#1 b
@[simp] theorem charData_bad (t : Int) (b : Byte) : charData (badChar t b) = b := setWidth_append_byte 0#1 b
@[simp] theorem charStop_good (t : Int) (b : Byte) : charStop (goodChar t b) = true := by
  unfold charStop goodChar
  rw [BitVec.getLsbD_append]; rfl
@[simp] theorem charStop_bad (t : Int) (b : Byte) : charStop (badChar t b) = false := by
  unfold charStop badChar
  rw [BitVec.getLsbD_append]; rfl
@[simp] theorem goodChar_start (t : Int) (b : Byte) : (goodChar t b).start = t := rfl
@[simp] theorem badChar_start (t : Int) (b : Byte) : (badChar t b).start = t := rfl

/-! ## Heads -/

/-- Reading the head just written. -/
theorem heads_set_same (v : Vector Head 24) (h : Fin 24) (r : Head) : (v.set h r)[h] = r := by simp

/-- Reading another head than the one written. -/
theorem heads_set_ne (v : Vector Head 24) (h k : Fin 24) (r : Head) (e : k ≠ h) : (v.set h r)[k] = v[k] := by
  have : h.val ≠ k.val := fun q => e (Fin.ext q.symm)
  simp [this]

/-- `mapAll` at a place. -/
theorem mapAll_get {α β : Type} {n : Nat} (f : α → β) (v : Vector α n) (i : Fin n) : (mapAll f v)[i] = f v[i] := by
  simp [mapAll]

end Sys2Proof.Machine
end

