-- ==== Sys2Proof/Laws/Frames.lean ====
section
/-! SUPPORT. What the shared operations of the Laser Sequencers and the Wedge Trackers leave alone. `Calm s t` says once what
all of them share: everything outside the channels, the heads, the supply and the Notice Queue is as it was, the Notice
Queue keeps its bound, and no line, configuration or temperature moves. A proof cites the lemma of an operation and never
unfolds it. -/

namespace Sys2Proof.Machine

/-- The parts of a channel that no Sequencer or tracker operation touches. -/
structure CalmChannel (x y : Channel) : Prop where
  config : y.config = x.config
  temp : y.temp = x.temp
  syncLine : y.syncLine = x.syncLine
  indexPin : y.indexPin = x.indexPin
  guardLine : y.guardLine = x.guardLine
  lightLine : y.lightLine = x.lightLine
  wgate : y.wgate = x.wgate

/-- What every operation of a Sequencer or a tracker leaves alone. -/
structure Calm (s t : State) : Prop where
  tables : SameTables s t
  requests : SameRequests s t
  tx : t.link.tx = s.link.tx
  notices : s.link.notices.length ≤ 32 → t.link.notices.length ≤ 32
  lines : ∀ c, CalmChannel (s.chan c) (t.chan c)

theorem SameRest.refl (s : State) : SameRest s s := by constructor <;> rfl

theorem SameRest.trans {s t u : State} (a : SameRest s t) (b : SameRest t u) : SameRest s u := by
  cases a; cases b; constructor <;> simp_all only

theorem SameTables.refl (s : State) : SameTables s s := ⟨SameRest.refl s, rfl, rfl⟩

theorem SameTables.trans {s t u : State} (a : SameTables s t) (b : SameTables t u) : SameTables s u :=
  ⟨a.toSameRest.trans b.toSameRest, b.safety.trans a.safety, b.safe.trans a.safe⟩

theorem SameRequests.refl (s : State) : SameRequests s s := ⟨rfl, rfl, rfl, rfl, rfl⟩

theorem SameRequests.trans {s t u : State} (a : SameRequests s t) (b : SameRequests t u) : SameRequests s u :=
  ⟨b.1.trans a.1, b.2.trans a.2, b.3.trans a.3, b.4.trans a.4, b.5.trans a.5⟩

theorem CalmChannel.refl (x : Channel) : CalmChannel x x := by constructor <;> rfl

theorem CalmChannel.trans {x y z : Channel} (a : CalmChannel x y) (b : CalmChannel y z) : CalmChannel x z := by
  cases a; cases b; constructor <;> simp_all only

theorem Calm.refl (s : State) : Calm s s :=
  ⟨SameTables.refl s, SameRequests.refl s, rfl, id, fun _ => CalmChannel.refl _⟩

theorem Calm.trans {s t u : State} (a : Calm s t) (b : Calm t u) : Calm s u :=
  ⟨a.1.trans b.1, a.2.trans b.2, b.3.trans a.3, fun h => b.4 (a.4 h), fun c => (a.5 c).trans (b.5 c)⟩

/-! ## The updates -/

theorem Calm.modChan (s : State) (c : Chan) (f : Channel → Channel) (h : CalmChannel (s.chan c) (f (s.chan c))) :
    Calm s (s.modChan c f) where
  tables := by cases c <;> exact ⟨by constructor <;> rfl, rfl, rfl⟩
  requests := by constructor <;> rw [State.modChan_link]
  tx := by simp
  notices := by simp
  lines d := by
    rcases Chan.eq_or_other c d with rfl | rfl
    · simpa using h
    · simpa using CalmChannel.refl _

theorem Calm.modSeq (s : State) (c : Chan) (f : Sequencer → Sequencer) : Calm s (s.modSeq c f) :=
  Calm.modChan s c _ (by constructor <;> rfl)

theorem Calm.setHead (s : State) (h : Fin 24) (r : Head) : Calm s (s.setHead h r) where
  tables := ⟨by constructor <;> rfl, rfl, rfl⟩
  requests := by constructor <;> rfl
  tx := rfl
  notices := id
  lines _ := by simpa using CalmChannel.refl _

theorem Calm.supply (s : State) (u : Supply) : Calm s { s with supply := u } where
  tables := ⟨by constructor <;> rfl, rfl, rfl⟩
  requests := by constructor <;> rfl
  tx := rfl
  notices := id
  lines c := by cases c <;> exact CalmChannel.refl _

theorem Calm.placeNotice (n : Notice) (s : State) : Calm s (placeNotice n s) where
  tables := ⟨by constructor <;> rfl, rfl, rfl⟩
  requests := by
    constructor <;> (simp only [Machine.placeNotice, State.modLink_link]; split <;> rfl)
  tx := by simp only [Machine.placeNotice, State.modLink_link]; split <;> rfl
  notices h := by
    simp only [Machine.placeNotice, State.modLink_link, Config.noticeCapacity]
    by_cases g : 32 ≤ s.link.notices.length
    · simpa [g] using h
    · simp [g]; omega
  lines _ := by simpa [Machine.placeNotice] using CalmChannel.refl _

/-! ## The named operations -/

theorem Calm.wearTest (h : Fin 24) (s : State) : Calm s (wearTest h s) := by
  unfold Machine.wearTest; dsimp only
  split
  · exact (Calm.setHead ..).trans (Calm.placeNotice ..)
  · exact Calm.refl s

theorem Calm.charge (h : Fin 24) (u : Nat) (s : State) : Calm s (charge h u s) := by
  unfold Machine.charge
  split
  · exact Calm.refl s
  · exact (Calm.setHead ..).trans (Calm.wearTest ..)

theorem Calm.adoptPending (s : State) : Calm s (adoptPending s) := by
  unfold Machine.adoptPending
  split
  · exact Calm.refl s
  · split
    · exact Calm.supply ..
    · exact Calm.refl s

theorem Calm.setCommit (c : Chan) (v : Nat) (s : State) : Calm s (setCommit c v s) :=
  (Calm.modSeq ..).trans (Calm.adoptPending _)

theorem Calm.modFront (c : Chan) (f : Burst → Burst) (s : State) : Calm s (modFront c f s) :=
  Calm.modChan s c _ (by constructor <;> rfl)

theorem Calm.modActive (c : Chan) (f : Burst → Burst) (s : State) : Calm s (modActive c f s) := by
  unfold Machine.modActive
  split
  · exact Calm.refl s
  · exact Calm.modFront ..
  · exact Calm.modSeq ..

theorem Calm.refreshFront (c : Chan) (s : State) : Calm s (refreshFront c s) := by
  unfold Machine.refreshFront
  apply Calm.modChan
  split <;> exact (by constructor <;> rfl)

theorem Calm.removeWhere (c : Chan) (out : Burst → Bool) (s : State) : Calm s (removeWhere c out s) := by
  unfold Machine.removeWhere; dsimp only
  have h := Calm.modChan s c (fun x => { x with queue := (s.chan c).queue.filter fun b => !out b })
    (by constructor <;> rfl)
  split
  · exact h.trans (Calm.refreshFront ..)
  · exact h

theorem Calm.endPhase (c : Chan) (s : State) : Calm s (endPhase c s) := by
  unfold Machine.endPhase; dsimp only
  split
  · exact (Calm.modActive ..).trans (Calm.modSeq ..)
  · exact Calm.modSeq ..

theorem Calm.chargeBurst (b : Burst) (s : State) : Calm s (chargeBurst b s) := Calm.charge ..

theorem Calm.goDark (c : Chan) (s : State) : Calm s (goDark c s) := (Calm.modSeq ..).trans (Calm.setCommit ..)

theorem Calm.enterTail (c : Chan) (s : State) : Calm s (enterTail c s) := by
  unfold Machine.enterTail; dsimp only
  split
  · exact Calm.endPhase ..
  · exact (Calm.endPhase ..).trans (Calm.modSeq ..)

theorem Calm.detachFront (c : Chan) (s : State) : Calm s (detachFront c s) := by
  unfold Machine.detachFront
  split
  · exact Calm.refl s
  · exact Calm.modSeq ..

theorem Calm.completeFront (c : Chan) (v : Verdict) (s : State) : Calm s (completeFront c v s) := by
  unfold Machine.completeFront; dsimp only
  split
  · exact Calm.refl s
  · rename_i b _
    have h := (Calm.modChan s c (fun x => { x with queue := x.queue.tail }) (by constructor <;> rfl)).trans
      ((Calm.refreshFront c _).trans (Calm.chargeBurst b _))
    split
    · exact h.trans ((Calm.setHead ..).trans (Calm.placeNotice ..))
    · exact h.trans (Calm.setHead ..)

theorem Calm.completeBarred (c : Chan) (s : State) : Calm s (completeBarred c s) := by
  unfold Machine.completeBarred
  split
  · exact Calm.refl s
  · split
    · split
      · exact Calm.completeFront ..
      · exact Calm.refl s
    all_goals exact Calm.refl s

theorem Calm.barAtArming (c : Chan) (b : Burst) (r : Reason) (s : State) : Calm s (barAtArming c b r s) :=
  (Calm.modFront ..).trans (Calm.modSeq ..)

theorem Calm.startBurst (c : Chan) (b : Burst) (l : LeadUsed) (s : State) : Calm s (startBurst c b l s) :=
  (Calm.modFront ..).trans ((Calm.modSeq ..).trans (Calm.setCommit ..))

theorem Calm.arm (c : Chan) (s : State) : Calm s (arm c s) := by
  unfold Machine.arm; dsimp only
  split
  · exact Calm.refl s
  · split
    · exact Calm.barAtArming ..
    · split
      · exact Calm.barAtArming ..
      all_goals
        split
        · exact Calm.startBurst ..
        · exact Calm.barAtArming ..

theorem Calm.settleRest (c : Chan) (b : Burst) (s : State) : Calm s (settleRest c b s) := by
  unfold Machine.settleRest
  split
  · exact (Calm.modSeq ..).trans (Calm.setCommit ..)
  · exact Calm.goDark ..

theorem Calm.endTailBurst (c : Chan) (s : State) : Calm s (endTailBurst c s) := by
  unfold Machine.endTailBurst; dsimp only
  have h := Calm.modSeq s c (fun q => { q with active := .idle })
  split
  · exact h
  · exact h.trans (Calm.chargeBurst ..)
  · split
    · exact h
    · split
      · exact h.trans (Calm.completeFront ..)
      · exact h.trans (Calm.completeBarred ..)
      all_goals exact h

theorem Calm.endTail (c : Chan) (s : State) : Calm s (endTail c s) := by
  unfold Machine.endTail; dsimp only
  split
  · exact (Calm.endPhase ..).trans (Calm.goDark ..)
  · rename_i b _
    have h := (Calm.endPhase c s).trans ((Calm.endTailBurst c _).trans (Calm.settleRest c b _))
    split
    · exact h.trans (Calm.arm ..)
    · exact h

theorem Calm.markClosed (c : Chan) (s : State) : Calm s (markClosed c s) :=
  Calm.modChan s c _ (by constructor <;> rfl)

theorem Calm.closeWindow (c : Chan) (s : State) : Calm s (closeWindow c s) := by
  unfold Machine.closeWindow
  split
  · exact Calm.refl s
  · split
    · exact (Calm.modFront ..).trans (Calm.enterTail ..)
    · exact (Calm.modFront ..).trans (Calm.enterTail ..)
    · split
      · exact Calm.markClosed c s
      · exact (Calm.markClosed c s).trans ((Calm.modFront ..).trans (Calm.completeBarred ..))
    all_goals exact Calm.refl s

theorem Calm.atOnceRounds (n : Nat) (c : Chan) (own : Option U16) (s : State) : Calm s (atOnceRounds n c own s) := by
  induction n generalizing s with
  | zero => exact Calm.refl s
  | succ n ih =>
    unfold Machine.atOnceRounds
    split
    · exact (Calm.endTail c s).trans (ih _)
    · split
      · exact Calm.refl s
      · exact (Calm.closeWindow c s).trans (ih _)

theorem Calm.runAtOnce (c : Chan) (own : Option U16) (s : State) : Calm s (runAtOnce c own s) := Calm.atOnceRounds ..

theorem Calm.tailOver (c : Chan) (s : State) : Calm s (tailOver c s) := (Calm.endTail c s).trans (Calm.runAtOnce ..)

theorem Calm.atOnce {c : Chan} {f : State → State} {s : State} (h : Calm s (f s)) : Calm s (atOnce c f s) := by
  exact h.trans (Calm.runAtOnce ..)

theorem Calm.tailAtOnce (c : Chan) (s : State) : Calm s (tailAtOnce c s) := by
  unfold Machine.tailAtOnce
  split
  · exact Calm.tailOver ..
  · exact Calm.refl s

theorem Calm.acceptGate (c : Chan) (u : Bool) (s : State) : Calm s (acceptGate c u s) := by
  unfold Machine.acceptGate; dsimp only
  split
  · exact (Calm.endPhase c s).trans ((Calm.modFront ..).trans (Calm.modSeq ..))
  · exact Calm.endPhase ..

theorem Calm.unplannedGate (c : Chan) (s : State) : Calm s (unplannedGate c s) := Calm.placeNotice ..

theorem Calm.gateRise (c : Chan) (s : State) : Calm s (gateRise c s) := by
  unfold Machine.gateRise
  split
  · exact Calm.unplannedGate ..
  · split
    · split
      · exact Calm.acceptGate ..
      · split
        · exact Calm.acceptGate ..
        · exact (Calm.modFront ..).trans (Calm.enterTail ..)
      · exact Calm.modFront ..
      all_goals exact Calm.unplannedGate ..
    · exact Calm.unplannedGate ..

theorem Calm.writtenTail (c : Chan) (s : State) : Calm s (writtenTail c s) :=
  (Calm.modFront ..).trans (Calm.enterTail ..)

theorem Calm.handOver (c : Chan) (b : Burst) (s : State) : Calm s (handOver c b s) :=
  (Calm.completeFront ..).trans ((Calm.modFront ..).trans ((Calm.modSeq ..).trans (Calm.setCommit ..)))

theorem Calm.failHandOver (c : Chan) (b : Burst) (r : Reason) (s : State) : Calm s (failHandOver c b r s) :=
  (Calm.modChan s c _ (by constructor <;> rfl)).trans (Calm.writtenTail ..)

theorem Calm.endWrite (c : Chan) (s : State) : Calm s (endWrite c s) := by
  unfold Machine.endWrite; dsimp only
  have h := (Calm.endPhase c s).trans (Calm.modFront c (Burst.stopGate s.now) (Machine.endPhase c s))
  split
  · split
    · split
      · exact h.trans (Calm.failHandOver ..)
      all_goals
        split
        · exact h.trans (Calm.handOver ..)
        · exact h.trans (Calm.failHandOver ..)
    · exact h.trans (Calm.writtenTail ..)
  · exact h.trans (Calm.writtenTail ..)

theorem Calm.gateFall (c : Chan) (s : State) : Calm s (gateFall c s) := by
  unfold Machine.gateFall
  split
  · exact Calm.atOnce (Calm.endWrite ..)
  · split
    · exact Calm.refl s
    · split
      · exact Calm.atOnce ((Calm.modFront ..).trans (Calm.completeBarred ..))
      · exact Calm.refl s

theorem Calm.strikeLaser (c : Chan) (r : Reason) (s : State) : Calm s (strikeLaser c r s) := by
  unfold Machine.strikeLaser
  split
  all_goals first | exact Calm.refl s | exact (Calm.modFront ..).trans (Calm.enterTail ..)

theorem Calm.abortWrite (c : Chan) (r : Reason) (n : Nat) (s : State) : Calm s (abortWrite c r n s) :=
  (Calm.modFront ..).trans (Calm.enterTail ..)

theorem Calm.chargeDetached (c : Chan) (s : State) : Calm s (chargeDetached c s) := by
  unfold Machine.chargeDetached
  split
  · exact Calm.chargeBurst ..
  all_goals exact Calm.refl s

theorem Calm.chargeFront (c : Chan) (s : State) : Calm s (chargeFront c s) := by
  unfold Machine.chargeFront
  split
  · exact Calm.chargeBurst ..
  · exact Calm.refl s

theorem Calm.emptyQueue (c : Chan) (s : State) : Calm s (emptyQueue c s) :=
  Calm.modChan s c _ (by constructor <;> rfl)

theorem Calm.keepSpan (c : Chan) (s : State) : Calm s (keepSpan c s) := Calm.modSeq ..

theorem Calm.dropSpan (c : Chan) (s : State) : Calm s (dropSpan c s) := Calm.modSeq ..

theorem Calm.flushAll (c : Chan) (s : State) : Calm s (flushAll c s).1 :=
  (Calm.keepSpan ..).trans <| (Calm.endPhase ..).trans <| (Calm.chargeDetached ..).trans <|
    (Calm.chargeFront ..).trans <| (Calm.emptyQueue ..).trans (Calm.goDark ..)

theorem Calm.releaseFront (c : Chan) (s : State) : Calm s (releaseFront c s) := by
  unfold Machine.releaseFront
  split
  · exact Calm.detachFront ..
  · exact Calm.refl s

theorem Calm.chargeEnded (c : Chan) (s : State) : Calm s (chargeEnded c s) := by
  unfold Machine.chargeEnded
  split
  · exact Calm.refl s
  · exact Calm.chargeFront ..

theorem Calm.chargeFlushed (h : Fin 24) (s : State) : Calm s (chargeFlushed h s) := by
  unfold Machine.chargeFlushed; dsimp only
  split
  · exact Calm.chargeEnded ..
  · exact Calm.refl s

theorem Calm.flushHead (h : Fin 24) (s : State) : Calm s (flushHead h s).1 := by
  unfold Machine.flushHead; dsimp only
  split
  · exact (Calm.releaseFront ..).trans (Calm.removeWhere ..)
  · exact Calm.removeWhere ..

theorem Calm.endBiasOn (c : Chan) (h : Fin 24) (s : State) : Calm s (endBiasOn c h s) := by
  unfold Machine.endBiasOn; dsimp only
  split
  · exact Calm.goDark ..
  · exact Calm.refl s

theorem Calm.enterFault (h : Fin 24) (k : FaultCause) (s : State) : Calm s (enterFault h k s) := by
  unfold Machine.enterFault; dsimp only
  split
  · exact (Calm.setHead ..).trans <| (Calm.chargeFlushed ..).trans <| (Calm.flushHead ..).trans <|
      (Calm.endBiasOn ..).trans (Calm.placeNotice ..)
  · exact Calm.refl s

theorem Calm.addStrike (h : Fin 24) (s : State) : Calm s (addStrike h s) := by
  unfold Machine.addStrike; dsimp only
  split
  · exact (Calm.setHead ..).trans (Calm.enterFault ..)
  · exact Calm.setHead ..

theorem Calm.lightAbsent (c : Chan) (s : State) : Calm s (lightAbsent c s) := by
  unfold Machine.lightAbsent; dsimp only
  split
  · exact (Calm.endPhase ..).trans (Calm.goDark ..)
  · have h := (Calm.endPhase c s).trans (Calm.goDark c _)
    refine Calm.trans ?_ (Calm.enterFault ..)
    split
    · exact h
    · exact h.trans (Calm.chargeBurst ..)
    · split
      · exact h.trans (Calm.completeFront ..)
      · exact h.trans (Calm.completeFront ..)
      · exact h.trans ((Calm.modFront ..).trans (Calm.completeFront ..))
      · exact h.trans (Calm.completeFront ..)
      all_goals exact h

theorem Calm.darkenHeadOn (h : Fin 24) (c : Chan) (s : State) : Calm s (darkenHeadOn h c s) := by
  unfold Machine.darkenHeadOn
  split
  · exact (Calm.endPhase ..).trans ((Calm.chargeDetached ..).trans (Calm.goDark ..))
  · exact Calm.refl s

theorem Calm.darkenHead (h : Fin 24) (s : State) : Calm s (darkenHead h s) :=
  (Calm.darkenHeadOn h .c0 s).trans (Calm.darkenHeadOn h .c1 _)

theorem Calm.seeLight (c : Chan) (n : Nat) (s : State) : Calm s (seeLight c n s) := by
  unfold Machine.seeLight; dsimp only
  split
  · exact (Calm.modSeq ..).trans (Calm.modActive ..)
  · exact Calm.modSeq ..

theorem Calm.dropout (c : Chan) (s : State) : Calm s (dropout c s) := by
  unfold Machine.dropout; dsimp only
  split
  · exact Calm.strikeLaser ..
  · exact (Calm.strikeLaser ..).trans (Calm.addStrike ..)

theorem Calm.owedDropout (c : Chan) (n : Nat) (s : State) : Calm s (owedDropout c n s) := by
  unfold Machine.owedDropout; dsimp only
  split
  · exact Calm.refl s
  · split
    · exact (Calm.dropSpan ..).trans (Calm.addStrike ..)
    · exact Calm.dropSpan ..

theorem Calm.owedAbsent (c : Chan) (s : State) : Calm s (owedAbsent c s) := by
  unfold Machine.owedAbsent
  split
  · exact Calm.refl s
  · exact Calm.atOnce ((Calm.dropSpan ..).trans (Calm.enterFault ..))

theorem Calm.endPreheat (c : Chan) (s : State) : Calm s (endPreheat c s) :=
  (Calm.endPhase ..).trans ((Calm.modFront ..).trans (Calm.modSeq ..))

theorem Calm.endBoost (c : Chan) (s : State) : Calm s (endBoost c s) := (Calm.endPhase ..).trans (Calm.modSeq ..)

/-! ## The Wedge Tracker -/

theorem Calm.setTracker (c : Chan) (t : Tracker) (s : State) : Calm s (setTracker c t s) :=
  Calm.modChan s c _ (by constructor <;> rfl)

theorem Calm.anchorEvent (c : Chan) (a : Anchor) (s : State) : Calm s (anchorEvent c a s) := by
  unfold Machine.anchorEvent; dsimp only
  have h := Calm.modChan s c (fun x => { x with gate := regate x a }) (by constructor <;> rfl)
  split
  all_goals
    first
    | refine Calm.trans ?_ (Calm.runAtOnce ..)
    | skip
    split
    · exact h.trans (Calm.modSeq ..)
    · exact h

theorem Calm.loseReference (c : Chan) (k : SyncCause) (t : Tracker) (s : State) : Calm s (loseReference c k t s) :=
  (Calm.setTracker ..).trans ((Calm.flushAll ..).trans (Calm.placeNotice ..))

theorem Calm.syncRecognised (c : Chan) (n : Nat) (i : Bool) (s : State) : Calm s (syncRecognised c n i s) := by
  unfold Machine.syncRecognised
  split
  · exact Calm.refl s
  · unfold Machine.acquire; dsimp only
    split
    · split
      · exact Calm.setTracker ..
      · exact Calm.refl s
    · split
      · exact (Calm.setTracker ..).trans (Calm.placeNotice ..)
      · exact Calm.setTracker ..
  all_goals
    unfold Machine.track; dsimp only
    split
    · exact Calm.refl s
    · split
      · split
        · exact Calm.loseReference ..
        · exact (Calm.setTracker ..).trans (Calm.anchorEvent ..)
      · exact Calm.refl s

theorem Calm.miss (c : Chan) (s : State) : Calm s (miss c s) := by
  unfold Machine.miss; dsimp only
  split
  · exact Calm.refl s
  · split
    · refine Calm.trans ?_ (Calm.anchorEvent ..)
      split
      · exact (Calm.setTracker ..).trans (Calm.placeNotice ..)
      · exact Calm.setTracker ..
    · exact Calm.loseReference ..

end Sys2Proof.Machine
end

