-- ==== Sys2Proof/Laws/Requests.lean ====
section
/-! SUPPORT. What a request does that arrives on an idle link: it is served at once and its reply begins. `LinkKept` says that
a service leaves the link's requests, replies and transmitter alone. -/

namespace Sys2Proof.Machine

/-- A service leaves the link alone, but for notices. -/
structure LinkKept (s t : State) : Prop where
  held : t.held = s.held
  now : t.now = s.now
  pending : t.pending = s.pending
  requests : SameRequests s t
  tx : t.link.tx = s.link.tx
  notices : s.link.notices.length ≤ 32 → t.link.notices.length ≤ 32

theorem LinkKept.refl (s : State) : LinkKept s s := ⟨rfl, rfl, rfl, SameRequests.refl s, rfl, id⟩

theorem LinkKept.trans {s t u : State} (a : LinkKept s t) (b : LinkKept t u) : LinkKept s u :=
  ⟨b.1.trans a.1, b.2.trans a.2, b.3.trans a.3, a.4.trans b.4, b.5.trans a.5, fun h => b.6 (a.6 h)⟩

theorem Calm.kept {s t : State} (h : Calm s t) : LinkKept s t :=
  ⟨h.tables.held, h.tables.now, h.tables.pending, h.requests, h.tx, h.notices⟩

/-- An update that changes no field of the link. -/
theorem LinkKept.of_eq {s t : State} (h1 : t.held = s.held) (h2 : t.now = s.now) (h3 : t.pending = s.pending)
    (h4 : t.link = s.link) : LinkKept s t :=
  ⟨h1, h2, h3, by constructor <;> rw [h4], by rw [h4], by rw [h4]; exact id⟩

/-- What one received character does: nothing when it had ended before the last reset acted, and otherwise what
`receiveChar` answers, with the arrival of the request it completes. -/
theorem takeChar_cases (s : State) (k : Character) :
    (k.start + 50 < (s.lineEpoch : Int) ∧ takeChar s k = s) ∨
    ((s.lineEpoch : Int) ≤ k.start + 50 ∧ ∃ (r : Receiver × Option Frame) (s1 : State),
      r = receiveChar (s.link.rx.afterGap (k.start - s.link.rxEnd)) k ∧
      s1 = (s.modLink fun l => { l with rx := r.1, rxEnd := k.start + 50 }) ∧
      (r.2 = none ∧ takeChar s k = s1 ∨ ∃ f, r.2 = some f ∧ takeChar s k = arrived (requestOf f) s1)) := by
  by_cases h : k.start + 50 < (s.lineEpoch : Int)
  · exact .inl ⟨h, by simp [takeChar, endedBeforeReset, Config.charTicks, h]⟩
  · refine .inr ⟨by omega, _, _, rfl, rfl, ?_⟩
    have e : endedBeforeReset k s = false := by simp only [endedBeforeReset, Config.charTicks]; exact decide_eq_false h
    cases hr : (receiveChar (s.link.rx.afterGap (k.start - s.link.rxEnd)) k).2 with
    | none => exact .inl ⟨rfl, by simp [takeChar, e, hr, Config.charTicks]⟩
    | some f => exact .inr ⟨f, rfl, by simp [takeChar, e, hr, Config.charTicks]⟩

/-- A request on an idle link: its reply begins at once, and the link is idle again but for the transmitter. -/
theorem onLink_idle {s : State} (h : LinkIdle s) (r : Instr) (p : State × Reply)
    (hs : serve r s = answer r .replied p) (hk : LinkKept s p.1) :
    onLink (arrive r) s = p.1.replying (replyKind (requestKind r)) (requestTag r) p.2.payload := by
  obtain ⟨hh, h1, h2, h3, h4⟩ := h
  obtain ⟨⟨k1, k2, k3, k4, k5⟩, k6⟩ := And.intro hk.requests hk.tx
  rw [h1] at k3; rw [h2] at k4; rw [h3] at k5; rw [h4] at k6
  have ha : arrive r s = answer r .replied p := by
    unfold arrive Link.resetting
    simp only [h1, h2, hs, Bool.false_eq_true, if_false]
  unfold onLink
  rw [hh, ha]
  simp only [Bool.false_eq_true, if_false, State.replying]
  congr 1
  unfold pump answer
  simp only [State.modLink_link, k5, k6, List.nil_append]
  unfold beginFrame releasePlace actsAfter Link.resetting State.sending
  simp only [k4, State.modLink, QueuedReply.frame, frameTicks, Config.charTicks]
  cases hl : p.1.link with
  | mk a b c d e f g i => simp_all

end Sys2Proof.Machine
end

