-- ==== Sys2Proof/Laws/Services.lean ====
section
/-! SUPPORT. Every service of a request leaves the link, time and the queue of commands alone, but for notices. One lemma per
service, which says what it leaves alone whatever it answers. -/

namespace Sys2Proof.Machine

theorem LinkKept.modChan (s : State) (c : Chan) (f : Channel → Channel) : LinkKept s (s.modChan c f) :=
  LinkKept.of_eq (by simp) (by simp) (by simp) (by simp)

theorem LinkKept.withPayload {α : Type} (p : Payload α) (s : State) (f : α → State × Reply)
    (h : ∀ a, LinkKept s (f a).1) : LinkKept s (withPayload p s f).1 := by
  cases p with
  | fits a => exact h a
  | unfit => exact LinkKept.refl s

theorem LinkKept.withHeadState (p : HeadStateBody) (s : State) (f : Fin 24 → State × Reply)
    (h : ∀ a, LinkKept s (f a).1) : LinkKept s (withHeadState p s f).1 := by
  cases p with
  | fits b =>
    simp only [Machine.withHeadState]
    split
    · exact LinkKept.refl s
    · exact h _
  | unfit => exact LinkKept.refl s
  | undefinedAction _ _ => exact LinkKept.refl s

theorem serveIdent_kept (p : Payload Unit) (s : State) : LinkKept s (serveIdent p s).1 :=
  LinkKept.withPayload p s _ fun _ => LinkKept.refl s

theorem serveStatus_kept (p : Payload Unit) (s : State) : LinkKept s (serveStatus p s).1 :=
  LinkKept.withPayload p s _ fun _ => LinkKept.refl s

theorem serveChannelSet_kept (p : Payload ChannelSetFields) (s : State) : LinkKept s (serveChannelSet p s).1 := by
  refine LinkKept.withPayload p s _ fun f => ?_
  split
  · exact LinkKept.refl s
  · split
    · exact LinkKept.refl s
    · split
      · exact LinkKept.refl s
      · dsimp only
        exact LinkKept.modChan ..

theorem serveChannelOnline_kept (p : Payload Byte) (s : State) : LinkKept s (serveChannelOnline p s).1 := by
  refine LinkKept.withPayload p s _ fun b => ?_
  split
  · exact LinkKept.refl s
  · split
    · exact LinkKept.refl s
    · dsimp only
      split
      · exact (LinkKept.modChan ..).trans (LinkKept.of_eq rfl rfl rfl rfl)
      · exact LinkKept.modChan ..

theorem serveChannelOffline_kept (p : Payload Byte) (s : State) : LinkKept s (serveChannelOffline p s).1 := by
  refine LinkKept.withPayload p s _ fun b => ?_
  split
  · exact LinkKept.refl s
  · rename_i c _
    split
    · dsimp only
      have h := ((Calm.setTracker c (offTracker (s.chan c).config.pnom) s).trans (Calm.flushAll c _)).kept
      split
      · exact h
      · exact h.trans (LinkKept.of_eq rfl rfl rfl rfl)
    · exact LinkKept.refl s

theorem serveConditions_kept (p : Payload ConditionsFields) (s : State) : LinkKept s (serveConditions p s).1 := by
  refine LinkKept.withPayload p s _ fun f => ?_
  unfold applyLimit
  dsimp only
  split <;> exact LinkKept.of_eq rfl rfl rfl rfl

theorem serveHeadSet_kept (p : Payload HeadSetFields) (s : State) : LinkKept s (serveHeadSet p s).1 := by
  refine LinkKept.withPayload p s _ fun f => ?_
  split
  · split
    · exact LinkKept.refl s
    · exact ((Calm.setHead ..).trans ((Calm.darkenHead ..).trans (Calm.wearTest ..))).kept
  · exact LinkKept.refl s

theorem serveHeadGet_kept (p : Payload Byte) (s : State) : LinkKept s (serveHeadGet p s).1 := by
  refine LinkKept.withPayload p s _ fun b => ?_
  split <;> exact LinkKept.refl s

theorem servePark_kept (p : HeadStateBody) (s : State) : LinkKept s (servePark p s).1 := by
  refine LinkKept.withHeadState p s _ fun h => ?_
  dsimp only
  split
  · have h1 := (Calm.setHead s h { s.heads[h] with state := .parked }).trans
      ((Calm.flushHead h _).trans (Calm.endBiasOn s.heads[h].channel h _))
    split
    · exact (Calm.atOnce (f := fun s => endBiasOn s.heads[h].channel h
        (flushHead h (s.setHead h { s.heads[h] with state := .parked })).1) h1).kept
    · exact h1.kept
  · exact LinkKept.refl s

theorem serveUnpark_kept (p : HeadStateBody) (s : State) : LinkKept s (serveUnpark p s).1 := by
  refine LinkKept.withHeadState p s _ fun h => ?_
  dsimp only
  split
  · exact (Calm.setHead ..).kept
  · exact LinkKept.refl s

theorem serveClearFault_kept (p : HeadStateBody) (s : State) : LinkKept s (serveClearFault p s).1 := by
  refine LinkKept.withHeadState p s _ fun h => ?_
  dsimp only
  split
  · exact (Calm.setHead ..).kept
  · exact LinkKept.refl s

theorem serveRetire_kept (p : HeadStateBody) (s : State) : LinkKept s (serveRetire p s).1 := by
  refine LinkKept.withHeadState p s _ fun h => ?_
  split
  · exact LinkKept.refl s
  · exact ((Calm.setHead ..).trans (Calm.darkenHead ..)).kept

theorem serveProfileSet_kept (p : Payload ProfileSetFields) (s : State) : LinkKept s (serveProfileSet p s).1 := by
  refine LinkKept.withPayload p s _ fun f => ?_
  split
  · exact LinkKept.refl s
  · exact LinkKept.of_eq rfl rfl rfl rfl

theorem serveProfileGet_kept (p : Payload Byte) (s : State) : LinkKept s (serveProfileGet p s).1 := by
  refine LinkKept.withPayload p s _ fun b => ?_
  split <;> exact LinkKept.refl s

theorem serveRangeSet_kept (p : Payload (List RangeWrite)) (s : State) : LinkKept s (serveRangeSet p s).1 := by
  refine LinkKept.withPayload p s _ fun ws => ?_
  split
  · exact LinkKept.refl s
  · split
    · exact LinkKept.refl s
    · exact LinkKept.of_eq rfl rfl rfl rfl

theorem serveRuleSet_kept (p : Payload RuleSetFields) (s : State) : LinkKept s (serveRuleSet p s).1 := by
  refine LinkKept.withPayload p s _ fun f => ?_
  split
  · exact LinkKept.of_eq rfl rfl rfl rfl
  · exact LinkKept.refl s

theorem serveRuleGet_kept (p : Payload Byte) (s : State) : LinkKept s (serveRuleGet p s).1 := by
  refine LinkKept.withPayload p s _ fun b => ?_
  split <;> exact LinkKept.refl s

theorem serveCounters_kept (p : Payload CountersFields) (s : State) : LinkKept s (serveCounters p s).1 := by
  refine LinkKept.withPayload p s _ fun f => ?_
  split
  · exact LinkKept.refl s
  · dsimp only
    split
    · exact LinkKept.refl s
    · dsimp only
      split
      · exact LinkKept.of_eq rfl rfl rfl rfl
      · exact LinkKept.refl s

theorem Calm.cancelFront (c : Chan) (s : State) : Calm s (cancelFront c s) := by
  unfold Machine.cancelFront
  split
  · exact Calm.refl s
  · split
    · exact (Calm.enterTail ..).trans (Calm.detachFront ..)
    · exact (Calm.enterTail ..).trans (Calm.detachFront ..)
    · exact (Calm.chargeEnded ..).trans (Calm.releaseFront ..)
    all_goals exact Calm.refl s

theorem Calm.cancelOn (c : Chan) (sel : Burst → Bool) (s : State) : Calm s (cancelOn c sel s).1 := by
  unfold Machine.cancelOn; dsimp only
  split
  · exact Calm.atOnce ((Calm.cancelFront ..).trans (Calm.removeWhere ..))
  · exact Calm.removeWhere ..

theorem Calm.cancelBoth (sel : Burst → Bool) (s : State) : Calm s (cancelBoth sel s).1 :=
  (Calm.cancelOn .c0 sel s).trans (Calm.cancelOn .c1 sel _)

theorem serveCancel_kept (p : Payload CancelFields) (s : State) : LinkKept s (serveCancel p s).1 := by
  refine LinkKept.withPayload p s _ fun f => ?_
  split
  · exact (Calm.cancelBoth ..).kept
  · split
    · split
      · exact (Calm.cancelOn ..).kept
      · split
        · exact (Calm.cancelOn ..).kept
        · exact LinkKept.refl s
    · split
      · split
        · exact (Calm.cancelBoth ..).kept
        · exact LinkKept.refl s
      · exact LinkKept.refl s

theorem enterSafeDark_kept (k : SafeCause) (s : State) : LinkKept s (enterSafeDark k s) := by
  unfold enterSafeDark; dsimp only
  split
  · exact LinkKept.refl s
  · refine LinkKept.trans (t := { s with safe := some k }) (LinkKept.of_eq rfl rfl rfl rfl) ?_
    refine ((Calm.flushAll .c0 _).trans (Calm.flushAll .c1 _)).kept.trans ?_
    refine LinkKept.trans ?_ (Calm.placeNotice ..).kept
    exact LinkKept.of_eq rfl rfl rfl rfl

theorem serveSafetySet_kept (p : Payload SafetySetFields) (s : State) : LinkKept s (serveSafetySet p s).1 := by
  refine LinkKept.withPayload p s _ fun f => ?_
  split
  · exact LinkKept.refl s
  · exact LinkKept.of_eq rfl rfl rfl rfl

theorem serveTend_kept (p : Payload Byte) (s : State) : LinkKept s (serveTend p s).1 := by
  refine LinkKept.withPayload p s _ fun b => ?_
  split
  · exact LinkKept.refl s
  · split
    · exact LinkKept.refl s
    · unfold takeTend; dsimp only
      split
      · exact LinkKept.of_eq rfl rfl rfl rfl
      · split
        · exact LinkKept.of_eq rfl rfl rfl rfl
        · split
          · exact LinkKept.of_eq rfl rfl rfl rfl
          · refine LinkKept.trans ?_ (enterSafeDark_kept ..)
            exact LinkKept.of_eq rfl rfl rfl rfl

theorem serveResume_kept (p : Payload Unit) (s : State) : LinkKept s (serveResume p s).1 := by
  refine LinkKept.withPayload p s _ fun b => ?_
  split
  · exact LinkKept.refl s
  · split
    · exact LinkKept.refl s
    · dsimp only
      split <;> exact LinkKept.of_eq rfl rfl rfl rfl

theorem expire_kept (s : State) : LinkKept s (expire s) := by
  unfold expire; dsimp only
  split
  · refine LinkKept.trans ?_ (Calm.placeNotice ..).kept
    exact LinkKept.of_eq rfl rfl rfl rfl
  · exact enterSafeDark_kept ..

/-! ## Admission -/

theorem insertBurst_calm (c : Chan) (b : Burst) (s : State) : Calm s (insertBurst c b s) := by
  unfold insertBurst; dsimp only
  have h := Calm.modChan s c (fun x => { x with queue := ((s.chan c).queue.filter fun d => d.position < b.position) ++
    b :: ((s.chan c).queue.filter fun d => b.position ≤ d.position) }) (by constructor <;> rfl)
  split
  · exact h.trans (Calm.refreshFront ..)
  · exact h

theorem admit_kept (b : Burst) (k : Classified) (s : State) : LinkKept s (admitBurst b k s) := by
  unfold admitBurst; dsimp only
  refine LinkKept.trans
    (insertBurst_calm b.channel { b with plan := { b.plan with capture := captureMarkOf s k } } s).kept ?_
  split
  · exact LinkKept.of_eq rfl rfl rfl rfl
  · refine LinkKept.trans ?_ (Calm.placeNotice ..).kept
    exact LinkKept.of_eq rfl rfl rfl rfl

theorem judgeEntry_kept (e : PlanEntry) (s : State) : LinkKept s (judgeEntry e s).1 := by
  unfold judgeEntry
  split
  · exact LinkKept.refl s
  · split
    · exact LinkKept.refl s
    · split
      · exact LinkKept.refl s
      · split
        · unfold judgeSynced; dsimp only
          repeat' split
          all_goals first | exact LinkKept.refl s | exact admit_kept ..
        · exact LinkKept.refl s

end Sys2Proof.Machine
end

