-- ==== Sys2Proof/Tests/Slice0.lean ====
section
/-! SUPPORT. Tests. Expected results are the spec's worked examples and tables, named in the comments, or hand calculation
from its rules; every theorem is about one command on one small state. The theorems whose names begin with `witness_` show a
concrete state and operands that meet the hypotheses of the statement they are named after, clause by clause. -/

open Sys2Proof Sys2Proof.Machine

set_option Elab.async false

namespace Sys2Proof.Tests

/-! ## The states the tests start from -/

/-- The state a command leaves. -/
def after (i : Instr) (s : State) : State :=
  match exec i s with
  | .next t => t
  | .fault _ => s
  | .refused _ => s

/-- Head 3 of the worked plan (section 2.7). -/
def head3 : Head :=
  { coldHead with
    state := .ready, ith25 := 250, ktemp := 12, gain := 96, imax := 600, ibias := 150, lightEst := 180
    coldExtra := 900, lt := -6, ceiling := 5000, bucket := 1000, leak := 6 }

/-- The profile of the worked plan. -/
def profile1 : Profile := ⟨120, 40, 400, 12, 300, 200⟩

/-- The worked plan: T 41, ΔP -8, ΔL +20. -/
def plan7 : Plan := computePlan head3 profile1 41 (-8) 20 none none .veto

/-- Tag 7 of the worked admission (section 1.7). -/
def burst7 : Burst :=
  newBurst ⟨7, 3, 10, 0, 1200, 3000, 100, 0⟩ ⟨3, .c0, .data, 10, 0, 1200, 3000, 100⟩ 3022 24757424 plan7

/-- Channel 0 of the worked burst (section 4.8) at the anchor of wedge 3022: LOCKED, in BIAS on head 3. -/
def channel0 : Channel :=
  { coldChannel with
    config := { coldConfig with reportOk := true, profile := 1 }
    temp := 41
    tracker := ⟨.locked, some ⟨108230, 10, 3022⟩, 8185, 2, 0⟩
    syncLine := ⟨false, 108300, false⟩
    queue := [burst7]
    gate := some ⟨109430, true, false⟩
    seq := { darkSequencer with laser := .bias, selected := some 3, committed := 150, biasCurrent := 150 } }

/-- The part at the scheduled start of tag 7 (section 4.8). -/
def lab : State :=
  driveOutputs
    { State.reset with
      now := 108942
      ch0 := channel0
      heads := State.reset.heads.set 3 head3
      profiles := State.reset.profiles.set 1 profile1
      supply := ⟨800, none⟩
      safety := { coldSafety with state := .running }
      leaksTaken := 106 }

/-- A state with channel 0 changed, and the lines driven. -/
def with0 (f : Channel → Channel) (s : State) : State := driveOutputs (s.setChan .c0 (f s.ch0))

/-- Tag 7 lit: its laser state since `since`, its burst state, and the time. -/
def lit (l : LaserState) (st : BurstState) (since now : Nat) : State :=
  with0 (fun x => { x with
    queue := [{ burst7 with state := st, leadUsed := some ⟨488, false⟩ }]
    seq := { x.seq with
      laser := l, active := .front, committed := 470, biasCurrent := 0, light := .seen, phaseStart := since
      litSince := 108942 } }) { lab with now := now }

/-- The channel's front burst with a tail of no length. -/
def tailless (x : Channel) : Channel :=
  { x with queue := x.queue.modifyHead fun b => { b with plan := { b.plan with tailLen := 0 } } }

/-- Tag 8, behind tag 7: of head 4, one wedge on. -/
def burst8 : Burst := { burst7 with tag := 8, head := 4, target := 3023, position := burst7.position + 8192 }

/-- The transmitter is sending a frame that ends at `t`. -/
def busyUntil (t : Nat) (s : State) : State :=
  { s with link := { s.link with tx := some ⟨⟨0x81, 1, []⟩, t, none⟩ } }

/-- A channel OFFLINE with nothing held, and the other fields of `lab`. -/
def offline : State := with0 (fun x => { x with
  tracker := offTracker 8192, queue := [], gate := none, seq := darkSequencer }) { lab with safety := coldSafety }

/-- A rise of SYNCn at `rise`, with one of INDEXn where it is given. -/
def syncRise (c : Chan) (rise : Nat) (index : Option Nat) : Instr :=
  .syncRecognition c [⟨true, rise⟩] (index.toList.map fun t => ⟨true, t⟩)

/-- The link is idle, as a test. -/
def idleTest (s : State) : Bool :=
  !s.held && s.link.served.isNone && s.link.waiting.isNone && s.link.replies.isEmpty && s.link.tx.isNone

theorem linkIdle_of {s : State} (h : idleTest s = true) : LinkIdle s := by
  simp only [idleTest, Bool.and_eq_true, Bool.not_eq_true', Option.isNone_iff_eq_none, List.isEmpty_iff] at h
  exact ⟨h.1.1.1.1, h.1.1.1.2, h.1.1.2, h.1.2, h.2⟩

/-! ## Well-formedness: each check refuses an ill-formed term -/

def someEntry : PlanEntry := ⟨7, 3, 10, 0, 1200, 3000, 0, 0⟩

theorem test_wf_plan_of_none : (Instr.plan 1 (.fits [])).wf = false := by decide
theorem test_wf_plan_of_five : (Instr.plan 1 (.fits (List.replicate 5 someEntry))).wf = false := by decide
theorem test_wf_plan_of_four : (Instr.plan 1 (.fits (List.replicate 4 someEntry))).wf = true := by decide
theorem test_wf_ranges_of_none : (Instr.rangeSet 1 (.fits [])).wf = false := by decide
theorem test_wf_ranges_of_nine : (Instr.rangeSet 1 (.fits (List.replicate 9 ⟨0, 0, 0, 0⟩))).wf = false := by decide
theorem test_wf_defined_scope : (Instr.resetFull 1 (.undefinedScope 1)).wf = false ∧
    (Instr.resetRun 1 (.undefinedScope 0)).wf = false := by decide
theorem test_wf_defined_action : (Instr.park 1 (.undefinedAction 3 3)).wf = false ∧
    (Instr.unpark 1 (.undefinedAction 3 0)).wf = false ∧ (Instr.clearFault 1 (.undefinedAction 3 2)).wf = false ∧
    (Instr.retire 1 (.undefinedAction 3 1)).wf = false := by decide
theorem test_wf_defined_kind : (Instr.undefinedRequest 0x20 1).wf = false ∧ (Instr.undefinedRequest 0x04 1).wf = true := by
  decide
theorem test_wf_edges_out_of_order : (Instr.syncRecognition .c0 [⟨false, 9⟩, ⟨true, 8⟩] []).wf = false ∧
    (Instr.syncRecognition .c0 [] [⟨false, 9⟩, ⟨true, 8⟩]).wf = false ∧
    (Instr.syncRecognition .c0 [⟨false, 8⟩, ⟨true, 9⟩] [⟨true, 9⟩]).wf = true := by decide
theorem test_wf_overlapping_characters : (Instr.frameArrival [goodChar 0 0, goodChar 49 0]).wf = false ∧
    (Instr.frameArrival []).wf = false ∧ (Instr.frameArrival [goodChar 0 0, badChar 50 0]).wf = true := by decide

/-! ## Frames (sections 9.2, 10.2) -/

/-- R167: the check over 0x31 to 0x39 is 0x29B1. -/
theorem test_crc : crc [0x31, 0x32, 0x33, 0x34, 0x35, 0x36, 0x37, 0x38, 0x39] = 0x29B1 := by decide +kernel

theorem test_decode_ident : requestOf ⟨0x01, 9, []⟩ = .ident 9 (.fits ()) := by decide
theorem test_decode_cancel_by_tag : requestOf ⟨0x21, 12, [0, 0x14, 0x00]⟩ = .cancel 12 (.fits ⟨0, 20⟩) := by decide
theorem test_decode_park : requestOf ⟨0x12, 3, [5, 0]⟩ = .park 3 (.fits 5) := by decide
theorem test_decode_retire : requestOf ⟨0x12, 3, [5, 3]⟩ = .retire 3 (.fits 5) := by decide
theorem test_decode_reset_run : requestOf ⟨0x03, 40, [1]⟩ = .resetRun 40 .fits := by decide
theorem test_decode_safety_set : requestOf ⟨0x28, 1, [0xD0, 0x07, 1]⟩ = .safetySet 1 (.fits ⟨2000, 1⟩) := by decide
theorem test_decode_plan : requestOf ⟨0x20, 11, [1, 7, 0, 3, 10, 0, 0, 0xB0, 0x04, 0xB8, 0x0B, 0x64, 0, 0, 0]⟩ =
    .plan 11 (.fits [⟨7, 3, 10, 0, 1200, 3000, 100, 0⟩]) := by decide
theorem test_decode_plan_miscounted : requestOf ⟨0x20, 11, [2, 7, 0, 3, 10, 0, 0, 0xB0, 0x04, 0xB8, 0x0B, 0x64, 0, 0, 0]⟩ =
    .plan 11 .unfit := by decide

/-! ## Heating arithmetic (spec/02) -/

/-- R29, the table: positive, truncated toward zero, and clamped at both ends. -/
theorem test_threshold : thresholdCurrent head3 41 = 262 ∧ thresholdCurrent head3 20 = 247 ∧
    thresholdCurrent head3 (-20) = 217 ∧ thresholdCurrent { head3 with ith25 := 10, ktemp := 127 } (-20) = 0 ∧
    thresholdCurrent { head3 with ith25 := 1000, ktemp := 127 } 100 = 1023 := by decide

/-- The worked plan (after R38). -/
theorem test_worked_plan : plan7.ith = 262 ∧ plan7.sustain = 430 ∧ plan7.boost = 470 ∧ plan7.preheat = 322 ∧
    plan7.bias = 150 ∧ plan7.lead = 488 ∧ plan7.coldLead = 1388 ∧ plan7.capped = false := by decide

/-- The worked plan with Imax 400. -/
theorem test_worked_plan_capped :
    let p := computePlan { head3 with imax := 400 } profile1 41 (-8) 20 none none .veto
    p.sustain = 400 ∧ p.capped = true ∧ p.boost = 400 ∧ p.preheat = 300 := by decide

/-- R34, the table. -/
theorem test_bias : biasCurrentFor head3 262 = 150 ∧ biasCurrentFor { head3 with ibias := 300 } 262 = 261 ∧
    biasCurrentFor { head3 with imax := 120 } 262 = 120 ∧ biasCurrentFor head3 0 = 0 := by decide

/-- R35, the table. -/
theorem test_lead : warmLead head3 profile1 20 20 = 503 ∧
    warmLead { head3 with lightEst := 0, lt := 63 } { profile1 with lb := 0 } (-20) (-100) = 16 := by decide

/-- The worked derate (after R42) and its starved lines. -/
theorem test_worked_derate : supplyCheck plan7 330 = .derated 179 ∧ deratedCurrent 470 179 = 328 ∧
    deratedCurrent 430 179 = 300 ∧ deratedCurrent 322 179 = 225 ∧ supplyCheck plan7 230 = .starved 125 ∧
    supplyCheck plan7 0 = .starved 0 ∧ supplyCheck plan7 470 = .clear := by decide

/-- The worked estimates (after R43): warm, cold, derated and short. -/
theorem test_worked_estimates : heatEstimate burst7 488 = 372 ∧ heatEstimate burst7 1388 = 443 ∧
    heatEstimate { burst7 with derate := some 179 } 488 = 260 ∧ heatEstimate { burst7 with length := 300 } 488 = 88 := by
  decide

/-- R46, the table. -/
theorem test_light_estimate : updatedLightEst 180 212 = 188 ∧ updatedLightEst 180 150 = 173 ∧
    updatedLightEst 180 183 = 180 ∧ updatedLightEst 180 177 = 180 ∧ updatedLightEst 180 65535 = 2047 := by decide

/-! ## Planning (spec/01, spec/06) -/

/-- The worked admission (section 1.7): the target wedges of entries 1 and 4. -/
theorem test_target_wedge : targetWedge 512 ⟨0, 500, 3000⟩ 10 0 = 3022 ∧ targetWedge 512 ⟨0, 500, 3000⟩ 500 0 = 3512 := by
  decide

/-- The worked admission: entry 2 overlaps tag 7, and entry 4's place does not. -/
theorem test_worked_overlap : overlaps [burst7] 64 24760224 2000 = true ∧ overlaps [burst7] 64 28770404 1000 = false := by
  decide

/-- The worked classification (section 6.9): the range bits of entry a. -/
theorem test_worked_range_bits :
    rangeBitsOf (((State.reset.checkers.set 0 ⟨.track, 0, 199999⟩).set 1 ⟨.track, 800000, 1048575⟩).set 2
      ⟨.temperature, 55, 100⟩ |>.set 3 ⟨.offset, 0, 511⟩) 900000 300 60 = 0x0E := by decide +kernel

/-- The worked classification: SELECT entry 1 (heads 8 to 15, DATA and REWRITE, checker 1) matches entry a's key and not one
of head 3. -/
theorem test_worked_rule_match :
    let r : RuleEntry := ⟨true, 8, 24, 3, .any, 0x02, 0x02, some 1, .select 2 .accept, true⟩
    r.accepts ⟨12, .c1, .data, 0x0E⟩ = true ∧ r.accepts ⟨3, .c0, .data, 0x0E⟩ = false ∧
      r.accepts ⟨12, .c1, .erase, 0x0E⟩ = false ∧ r.accepts ⟨12, .c1, .data, 0x0C⟩ = false := by decide

/-- R19: two actions that name the same counter increment it once. -/
theorem test_same_counter_once :
    (countAdmission ⟨⟨3, .c0, .data, 0⟩, none, none, 0, .veto, some 4, 0, 0, some 4⟩ (Vector.replicate 16 0))[4] = 1 ∧
    (countAdmission ⟨⟨3, .c0, .data, 0⟩, none, none, 0, .veto, some 4, 0, 0, some 5⟩ (Vector.replicate 16 0xFFFFFFFF))[5] =
      0 := by decide +kernel

/-! ## The worked burst (section 4.8), one event at a time -/

/-- The arming: warm, PREHEAT at 322, committed 470, with its light deadline and preheat end. -/
theorem test_worked_arming :
    let t := after (.arming .c0) lab
    t.ch0.seq.laser = .preheat ∧ t.ch0.seq.lane = ⟨some 3, 322⟩ ∧ t.ch0.seq.committed = 470 ∧
      t.ch0.seq.light = .awaiting 109686 ∧ t.ch0.seq.phaseEnd = some 109430 ∧
      (t.front .c0).map (fun b => (b.state, b.leadUsed)) = some (.heating, some ⟨488, false⟩) := by decide +kernel

/-- The gate rise at 109,452: BOOST at 470, gate error +22, overrun at 112,708, no veto. -/
theorem test_worked_gate_rise :
    let t := after (.wgateRise .c0) (lit .hold .ready 109430 109452)
    t.ch0.seq.laser = .boost ∧ t.ch0.seq.lane = ⟨some 3, 470⟩ ∧ t.ch0.seq.overrunAt = some 112708 ∧
      t.ch0.seq.veto = false ∧ ((t.front .c0).bind Burst.gate).map AcceptedGate.error = some 22 := by decide +kernel

/-- The gate fall at 112,462: TAIL at 322 until 112,662, WRITTEN decided. -/
theorem test_worked_gate_fall :
    let t := after (.wgateFall .c0) (with0 (fun x => { x with wgate := true }) (lit .sustain .writing 109852 112462))
    t.ch0.seq.laser = .tail ∧ t.ch0.seq.phaseEnd = some 112662 ∧ t.ch0.seq.lane = ⟨some 3, 322⟩ ∧
      (t.front .c0).map Burst.state = some (.cooling ⟨.written, .none⟩) := by decide +kernel

/-- The tail end at 112,662: the accumulation of 1,538,920 charges 375 units, the bucket is 1,375, and the laser is in BIAS
at 150. -/
theorem test_worked_tail_end :
    let s := with0 (fun x => { x with
      queue := x.queue.map fun b => { b with acc := 1474520 }, seq := { x.seq with phaseEnd := some 112662 } })
      (lit .tail (.cooling ⟨.written, .none⟩) 112462 112662)
    let t := after (.tailEnd .c0) s
    t.ch0.queue = [] ∧ t.heads[3].bucket = 1375 ∧ t.ch0.seq.laser = .bias ∧ t.ch0.seq.lane = ⟨some 3, 150⟩ ∧
      t.ch0.seq.committed = 150 := by decide +kernel

/-! ## The worked tracker sequences (section 3.9) -/

/-- Channel 1 of the worked acquisition, with a tracker and a time. -/
def tracking (t : Tracker) (now : Nat) : State :=
  driveOutputs { State.reset with now := now, ch1 := { coldChannel with tracker := t } }

/-- The sync at 25,528 locks with Pest 8,188 at wedge 2. -/
theorem test_worked_lock :
    (after (syncRise .c1 25528 none) (tracking ⟨.acquiring, some ⟨17340, 1, 1⟩, 8190, 1, 0⟩ 25536)).ch1.tracker =
      ⟨.locked, some ⟨25528, 2, 2⟩, 8188, 2, 0⟩ := by decide +kernel

/-- The syncs at 36,000 (ignored) and 41,900 (Pest 8,187). -/
theorem test_worked_tracking :
    (after (syncRise .c1 36000 none) (tracking ⟨.locked, some ⟨33730, 3, 3⟩, 8189, 2, 0⟩ 36008)).ch1.tracker =
        ⟨.locked, some ⟨33730, 3, 3⟩, 8189, 2, 0⟩ ∧
      (after (syncRise .c1 41900 none) (tracking ⟨.locked, some ⟨33730, 3, 3⟩, 8189, 2, 0⟩ 41908)).ch1.tracker =
        ⟨.locked, some ⟨41900, 4, 4⟩, 8187, 2, 0⟩ := by decide +kernel

/-- The miss expiry at 50,352 coasts to 50,087; at 50,351 it is not due. -/
theorem test_worked_miss :
    (after (.missExpiry .c1) (tracking ⟨.locked, some ⟨41900, 4, 4⟩, 8187, 2, 0⟩ 50352)).ch1.tracker =
        ⟨.coasting, some ⟨50087, 5, 5⟩, 8187, 2, 1⟩ ∧
      (after (.missExpiry .c1) (tracking ⟨.locked, some ⟨41900, 4, 4⟩, 8187, 2, 0⟩ 50351)).ch1.tracker =
        ⟨.locked, some ⟨41900, 4, 4⟩, 8187, 2, 0⟩ := by decide +kernel

/-- An index slip at wedge 301 (section 3.9). -/
theorem test_worked_index_slip :
    (after (syncRise .c1 18190 (some 18000)) (tracking ⟨.locked, some ⟨10000, 300, 300⟩, 8190, 2, 0⟩ 18198)).ch1.tracker =
      ⟨.acquiring, some ⟨18190, 0, 0⟩, 8192, 0, 0⟩ := by decide +kernel

/-! ## The worked hot chain and TEND sequences (sections 4.9, 8.7) -/

/-- The two bursts of section 4.9: the writing one has 350 heat units, the second starts warm at 200,150. -/
def chain (ceiling : Nat) : State :=
  let p : Plan := { plan7 with sustain := 450, boost := 500, preheat := 300, bias := 120, lead := 500, coldLead := 600 }
  with0 (fun x => { x with
    wgate := true
    tracker := ⟨.locked, some ⟨199450, 10, 3022⟩, 8190, 2, 0⟩
    queue := [{ burst7 with tag := 30, plan := p, state := .writing, acc := 1433600,
                            gate := some ⟨197000, 0, none⟩ },
      { burst7 with tag := 31, plan := p, position := 24767424 }]
    seq := { x.seq with laser := .sustain, active := .front, committed := 500, phaseStart := 200000 } })
    { lab with now := 200000, heads := State.reset.heads.set 3 { head3 with bucket := 2000, ceiling := ceiling } }

/-- The estimate of tag 31 in this test is (300·500 + 500·400 + 450·2600 + 300·200)/4096 = 385, so 2,350 + 385 fits under
4,000 and not under 2,600. -/
theorem test_worked_handover :
    let t := after (.wgateFall .c0) (chain 4000)
    t.ch0.seq.laser = .hold ∧ t.heads[3].bucket = 2350 ∧ t.ch0.seq.committed = 500 ∧
      t.ch0.queue.map (fun b => (b.tag, b.state, b.hotChain)) = [(31, .ready, true)] := by decide +kernel
theorem test_worked_failed_handover :
    let t := after (.wgateFall .c0) (chain 2600)
    t.ch0.seq.laser = .tail ∧ t.heads[3].bucket = 2000 ∧
      t.ch0.queue.map (fun b => (b.tag, b.state, b.decidedBar)) =
        [(30, .cooling ⟨.written, .none⟩, none), (31, .queued, some .hot)] := by decide +kernel

/-- The timer of section 8.7 at an elapsed time in ms: period 20, OPEN_75. -/
def timer (ms : Nat) (ptr : Phase) : State :=
  { lab with now := ms * 500000, safety := ⟨.running, ptr, 0, 20, .open75⟩ }

theorem test_worked_tend :
    (after (.tend 1 (.fits 0)) (timer 6 .a)).safety = ⟨.running, .b, 0, 20, .open75⟩ ∧
      (after (.tend 1 (.fits 1)) (timer 7 .b)).safety = ⟨.running, .a, 3500000, 20, .open75⟩ ∧
      (after (.tend 1 (.fits 0)) (timer 3 .b)).safety = ⟨.running, .a, 0, 20, .open75⟩ ∧
      (after (.tend 1 (.fits 1)) (timer 4 .b)).safe = some .earlyTend := by decide +kernel

/-- R153: a period of 8 ms has the effective window OPEN_100, and one of 10 ms OPEN_50. -/
theorem test_effective_window : effectiveWindow 8 .open50 = .open100 ∧ effectiveWindow 10 .open50 = .open50 ∧
    closedPart 20 .open75 = 2500000 := by decide

/-- R147: 10 with a leak of 20 falls to 0. -/
theorem test_leak : (Head.leaked { head3 with bucket := 10, leak := 20 }).bucket = 0 ∧
    (Head.leaked { head3 with bucket := 100, leak := 6 }).bucket = 94 := by decide

/-! ## Witnesses: the step and the laws -/

theorem witness_StepTakesTheFrontCommand :
    ({ lab with pending := [.ident 1 (.fits ()), .leakInstant] } : State).pending = [.ident 1 (.fits ()), .leakInstant] := rfl

/-- Nothing due, held, and an arming due. -/
theorem witness_EmptyQueueLetsTimePass :
    (offline.pending = [] ∧ dueEvents { offline with now := 108543 } = [] ∧ offline.held = false) ∧
      ({ lab with held := true } : State).held = true ∧ (lab.pending = [] ∧ dueEvents lab = [.arming .c0]) := by
  decide +kernel

/-- The part while tag 7 is WRITING, with a command that waits: it meets every law, and a step answers. -/
def writing : State :=
  { with0 (fun x => { x with wgate := true }) (lit .sustain .writing 109852 110000) with pending := [.wgateFall .c0] }

theorem writing_steps : ∃ t, step writing = .next t := ⟨_, rfl⟩

theorem witness_StepKeepsTheVetoRule : OutputLaw writing ∧ runsBurst writing.ch0 writing.ch0.queue[0] :=
  ⟨⟨by decide +kernel, by decide +kernel⟩, .inl ⟨rfl, rfl⟩⟩

/-- Tag 7 lit in the laser state `l`, with a derate factor or none. -/
def litDerated (l : LaserState) (st : BurstState) (d : Option Nat) : State :=
  with0 (fun x => { x with queue := x.queue.map fun b => { b with derate := d } }) (lit l st 109852 110000)

/-- The drive lane of channel 0 after an event that is none of its own. -/
def laneAfter (s : State) : Lane := (after (.boostEnd .c1) s).ch0.seq.lane

theorem witness_StepKeepsTheQueueLaw : QueueLaw writing where
  capacity c := by cases c <;> decide +kernel
  spaced c := by
    cases c
    · exact ⟨List.pairwise_singleton _ _, List.isChain_singleton _⟩
    · exact ⟨List.Pairwise.nil, List.isChain_nil⟩
  unsynced c := by cases c <;> decide +kernel

theorem witness_StepKeepsTagsDistinctAndNoticesBounded : TagLaw writing ∧ NoticeLaw writing := by
  have h : ((writing.ch0.queue ++ writing.ch1.queue).map Burst.tag) = [7] := by decide +kernel
  have n : writing.link.notices.length ≤ 32 := by decide +kernel
  exact ⟨by unfold TagLaw; rw [h]; decide, n⟩

theorem witness_StepKeepsThePhaseTable : PhaseLaw writing ∧ CommitLaw writing ∧ HomeLaw writing ∧
    UnlitLaw writing := by
  refine ⟨fun c => ?_, fun c => ?_, fun c => ?_, fun c => by cases c <;> decide +kernel⟩
  · cases c
    · exact ⟨⟨_, rfl, rfl⟩, by decide +kernel⟩
    · exact ⟨⟨rfl, by decide +kernel⟩, by decide +kernel⟩
  · cases c
    · exact ⟨by decide +kernel, by decide +kernel, fun _ => ⟨_, rfl, by decide +kernel, by decide +kernel⟩⟩
    · exact ⟨by decide +kernel, by decide +kernel, fun h => absurd h (by decide +kernel)⟩
  · cases c
    · exact ⟨by decide +kernel, fun _ h => by cases h⟩
    · exact ⟨by decide +kernel, fun _ h => by cases h⟩

theorem writing_timer : TimerLaw writing := by constructor <;> decide +kernel

/-- The laws while tag 7 is written, and a part in Safe Dark that a RESUME, alone, in a train or waiting, and a reset take out of
it. -/
theorem witness_StepKeepsTheDarkAndTimerLaws : (DarkLaw writing ∧ TimerLaw writing) ∧
    (let s := after .supfltFall (after .supfltRise lab)
     s.safe ≠ none ∧ s.supflt = false ∧ (after (.resume 1 (.fits ())) s).safe = none ∧
       (after (.frameArrival (trainAt 107000 (frameWire ⟨0x2A, 5, []⟩))) s).safe = none ∧
       (after .coldResetAct { s with held := true }).safe = none) :=
  ⟨⟨fun c => by cases c <;> decide +kernel, writing_timer⟩, by decide +kernel⟩

/-- The supply law while tag 7 commits 470 and nothing, or 400, is pending. -/
theorem witness_StepKeepsTheSupplyLaw :
    (let s := { writing with supply := ⟨800, some 400⟩ }
     SupplyLaw s ∧ PlaceLaw s ∧ s.supply.pending ≠ none ∧ (after (.wgateFall .c0) s).supply.pending ≠ none) ∧
    SupplyLaw writing := by
  refine ⟨⟨⟨by decide +kernel, fun p h => ?_, fun c => by cases c <;> decide +kernel⟩, ?_, ?_⟩,
    by decide +kernel, fun p h => ?_, fun c => by cases c <;> decide +kernel⟩
  · cases Option.some.inj h
    decide +kernel
  · exact fun h => absurd rfl h
  · decide +kernel
  · have : writing.supply.pending = none := by decide +kernel
    rw [this] at h
    cases h

theorem witness_StepKeepsTheHeadRanges : HeadLaw writing := fun h => by constructor <;> revert h <;> decide +kernel

/-! ## Witnesses: the link -/

theorem lab_idle : LinkIdle lab := linkIdle_of (by decide +kernel)
theorem lab_driven : driveOutputs lab = lab := by decide +kernel
theorem offline_idle : LinkIdle offline := linkIdle_of (by decide +kernel)
theorem offline_driven : driveOutputs offline = offline := by decide +kernel

/-- The longest payload, 248 bytes, is met too. -/
theorem witness_FrameIsReceivedAsItsRequest :
    (⟨0x55, 1, List.replicate 248 0⟩ : Frame).payload.length ≤ 248 ∧ lab.held = false ∧ lab.link.rx = .hunting ∧
      (lab.lineEpoch : Int) ≤ -50 + 50 := by
  decide +kernel

/-- R165, R168: a character of 50 ticks that began 20 ticks before the reset ends at 30, and the gap of 1,000 ticks after it
ends at 1,030; one that ended before the reset leaves nothing. -/
theorem test_characters_across_a_reset :
    (let s := { State.reset with now := 3000 }
     (after (.frameArrival [goodChar (-20) 0xA6, goodChar 1030 2]) s).link.rx = .assembling [2] ∧
       (after (.frameArrival [goodChar (-20) 0xA6, goodChar 1031 2]) s).link.rx = .hunting ∧
       (after (.frameArrival [goodChar (-51) 0xA6]) s) = s) := by decide +kernel

/-- A STATUS frame sent back to back is served. -/
theorem test_frame_is_served :
    ((after (.frameArrival (trainAt 108000 (frameWire ⟨0x02, 5, []⟩))) lab).link.served) =
      some ⟨.status 5 (.fits ()), .replied⟩ ∨
    ((after (.frameArrival (trainAt 108000 (frameWire ⟨0x02, 5, []⟩))) lab).link.tx.map fun x => x.frame.kind) =
      some 0x82 := by decide +kernel

/-- A CHANNEL_OFFLINE with a STATUS behind it in one train: each is an event of its own, so STATUS reports the veto asserted
(R91, R177). -/
theorem test_trained_frames_are_events :
    (after (.frameArrival (trainAt 107000 (frameWire ⟨0x0A, 5, [0]⟩) ++ trainAt 108000 (frameWire ⟨0x02, 6, []⟩)))
      lab).link.replies.map (fun q => (q.kind, q.reply.payload[13]?)) = [(0x82, some 1)] := by decide +kernel

/-- R165: 0xA6 as its start bit, its bits from the least significant, and its stop bit. -/
theorem test_pltx_of_a_start_byte :
    (List.range 10).map (fun k => pltx { idleLink with tx := some ⟨⟨0x82, 5, []⟩, 1300, none⟩ } (1000 + 5 * k + 4)) =
      [false, false, true, true, false, false, true, false, true, true] := by decide +kernel

/-- The first byte of a frame of 6 characters, and its last. -/
theorem witness_PltxCarriesTheFrame : lab.link.tx = none ∧
    (1300 : Nat) = 1000 + 50 * ((⟨0x82, 5, []⟩ : Frame).payload.length + 6) ∧
    (frameWire ⟨0x82, 5, []⟩)[0]? = some 0xA6 ∧ ((frameWire ⟨0x82, 5, []⟩)[5]?).isSome = true := by decide +kernel

theorem witness_PartialAndBadFramesAreDiscarded :
    ((busyUntil 200000 lab).held = false ∧ (busyUntil 200000 lab).link.tx ≠ none ∧
      driveOutputs (busyUntil 200000 lab) = busyUntil 200000 lab ∧ (busyUntil 200000 lab).link.rx = .hunting) ∧
    crc (frameBody ⟨0x02, 5, []⟩) ≠ 0x00#8 ++ 0x00#8 ∧
    (let s := { busyUntil 200000 lab with link := { (busyUntil 200000 lab).link with rx := .assembling [2], rxEnd := 107941 } }
     s.held = false ∧ s.link.tx ≠ none ∧ driveOutputs s = s ∧ s.link.rx = .assembling [2] ∧ s.link.rxEnd + 1000 < s.now ∧
       { s with now := 108941 }.now ≤ s.link.rxEnd + 1000 ∧ s.link.rxEnd + 1000 < (goodChar 108942 0).start ∧
       (s.lineEpoch : Int) ≤ (goodChar 108941 0).start + 50 ∧
       (goodChar 108941 0).start ≤ s.link.rxEnd + 1000 ∧ ([2].length ≠ (2#8).toNat + 2) ∧
       (after (.frameArrival [goodChar 108941 0]) s).link.rx = .assembling [2, 0] ∧
       (after (.frameArrival [goodChar 108942 0]) s).link.rx = .hunting) ∧
    ((lab.lineEpoch : Int) ≤ -50 + 50 ∧ (goodChar (-51) 0).start + 50 < (lab.lineEpoch : Int)) ∧
    ((1#8).toNat < 2 ∧ 250 < (251#8).toNat) ∧ (charStop (badChar 5 0xA6) = false ∧ charData (goodChar 5 0xA5) ≠ 0xA6 ∧
      charStop (goodChar 5 0xA6) = true ∧ charData (goodChar 5 0xA6) = 0xA6) := by decide +kernel

theorem witness_MalformedRequestsAreRefused :
    (LinkIdle lab ∧ driveOutputs lab = lab) ∧ Instr.plan 1 .unfit ∈ unfitRequests 1 ∧
      (after (.plan 1 .unfit) lab).link.tx.map (fun x => x.frame) = some ⟨0xA0, 1, [0x11]⟩ :=
  ⟨⟨lab_idle, lab_driven⟩, by decide, by decide +kernel⟩

/-- A state whose transmitter is busy and whose served place is taken. -/
def served (v : Service) (w : Option Instr) (busy : Nat) : State :=
  { busyUntil 200000 lab with
    link := { (busyUntil 200000 lab).link with
      served := some ⟨.status 1 (.fits ()), v⟩, waiting := w
      replies := List.replicate busy ⟨.busy, 0x81, 2, .code .busy⟩ } }

/-- The four clauses: a free waiting place; both taken with 3 and with 4 BUSY replies; a RESET that waits to act. -/
theorem witness_ArrivalTakesAPlace :
    (let s := served .replied none 0
     s.held = false ∧ s.link.tx ≠ none ∧ driveOutputs s = s ∧ s.link.served ≠ none ∧ s.link.resetting = false ∧
       s.link.waiting = none) ∧
    (let s := served .replied (some (.ident 3 (.fits ()))) 3
     s.held = false ∧ s.link.tx ≠ none ∧ driveOutputs s = s ∧ s.link.served ≠ none ∧ s.link.resetting = false ∧
       s.link.waiting ≠ none ∧ (s.link.replies.countP fun q => q.role == .busy) < 4) ∧
    (let s := served .replied (some (.ident 3 (.fits ()))) 4
     s.held = false ∧ s.link.tx ≠ none ∧ driveOutputs s = s ∧ s.link.served ≠ none ∧ s.link.resetting = false ∧
       s.link.waiting ≠ none ∧ 4 ≤ (s.link.replies.countP fun q => q.role == .busy)) ∧
    (let s := served (.resetting .run) none 0
     s.held = false ∧ s.link.tx ≠ none ∧ driveOutputs s = s ∧ s.link.served ≠ none ∧ s.link.resetting = true) ∧
    (let s := { served (.planning [] []) (some (.ident 3 (.fits ()))) 0 with link := { (served (.planning [] []) (some (.ident 3 (.fits ()))) 0).link with tx := none } }
     s.held = false ∧ driveOutputs s = s ∧ s.link.tx = none ∧ s.link.replies = [] ∧ s.link.resetting = false ∧
       (after (requestOf ⟨0x02, 6, []⟩) s).link.tx.map (fun x => x.frame) = some ⟨0x82, 6, [0x13]⟩) := by
  decide +kernel

/-- A request that arrives while a notice is sent and no other is in service: a STATUS, a RESET and a PLAN. -/
theorem witness_ArrivalTakesAPlace_sending :
    (let s := busyUntil 200000 lab
     s.held = false ∧ s.link.tx ≠ none ∧ s.link.served = none ∧ s.link.waiting = none) ∧
    requestOf ⟨0x03, 6, [0]⟩ = .resetFull 6 .fits ∧
    (after (requestOf ⟨0x03, 6, [0]⟩) (busyUntil 200000 lab)).link.served = some ⟨.resetFull 6 .fits, .resetting .full⟩ ∧
    (after (.plan 7 (.fits [someEntry])) (busyUntil 200000 lab)).link.served =
      some ⟨.plan 7 (.fits [someEntry]), .planning [someEntry] []⟩ ∧
    (after (requestOf ⟨0x02, 6, []⟩) (busyUntil 200000 lab)).link.replies.map (fun q => (q.kind, q.tag)) = [(0x82, 6)] := by
  decide +kernel

/-- The transmitter at the end of a frame, with what waits. -/
def ending (replies : List QueuedReply) (notices : List QueuedNotice) (acts : Option Scope) : State :=
  { lab with link := { lab.link with
      tx := some ⟨⟨0x81, 1, []⟩, 108942, acts⟩, served := some ⟨.ident 1 (.fits ()), .replied⟩
      replies := replies, notices := notices } }

theorem witness_TransmitEndSendsWhatWaits :
    (let s := ending [⟨.busy, 0x82, 2, .code .busy⟩] [] none
     s.held = false ∧ driveOutputs s = s ∧ s.link.tx = some ⟨⟨0x81, 1, []⟩, 108942, none⟩ ∧ 108942 ≤ s.now ∧
       s.link.replies = [⟨.busy, 0x82, 2, .code .busy⟩]) ∧
    (let s := ending [⟨.served, 0x81, 2, .ident⟩] [] none
     s.held = false ∧ driveOutputs s = s ∧ s.link.replies = [⟨.served, 0x81, 2, .ident⟩] ∧
       s.link.served = some ⟨.ident 1 (.fits ()), .replied⟩ ∧ s.link.waiting = none) ∧
    (let e := ending [⟨.served, 0x81, 2, .ident⟩] [] none
     let s := { e with link := { e.link with waiting := some (requestOf ⟨0x02, 6, []⟩) } }
     s.held = false ∧ driveOutputs s = s ∧ s.link.waiting = some (requestOf ⟨0x02, 6, []⟩) ∧
       (after .transmitEnd s).link.replies.map QueuedReply.kind = [0x82]) ∧
    (let e := ending [⟨.served, 0x83, 2, .reset .run 1⟩] [] none
     let s := { e with link := { e.link with served := some ⟨.resetRun 2 .fits, .resetting .run⟩ } }
     s.held = false ∧ driveOutputs s = s ∧ s.link.served = some ⟨.resetRun 2 .fits, .resetting .run⟩ ∧
       (after .transmitEnd s).link.tx.map (fun x => x.acts) = some (some .run)) ∧
    (let s := ending [] [⟨false, .safetyWarning 8 .open100 .a⟩] none
     s.held = false ∧ driveOutputs s = s ∧ s.link.replies = [] ∧ s.link.notices ≠ []) ∧
    (let s := ending [] [] none
     s.held = false ∧ driveOutputs s = s ∧ s.link.replies = [] ∧ s.link.notices = []) := by decide +kernel

theorem witness_ResetActsAtTheEndOfItsReply :
    (let s := ending [] [] (some .full)
     s.held = false ∧ s.link.tx = some ⟨⟨0x81, 1, []⟩, 108942, some .full⟩ ∧ 108942 ≤ s.now ∧ s.supflt = false ∧
       (after .transmitEnd s).now = 0) ∧
    (let s := ending [] [] (some .run)
     s.held = false ∧ s.link.tx = some ⟨⟨0x81, 1, []⟩, 108942, some .run⟩ ∧ s.supflt = false ∧
       (after .transmitEnd s).ch0.queue = [] ∧ (after .transmitEnd s).heads[3].ith25 = 250) ∧
    (let s := { ending [] [] (some .run) with supflt := true }
     s.held = false ∧ s.link.tx = some ⟨⟨0x81, 1, []⟩, 108942, some .run⟩ ∧ s.supflt = true) := by decide +kernel

/-- RSTN low for 500 ticks and for 499, and a rise after each; a held part with the supply fault line low and high. -/
theorem witness_ColdResetHoldsThenActs :
    (lab.held = false ∧ 108442 + 500 ≤ lab.now) ∧ lab.now < 108443 + 500 ∧
      (({ lab with held := true } : State).held = true ∧ ({ lab with held := true } : State).supflt = false) ∧
      ({ lab with held := true, supflt := true } : State).supflt = true ∧
      (after (.coldResetBegin 108442) lab).held = true ∧ (after (.coldResetBegin 108443) lab).held = false ∧
      (after (.guardAssertion .c0 108900) { lab with held := true }).ch0.guardLine = ⟨true, 0, false⟩ ∧
      (after (.syncRecognition .c0 [⟨true, 1⟩] [⟨true, 2⟩, ⟨false, 3⟩]) { lab with held := true }).ch0.syncLine =
        ⟨true, 108300, false⟩ ∧
      (after (.coldResetBegin 108443) lab).rstn = ⟨true, 108443⟩ ∧
      (after .coldResetAct (after (.coldResetBegin 108443) lab)).rstn = ⟨false, 108942⟩ ∧
      dueEvents { after (.coldResetBegin 108443) offline with now := 108943 } = [.coldResetBegin 108443] ∧
      (after .coldResetAct { after (.coldResetBegin 108443) lab with now := 108943 }).now = 0 ∧
      (after (.coldResetBegin 108943) lab).rstn = ⟨false, 0⟩ := by
  decide +kernel

/-- RSTN falls 300 ticks before a FULL reset acts: the cold reset begins 200 ticks after that act (R180). -/
theorem test_rstn_across_full_reset :
    (let s := after .transmitEnd (after (.coldResetBegin 108642) (ending [] [] (some .full)))
     s.now = 0 ∧ s.rstn = ⟨true, -300⟩ ∧ dueEvents { s with now := 199 } = [] ∧
       dueEvents { s with now := 200 } = [.coldResetBegin (-300)] ∧
       (after (.coldResetBegin (-300)) { s with now := 200 }).held = true) := by decide +kernel

/-! ## Witnesses: requests on an idle link. `lab` meets the hypotheses on the state -/

theorem witness_IdentAnswersTheIdentity : (LinkIdle lab ∧ driveOutputs lab = lab) ∧
    (after (.ident 9 (.fits ())) lab).link.tx.map (fun x => x.frame.payload.length) = some 13 :=
  ⟨⟨lab_idle, lab_driven⟩, by decide +kernel⟩

/-- Indices at the edge of each table. -/
theorem witness_ReadsAnswerAndChangeNothing : (LinkIdle lab ∧ driveOutputs lab = lab) ∧
    (23#8).toNat = (23 : Fin 24).val ∧ 24 ≤ (24#8).toNat ∧ (15#8).toNat = (15 : Fin 16).val ∧ 16 ≤ (16#8).toNat ∧
    (63#8).toNat = (63 : Fin 64).val ∧ 64 ≤ (64#8).toNat :=
  ⟨⟨lab_idle, lab_driven⟩, by decide⟩

theorem witness_CountersReadAndClear : (LinkIdle lab ∧ driveOutputs lab = lab) ∧
    (16 < (15#8).toNat + (2#8).toNat ∧ (0#8).toNat = 0 ∧ 2 ≤ (2#8).toNat) ∧
    ((1#8).toNat ≤ 1 ∧ (15#8).toNat ≤ 15 ∧ 1 ≤ (1#8).toNat ∧ (15#8).toNat + (1#8).toNat ≤ 16) ∧
    (after (.counters 1 (.fits ⟨15, 1, 1⟩)) { lab with counters := Vector.replicate 16 5 }).counters[15] = 0 ∧
    (after (.counters 1 (.fits ⟨15, 1, 1⟩)) { lab with counters := Vector.replicate 16 5 }).counters[14] = 5 :=
  ⟨⟨lab_idle, lab_driven⟩, by decide, by decide, by decide +kernel, by decide +kernel⟩

theorem witness_ProfileSetWritesTheProfile : (LinkIdle lab ∧ driveOutputs lab = lab) ∧ 16 ≤ (16#8).toNat ∧
    (15#8).toNat = (15 : Fin 16).val ∧
    (after (.profileSet 1 (.fits ⟨15, 1, 2, 5000, 17, 4095, 4096⟩)) lab).profiles[15] = ⟨1, 2, 4095, 16, 4095, 4095⟩ :=
  ⟨⟨lab_idle, lab_driven⟩, by decide, by decide, by decide +kernel⟩

/-- R119's example: low 2,000,000 clamps to 1,048,575. -/
theorem witness_RangeSetWritesTheCheckers : (LinkIdle lab ∧ driveOutputs lab = lab) ∧
    (([] : List RangeWrite).length = 0 ∧ 8 < (List.replicate 9 (⟨0, 0, 0, 0⟩ : RangeWrite)).length) ∧
    (∃ w ∈ [(⟨8, 0, 0, 0⟩ : RangeWrite)], 8 ≤ w.index.toNat ∨ 3 ≤ w.field.toNat) ∧
    (∀ w ∈ [(⟨7, 2, 2000000, 50⟩ : RangeWrite)], w.index.toNat < 8 ∧ w.field.toNat < 3) ∧
    (after (.rangeSet 1 (.fits [⟨7, 2, 2000000, 50⟩])) lab).checkers[7] = ⟨.offset, 1048575, 50⟩ :=
  ⟨⟨lab_idle, lab_driven⟩, by decide, by decide, by decide, by decide +kernel⟩

theorem witness_RuleSetWritesTheEntry : (LinkIdle lab ∧ driveOutputs lab = lab) ∧ 64 ≤ (64#8).toNat ∧
    (((63#8).toNat = (63 : Fin 64).val ∧ (15#8).toNat < 16) ∧ ChanMatch.any.code = 2 ∧ counterCode none = 0xFF ∧
      Policy.accept.code = 1) ∧
    (after (.ruleSet 1 (.fits ⟨63, 3, 0, 0, 0, 15, 2, 0, 0, 0xFF, 16, 1, 0, 0⟩)) lab).rules[63].action =
      .select 15 .accept ∧
    (after (.ruleSet 1 (.fits ⟨63, 3, 1, 0, 0, 15, 2, 0, 0, 0xFF, 16, 1, 0x80, 600⟩)) lab).rules[63].action =
      .trim (-64) 511 :=
  ⟨⟨lab_idle, lab_driven⟩, by decide, by decide, by decide +kernel, by decide +kernel⟩

theorem witness_ResetRequestBuildsItsReply : (LinkIdle lab ∧ driveOutputs lab = lab) ∧ 2 ≤ (2#8).toNat ∧
    (after (.resetRun 40 .fits) lab).link.tx.map (fun x => (x.frame.payload, x.acts)) = some ([0, 1, 1], some .run) :=
  ⟨⟨lab_idle, lab_driven⟩, by decide, by decide +kernel⟩

/-- A CHANNEL_SET for channel 0 with every enumerated field at its last value, a bias hold of 15 and a W of 1024. -/
def someChannelSet : ChannelSetFields :=
  ⟨0, 1024, 1023, 256, 3, 3, 3, 3, 0xFF, 64, 64, 256, 256, 64, 15, 1, 15, 1⟩

theorem witness_ChannelSetWritesTheConfiguration : (LinkIdle lab ∧ driveOutputs lab = lab) ∧
    (LinkIdle offline ∧ driveOutputs offline = offline) ∧ 2 ≤ (2#8).toNat ∧ someChannelSet.channel = chanCode .c0 ∧
    (lab.chan .c0).tracker.state ≠ .off ∧ (offline.chan .c0).tracker.state = .off ∧
    (someChannelSet.syncFilter.toNat < 4 ∧ someChannelSet.guardFilter.toNat < 4 ∧ someChannelSet.lightFilter.toNat < 4 ∧
      someChannelSet.policy.toNat < 2 ∧ someChannelSet.reportOk.toNat < 2 ∧ someChannelSet.counter = 0xFF) ∧
    4 ≤ { someChannelSet with syncFilter := 4 }.syncFilter.toNat ∧
    (after (.channelSet 1 (.fits someChannelSet)) offline).ch0.config =
      { coldConfig with
        w := 1023, pnom := 1024, syncFilter := .ticks128, guardFilter := .ticks128, lightFilter := .ticks128
        biasHold := 16, reportOk := true, profile := 15, policy := .accept } :=
  ⟨⟨lab_idle, lab_driven⟩, ⟨offline_idle, offline_driven⟩, by decide, by decide, by decide +kernel, by decide +kernel,
    by decide, by decide, by decide +kernel⟩

theorem witness_ChannelOnlineBeginsToAcquire : (LinkIdle lab ∧ driveOutputs lab = lab) ∧
    (LinkIdle offline ∧ driveOutputs offline = offline) ∧ 2 ≤ (2#8).toNat ∧ (0#8 = chanCode .c0) ∧
    (lab.chan .c0).tracker.state ≠ .off ∧ (offline.chan .c0).tracker.state = .off ∧
    (after (.channelOnline 1 (.fits 0)) offline).safety.state = .running :=
  ⟨⟨lab_idle, lab_driven⟩, ⟨offline_idle, offline_driven⟩, by decide, by decide, by decide +kernel, by decide +kernel,
    by decide +kernel⟩

theorem witness_ChannelOfflineFlushesTheChannel : (LinkIdle lab ∧ driveOutputs lab = lab) ∧ 2 ≤ (2#8).toNat ∧
    (0#8 = chanCode .c0 ∧ 1#8 = chanCode .c1) ∧ (lab.chan .c1).tracker.state = .off ∧
    (lab.chan .c0).tracker.state ≠ .off ∧
    (after (.channelOffline 1 (.fits 0)) lab).link.tx.map (fun x => x.frame.payload) = some [0, 1] ∧
    (after (.channelOffline 1 (.fits 0)) lab).safety.state = .stopped :=
  ⟨⟨lab_idle, lab_driven⟩, by decide, by decide, by decide +kernel, by decide +kernel, by decide +kernel, by decide +kernel⟩

/-- A limit at the committed sum of 150, and one just below it. -/
theorem witness_ConditionsSetTemperaturesAndSupply : LinkIdle lab ∧
    ((41 : Int) = max (-20) (min 100 (41#8).toInt) ∧ (-20 : Int) = max (-20) (min 100 (0x80#8).toInt)) ∧
    (after (.conditions 1 (.fits ⟨41, 0x80, 150⟩)) lab).supply = ⟨150, none⟩ ∧
    (after (.conditions 1 (.fits ⟨41, 0x80, 149⟩)) lab).supply = ⟨800, some 149⟩ ∧
    (after (.conditions 1 (.fits ⟨41, 0x80, 149⟩)) lab).ch1.temp = -20 :=
  ⟨lab_idle, by decide, by decide +kernel, by decide +kernel, by decide +kernel⟩

/-- The worked recalibration (after R115) but for its queue: strike limit 9 is written as 7, and the bias on head 3 ends. -/
def someHeadSet : HeadSetFields :=
  ⟨3, 0, 250, 12, 96, 640, 150, 180, 900, 0xFA, 0, 9, 5000, 6, 0⟩
def labFree : State := with0 (fun x => { x with queue := [], gate := none }) lab

/-- A detached tail of tag 7 on head 3 that has lit 1,000 heat units. -/
def labDetached : State := with0 (fun x => { x with
  seq := { x.seq with
    laser := .tail, active := .detached { burst7 with acc := 4096000 }, phaseEnd := some 109100, phaseStart := 108942 } })
  labFree

/-- The currents of sections 2.7 and 2.8, frozen and derated by 179, on the lane in every laser state (R67). -/
theorem witness_StepKeepsTheVetoRule_lanes :
    laneAfter offline = ⟨none, 0⟩ ∧ laneAfter lab = ⟨some 3, 150⟩ ∧
    laneAfter (litDerated .preheat .heating none) = ⟨some 3, 322⟩ ∧
    laneAfter (litDerated .hold .ready (some 179)) = ⟨some 3, 225⟩ ∧
    laneAfter (litDerated .boost .writing none) = ⟨some 3, 470⟩ ∧
    laneAfter (litDerated .boost .writing (some 179)) = ⟨some 3, 328⟩ ∧
    laneAfter (litDerated .sustain .writing none) = ⟨some 3, 430⟩ ∧
    laneAfter (litDerated .sustain .writing (some 179)) = ⟨some 3, 300⟩ ∧
    laneAfter (litDerated .tail (.cooling ⟨.written, .none⟩) none) = ⟨some 3, 322⟩ ∧
    laneAfter labDetached = ⟨some 3, 322⟩ := by decide +kernel

theorem witness_HeadSetWritesTheCalibration : (LinkIdle lab ∧ driveOutputs lab = lab) ∧
    (LinkIdle labFree ∧ driveOutputs labFree = labFree) ∧ (24 ≤ (24#8).toNat ∧ 2 ≤ (2#8).toNat) ∧
    (someHeadSet.head.toNat = (3 : Fin 24).val ∧ someHeadSet.channel = chanCode .c0) ∧ HoldsBurstOf lab 3 ∧
    (¬ HoldsBurstOf labFree 3 ∧ (labFree.chan .c0).seq.selected = some 3 ∧ (labFree.chan .c0).seq.laser = .bias) ∧
    (¬ HoldsBurstOf labFree 4 ∧ ∀ d : Chan, (labFree.chan d).seq.selected ≠ some 4) ∧
    (after (.headSet 1 (.fits someHeadSet)) labFree).heads[3].strikeLimit = 7 ∧
    (after (.headSet 1 (.fits someHeadSet)) labFree).ch0.seq.laser = .dark ∧
    (LinkIdle labDetached ∧ driveOutputs labDetached = labDetached ∧ labDetached.ch0.queue = [] ∧
      labDetached.ch0.seq.selected = some 3 ∧ (after (.headSet 1 (.fits someHeadSet)) labDetached).heads[3].bucket = 2000) := by
  have h3 : ¬ HoldsBurstOf labFree 3 := fun ⟨c, b, hb, _⟩ => by
    cases c <;> exact absurd hb (by have e : labFree.ch0.queue = [] ∧ labFree.ch1.queue = [] := by decide +kernel
                                    simp [State.chan, e])
  have h4 : ¬ HoldsBurstOf labFree 4 := fun ⟨c, b, hb, _⟩ => by
    cases c <;> exact absurd hb (by have e : labFree.ch0.queue = [] ∧ labFree.ch1.queue = [] := by decide +kernel
                                    simp [State.chan, e])
  refine ⟨⟨lab_idle, lab_driven⟩, ⟨linkIdle_of (by decide +kernel), by decide +kernel⟩, by decide, by decide,
    ⟨.c0, _, List.mem_cons_self, rfl⟩, ⟨h3, by decide +kernel, by decide +kernel⟩, ⟨h4, fun d => ?_⟩, by decide +kernel,
    by decide +kernel, linkIdle_of (by decide +kernel), by decide +kernel⟩
  cases d <;> decide +kernel

/-- The lab with head 3 in another state. -/
def labHead (st : HeadState) : State := { labFree with heads := labFree.heads.set 3 { head3 with state := st, strikes := 2 } }

theorem witness_UnparkAndClearFaultReturnToReady :
    (LinkIdle (labHead .parked) ∧ driveOutputs (labHead .parked) = labHead .parked) ∧
    (LinkIdle (labHead (.fault .dropout)) ∧ driveOutputs (labHead (.fault .dropout)) = labHead (.fault .dropout)) ∧
    24 ≤ (24#8).toNat ∧ (3#8).toNat = (3 : Fin 24).val ∧ (labHead .parked).heads[3].state = .parked ∧
    (labHead (.fault .dropout)).heads[3].state = .fault .dropout ∧ lab.heads[3].state ≠ .parked ∧
    (after (.unpark 1 (.fits 3)) (labHead .parked)).heads[3].state = .ready ∧
    (after (.clearFault 1 (.fits 3)) (labHead (.fault .dropout))).heads[3].strikes = 0 :=
  ⟨⟨linkIdle_of (by decide +kernel), by decide +kernel⟩, ⟨linkIdle_of (by decide +kernel), by decide +kernel⟩,
    by decide, by decide, by decide +kernel, by decide +kernel, by decide +kernel, by decide +kernel, by decide +kernel⟩

theorem witness_RetireMakesAHeadAbsent : (LinkIdle lab ∧ driveOutputs lab = lab) ∧ (3#8).toNat = (3 : Fin 24).val ∧
    HoldsBurstOf lab 3 ∧ (labFree.ch0.queue = [] ∧ labFree.ch1.queue = []) ∧ LinkIdle labFree ∧
    (after (.retire 1 (.fits 3)) labFree).heads[3].state = .absent ∧
    (after (.retire 1 (.fits 3)) labFree).ch0.seq.laser = .dark ∧ 24 ≤ (24#8).toNat ∧
    (after (.retire 1 (.fits 3)) labDetached).heads[3].lifetime = 1000 :=
  ⟨⟨lab_idle, lab_driven⟩, by decide, ⟨.c0, _, List.mem_cons_self, rfl⟩, by decide +kernel,
    linkIdle_of (by decide +kernel), by decide +kernel, by decide +kernel, by decide, by decide +kernel⟩

theorem witness_ParkFlushesTheWaitingBursts : (LinkIdle lab ∧ driveOutputs lab = lab) ∧ (3#8).toNat = (3 : Fin 24).val ∧
    (4#8).toNat = (4 : Fin 24).val ∧ lab.heads[3].state = .ready ∧ lab.heads[4].state ≠ .ready ∧
    (after (.park 1 (.fits 3)) lab).ch0.queue = [] ∧
    (after (.park 1 (.fits 3)) lab).link.tx.map (fun x => x.frame.payload) = some [0, 2, 1] ∧ 24 ≤ (24#8).toNat ∧
    (let s := with0 (fun x => { x with
        queue := x.queue ++ [burst8], seq := { x.seq with phaseEnd := some 109100 } }) (lit .tail (.barred .guard) 108900 108942)
     s.ch0.seq.laser = .tail ∧ s.ch0.seq.phaseStart < 109100 ∧ burst8.state = .queued ∧ burst8.decidedBar = none ∧
       (after (.park 1 (.fits 3)) s).ch0.queue = [burst8] ∧ (after (.park 1 (.fits 3)) s).ch0.seq.laser = .tail ∧
       (after (.park 1 (.fits 3)) s).heads[3].bucket = 1000) :=
  ⟨⟨lab_idle, lab_driven⟩, by decide, by decide, by decide +kernel, by decide +kernel, by decide +kernel,
    by decide +kernel, by decide, by decide +kernel⟩

/-! ## Witnesses: planning -/

/-- The lab with an empty queue and the worked admission's entry 1, which its channel can take (section 1.7). -/
def planning (left : List PlanEntry) : State :=
  { labFree with link := { labFree.link with served := some ⟨.plan 11 (.fits left), .planning left []⟩ } }

/-- Wedge 40 of the next revolution, far enough ahead. -/
def goodEntry : PlanEntry := ⟨8, 3, 40, 0, 1200, 3000, 100, 0⟩

theorem witness_PlanIsJudgedEntryByEntry : (LinkIdle lab ∧ driveOutputs lab = lab) ∧
    (4 < (List.replicate 5 goodEntry).length ∧ [goodEntry].length ≤ 4) ∧
    (let s := busyUntil 200000 (planning [goodEntry, someEntry])
     s.held = false ∧ s.link.tx ≠ none ∧
       s.link.served = some ⟨.plan 11 (.fits [goodEntry, someEntry]), .planning [goodEntry, someEntry] []⟩) ∧
    (let s := planning [goodEntry]
     s.held = false ∧ s.link.served = some ⟨.plan 11 (.fits [goodEntry]), .planning [goodEntry] []⟩ ∧
       s.link.waiting = none ∧ s.link.replies = [] ∧ s.link.tx = none ∧
       (after .planEntry s).link.tx.map (fun x => x.frame) = some ⟨0xA0, 11, [0, 1, 0]⟩) ∧
    (let s := busyUntil 200000 (planning [goodEntry])
     s.link.tx ≠ none ∧ (after .planEntry s).link.replies.map (fun q => q.reply.payload) = [[0, 1, 0]]) ∧
    (let p := planning [goodEntry]
     let s := { p with link := { p.link with waiting := some (requestOf ⟨0x02, 6, []⟩) } }
     s.link.tx = none ∧ s.link.replies = [] ∧ (after .planEntry s).link.replies.map QueuedReply.kind = [0x82]) ∧
    (let s := busyUntil 200000 lab
     s.held = false ∧ s.link.served = none ∧ s.link.tx ≠ none ∧ driveOutputs s = s) :=
  ⟨⟨lab_idle, lab_driven⟩, by decide, by decide +kernel, by decide +kernel, by decide +kernel, by decide +kernel,
    by decide +kernel⟩

theorem labFree_queueLaw : QueueLaw labFree where
  capacity c := by cases c <;> decide +kernel
  spaced c := by cases c <;> exact ⟨List.Pairwise.nil, List.isChain_nil⟩
  unsynced c := by cases c <;> decide +kernel

theorem lab_queueLaw : QueueLaw lab where
  capacity c := by cases c <;> decide +kernel
  spaced c := by
    cases c
    · exact ⟨List.pairwise_singleton _ _, List.isChain_singleton _⟩
    · exact ⟨List.Pairwise.nil, List.isChain_nil⟩
  unsynced c := by cases c <;> decide +kernel

/-- Each check refuses its entry: the worked admission's OVERLAP and DUPLICATE_TAG among them. -/
theorem witness_PlanEntryChecksInOrder : QueueLaw lab ∧ QueueLaw labFree ∧
    (judgeEntry goodEntry { labFree with safe := some .supply }).2 = .safeDark ∧
    (judgeEntry { goodEntry with length := 15 } labFree).2 = .fieldRange ∧
    (judgeEntry { goodEntry with wedge := 512 } labFree).2 = .fieldRange ∧
    (judgeEntry { goodEntry with head := 4 } labFree).2 = .headUnavailable ∧
    (judgeEntry goodEntry { offline with heads := lab.heads }).2 = .noSync ∧
    (judgeEntry { goodEntry with tag := 7 } lab).2 = .duplicateTag ∧
    (judgeEntry goodEntry (with0 (fun x => { x with
      queue := (List.range 20).map fun k => { burst7 with tag := BitVec.ofNat 16 (100 + k), position := k * 4000 } })
      labFree)).2 = .queueFull ∧
    (judgeEntry { goodEntry with wedge := 10, offset := 4000 } (with0 (fun x => { x with
      tracker := { x.tracker with anchor := some ⟨108230, 9, 3021⟩ } }) lab)).2 = .overlap ∧
    (judgeEntry goodEntry { labFree with profiles := State.reset.profiles }).2 = .underdrive ∧
    (judgeEntry { goodEntry with wedge := 11, offset := 0 } { labFree with now := 116000 }).2 = .tooLate :=
  ⟨lab_queueLaw, labFree_queueLaw, by decide +kernel⟩

theorem witness_PlanEntryAdmits : QueueLaw labFree ∧
    (let e := goodEntry
     let s := labFree
     let x := s.chan .c0
     let k := classify s 3 .c0 .data 100 1200
     let p := computePlan s.heads[3] s.profiles[k.profile] x.temp k.dP k.dL k.selectRule k.trimRule k.policy
     s.safe = none ∧ e.head.toNat = (3 : Fin 24).val ∧ e.kind = WriteKind.data.byte ∧ s.heads[3].channel = .c0 ∧
       e.wedge.toNat < x.config.w ∧ e.offset.toNat < x.config.pnom ∧ s.heads[3].state = .ready ∧
       x.tracker.state = .locked ∧ x.tracker.anchor = some ⟨108230, 10, 3022⟩ ∧ x.queue = [] ∧ p.ith < p.sustain ∧
       targetAfter x.config.w ⟨108230, 10, 3022⟩ 40 0 = 3052 ∧
       (s.now : Int) + 512 ≤ (108230 : Int) + ((3052 : Int) - 3022) * (x.tracker.pest : Int) + 1200 - (p.coldLead : Int) ∧
       (judgeEntry e s).2 = .ok ∧ (judgeEntry e s).1.ch0.queue.map Burst.position = [3052 * 8192 + 1200]) :=
  ⟨labFree_queueLaw, by decide +kernel⟩

/-- A key with a SELECT rule at 1 behind an invalid one, and no TRIM rule. -/
theorem witness_ClassificationTakesTheFirstMatch :
    (classify { lab with
      rules := ((State.reset.rules.set 1 ⟨true, 0, 0, 15, .any, 0, 0, some 3, .select 2 .accept, false⟩).set 5
        ⟨true, 0, 0, 15, .any, 0, 0, none, .select 4 .veto, false⟩) } 3 .c0 .data 100 1200).selectRule = some 1 ∧
    (classify lab 3 .c0 .data 100 1200).selectRule = none := by decide +kernel

/-- Tag 7 HEATING, so that a CANCEL leaves a detached tail. -/
def heating7 : State := lit .preheat .heating 108942 109000

theorem heating7_phase : PhaseLaw heating7 := by
  intro c
  cases c
  · exact ⟨⟨_, rfl, rfl⟩, by decide +kernel⟩
  · exact ⟨⟨rfl, by decide +kernel⟩, by decide +kernel⟩

/-- Tag 7 QUEUED at the front, with tag 8 behind it. -/
def queuedPair : State := with0 (fun x => { x with queue := x.queue ++ [burst8] }) lab

/-- Tag 7 BARRED, with its tail running. -/
def barredTail : State :=
  with0 (fun x => { x with seq := { x.seq with phaseEnd := some 109500 } }) (lit .tail (.barred .guard) 109300 109400)

theorem queuedPair_phase : PhaseLaw queuedPair := by
  intro c
  cases c
  · exact ⟨⟨rfl, by decide +kernel⟩, by decide +kernel⟩
  · exact ⟨⟨rfl, by decide +kernel⟩, by decide +kernel⟩

theorem barredTail_phase : PhaseLaw barredTail := by
  intro c
  cases c
  · exact ⟨⟨_, rfl, .inr ⟨_, rfl⟩⟩, by decide +kernel⟩
  · exact ⟨⟨rfl, by decide +kernel⟩, by decide +kernel⟩

/-- The premises of an exact CANCEL by tag on channel 0: the front burst is reached, its tail runs on, and the burst behind it
waits in its turn. -/
def cancelsTheFront (tag : Byte) (s : State) : Prop :=
  LinkIdle s ∧ PhaseLaw s ∧ s.ch1.queue = [] ∧ tailRuns s.ch0 ∧
    (∃ b, s.ch0.queue.head? = some b ∧ (reaches ⟨0, tag.setWidth 16⟩ .c0 b && !runsOn b.state) = true ∧
      0 < b.plan.tailLen) ∧
    ∀ d ∈ (s.ch0.queue.tail).head?, d.state = .queued ∧ d.decidedBar = none

/-- A HEATING, a QUEUED and a BARRED front burst. -/
theorem witness_CancelRemovesByState :
    cancelsTheFront 7 heating7 ∧ cancelsTheFront 7 queuedPair ∧ cancelsTheFront 7 barredTail := by
  refine ⟨⟨?_, heating7_phase, ?_, ?_, ⟨_, rfl, ?_⟩, ?_⟩, ⟨?_, queuedPair_phase, ?_, ?_, ⟨_, rfl, ?_⟩, ?_⟩,
    ?_, barredTail_phase, ?_, fun _ e h => (Option.some.inj h) ▸ (by decide : 109300 < 109500), ⟨_, rfl, ?_⟩, ?_⟩
  all_goals first | exact linkIdle_of (by decide +kernel) | decide +kernel | exact fun h => nomatch h

/-- No front burst reached, one with no tail of its own, and selectors and values at their ends. -/
theorem witness_CancelRemovesByState_ends : (LinkIdle lab ∧ driveOutputs lab = lab) ∧
    (3 ≤ (3#8).toNat ∧ 2 ≤ (2#16).toNat ∧ 24 ≤ (24#16).toNat) ∧
    (∀ b ∈ lab.ch0.queue.head?, (reaches ⟨0, 8⟩ .c0 b && !runsOn b.state) = false) ∧
    PhaseLaw (with0 tailless heating7) ∧ ∃ b, (with0 tailless heating7).ch0.queue = [b] ∧
      reaches ⟨0, 7⟩ .c0 b = true ∧ b.state = .heating ∧ b.plan.tailLen = 0 := by
  refine ⟨⟨lab_idle, lab_driven⟩, by decide, by decide +kernel, fun c => ?_, _, rfl, by decide +kernel⟩
  cases c
  · exact ⟨⟨_, rfl, by decide +kernel⟩, by decide +kernel⟩
  · exact ⟨⟨rfl, by decide +kernel⟩, by decide +kernel⟩

/-- A burst with a decided bar that comes to the front of a lit channel of the worked burst, its window past. -/
def pastHot : Burst := { burst8 with decidedBar := some .hot, target := 3022, offset := 0 }

/-- The tail of no length ends and the burst behind completes, in a CANCEL and in a dropout that faults the head (R75). -/
theorem witness_closesOnEntry :
    closesOnEntry (lit .hold .ready 109430 109460).ch0 109460 pastHot .hot ∧
    (let s := with0 (fun x => { tailless x with queue := (tailless x).queue ++ [pastHot] }) (lit .hold .ready 109430 109460)
     ((s.ch0.queue ++ s.ch1.queue).map Burst.tag).Nodup ∧
       (after (.cancel 12 (.fits ⟨0, 7⟩)) s).ch0.queue = [] ∧ (after (.cancel 12 (.fits ⟨0, 7⟩)) s).ch0.seq.laser = .bias) ∧
    (let s := with0 (fun x => { tailless x with
        queue := (tailless x).queue ++ [pastHot], lightLine := ⟨true, 108990, true⟩ }) (lit .hold .ready 109430 109460)
     (after (.lightDeassertion .c0 109452) { s with heads := s.heads.set 3 { head3 with strikes := 2 } }).ch0.queue = []) := by
  refine ⟨⟨rfl, rfl, rfl, _, rfl, by decide +kernel⟩, by decide +kernel, by decide +kernel⟩

/-- A HEATING burst leaves a detached tail (R20, R93), over at once when Tt is 0 (R85), and an unknown tag is NOT_FOUND. -/
theorem test_cancel_lit :
    (after (.cancel 12 (.fits ⟨0, 7⟩)) heating7).ch0.queue = [] ∧
    (after (.cancel 12 (.fits ⟨0, 7⟩)) heating7).ch0.seq.phaseEnd = some 109200 ∧
    (after (.cancel 12 (.fits ⟨0, 7⟩)) (with0 tailless heating7)).ch0.seq.laser = .bias ∧
    (after (.cancel 12 (.fits ⟨0, 8⟩)) heating7).link.tx.map (fun x => x.frame.payload) = some [Code.notFound.byte, 0, 0] := by
  decide +kernel

/-- A QUEUED burst leaves the laser as it is, and the next one has its gate time; a BARRED burst's tail goes on (R20, R69). -/
theorem test_cancel_waiting :
    (after (.cancel 12 (.fits ⟨0, 7⟩)) queuedPair).ch0.queue.map Burst.tag = [8] ∧
    (after (.cancel 12 (.fits ⟨0, 7⟩)) queuedPair).ch0.gate = some ⟨108230 + 8185 + 1200, false, false⟩ ∧
    (after (.cancel 12 (.fits ⟨0, 7⟩)) queuedPair).ch0.seq = queuedPair.ch0.seq ∧
    barredTail.ch0.queue.head?.map Active.detached = some (after (.cancel 12 (.fits ⟨0, 7⟩)) barredTail).ch0.seq.active := by
  decide +kernel

/-! ## Witnesses: the Safety Timer and Safe Dark -/

/-- Periods at and past both ends. -/
theorem witness_SafetySetSetsTheTimer : (LinkIdle lab ∧ driveOutputs lab = lab) ∧ 3 ≤ (3#8).toNat ∧
    ((2#8) = Window.open50.code ∧ (2000 : Nat) = max 2 (min 2000 (2001#16).toNat)) ∧
    (after (.safetySet 1 (.fits ⟨2001, 2⟩)) lab).safety = ⟨.running, .a, 108942, 2000, .open50⟩ ∧
    (after (.safetySet 1 (.fits ⟨1, 0⟩)) offline).safety = ⟨.stopped, .a, 108942, 2, .open100⟩ :=
  ⟨⟨lab_idle, lab_driven⟩, by decide, by decide, by decide +kernel, by decide +kernel⟩

/-- The closed part of 20 ms under OPEN_75 ends at 2,500,000 ticks: its last tick is EARLY and the next is RESTARTED. -/
theorem witness_TendTakesThePhases : (LinkIdle (timer 4 .b) ∧ driveOutputs (timer 4 .b) = timer 4 .b) ∧
    (2 ≤ (2#8).toNat ∧ (1#8).toNat < 2 ∧ offline.safety.state = .stopped) ∧ (1#8 = Phase.b.code ∧ 0#8 = Phase.a.code) ∧
    ((timer 4 .b).safety.state ≠ .stopped ∧ (timer 4 .b).safe = none ∧ (timer 4 .b).safety.pointer = .b) ∧
    (after (.tend 1 (.fits 1)) { timer 0 .b with now := 2499999 }).safe = some .earlyTend ∧
    (after (.tend 1 (.fits 1)) { timer 0 .b with now := 2500000 }).safe = none :=
  ⟨⟨linkIdle_of (by decide +kernel), by decide +kernel⟩, by decide +kernel, by decide, by decide +kernel, by decide +kernel,
    by decide +kernel⟩

theorem witness_ResumeClearsSafeDark : (LinkIdle lab ∧ driveOutputs lab = lab ∧ lab.safe = none) ∧
    (let s := { labFree with safe := some .expiry, safety := coldSafety }
     LinkIdle s ∧ s.safe = some .expiry ∧ s.supflt = false ∧ (after (.resume 1 (.fits ())) s).safety.state = .running ∧
       (after (.resume 1 (.fits ())) s).safe = none) :=
  ⟨⟨lab_idle, lab_driven, by decide +kernel⟩, linkIdle_of (by decide +kernel), by decide +kernel, by decide +kernel,
    by decide +kernel, by decide +kernel⟩

/-- The worked expiry (section 8.7): period 8 with OPEN_50 warns, and expires into Safe Dark from WARNED; with 20 and OPEN_75
it does not warn. -/
theorem witness_SupplyFaultAndExpiryEnterSafeDark :
    (lab.held = false ∧ lab.supflt = false ∧ lab.safe = none ∧ (after .supfltRise lab).safe = some .supply) ∧
    (let s := { lab with now := 4000000, safety := ⟨.running, .b, 0, 8, .open50⟩ }
     s.safety.state = .running ∧ s.safety.period * 500000 ≤ s.now - s.safety.restartedAt ∧ s.safety.period ≤ 8 ∧
       (after .safetyExpiry s).safety = ⟨.warned, .a, 4000000, 8, .open50⟩) ∧
    (let s := { lab with now := 4000000, safety := ⟨.warned, .b, 0, 8, .open50⟩ }
     s.safety.state = .warned ∧ s.safe = none ∧ (after .safetyExpiry s).safe = some .expiry) ∧
    (let s := { lab with now := 10000000, safety := ⟨.running, .a, 0, 20, .open75⟩ }
     ¬ s.safety.period ≤ 8 ∧ s.safety.window ≠ .open100 ∧ (after .safetyExpiry s).safe = some .expiry) ∧
    (let s := { lab with now := 3999999, safety := ⟨.running, .b, 0, 8, .open50⟩ }
     s.now - s.safety.restartedAt < s.safety.period * 500000 ∧ (after .safetyExpiry s).safety = s.safety) := by
  decide +kernel

/-! ## Witnesses: the Wedge Tracker -/

/-- The window 7,936 to 8,448 of section 3.9: its two ends are inside, and one tick more is outside. -/
theorem witness_SyncAcquires :
    (let x := { coldChannel with syncLine := ⟨true, 9150, false⟩, indexPin := ⟨true, 9150⟩ }
     syncWaits x 9158 ∧ ¬ syncWaits x 9157 ∧ indexCarried x ∧ ¬ indexCarried { x with indexPin := ⟨true, 9151⟩ } ∧
       edgesWf [⟨true, 9150⟩, ⟨false, 9157⟩] = true) ∧
    (after (syncRise .c1 9150 (some 9150)) (tracking ⟨.acquiring, none, 8192, 0, 0⟩ 9158)).ch1.tracker =
      ⟨.acquiring, some ⟨9150, 0, 0⟩, 8192, 0, 0⟩ ∧
    (after (syncRise .c1 9150 (some 9151)) (tracking ⟨.acquiring, none, 8192, 0, 0⟩ 9158)).ch1.tracker.anchor =
      none ∧
    (after (syncRise .c1 7936 none) (tracking ⟨.acquiring, some ⟨0, 0, 0⟩, 8192, 0, 0⟩ 7944)).ch1.tracker =
      ⟨.acquiring, some ⟨7936, 1, 1⟩, 7936, 1, 0⟩ ∧
    (after (syncRise .c1 8448 none) (tracking ⟨.acquiring, some ⟨0, 1, 1⟩, 8192, 1, 0⟩ 8456)).ch1.tracker.state =
      .locked ∧
    (after (syncRise .c1 8449 none) (tracking ⟨.acquiring, some ⟨0, 1, 1⟩, 8190, 1, 0⟩ 8457)).ch1.tracker =
      ⟨.acquiring, none, 8192, 0, 0⟩ ∧
    (after (syncRise .c1 8000 (some 7000)) (tracking ⟨.acquiring, some ⟨0, 1, 1⟩, 8190, 1, 0⟩ 8008)).ch1.tracker =
      ⟨.acquiring, some ⟨8000, 0, 0⟩, 8190, 0, 0⟩ ∧
    (after (syncRise .c1 9150 (some 9150)) (tracking (offTracker 8192) 9158)).ch1.syncLine = ⟨true, 9158, true⟩ ∧
    (let s := after (syncRise .c1 9150 (some 9150)) (tracking ⟨.acquiring, none, 8192, 0, 0⟩ 9158)
     (after (syncRise .c1 9159 none) { s with now := 9170 }).ch1 = s.ch1) := by decide +kernel

/-- R49, R50: a pulse of 7 ticks is not recognised and one of 8 is, with INDEXn high throughout and with INDEXn low for a tick
within it; and a rise that the command does not see held is recognised by the part itself. -/
theorem test_sync_filter :
    (let s := tracking ⟨.acquiring, none, 8192, 0, 0⟩ 9170
     let pulse := fun n index => (after (.syncRecognition .c1 [⟨true, 9150⟩, ⟨false, 9150 + n⟩] index) s).ch1
     pulse 7 [⟨true, 9000⟩] = { s.ch1 with syncLine := ⟨false, 9157, false⟩, indexPin := ⟨true, 9000⟩ } ∧
       (pulse 8 [⟨true, 9000⟩]).tracker.anchor = some ⟨9150, 0, 0⟩ ∧
       (pulse 8 [⟨true, 9000⟩, ⟨false, 9152⟩, ⟨true, 9153⟩]).tracker.anchor = none ∧
       (pulse 8 [⟨true, 9000⟩, ⟨false, 9152⟩, ⟨true, 9153⟩]).syncLine = ⟨false, 9158, false⟩) ∧
    (let s := after (syncRise .c1 9150 (some 9000)) (tracking ⟨.acquiring, none, 8192, 0, 0⟩ 9151)
     s.ch1.tracker.anchor = none ∧ dueEvents { s with now := 9157, leaksTaken := 8 } = [] ∧
       dueEvents { s with now := 9158, leaksTaken := 8 } = [.syncRecognition .c1 [] []]) := by decide +kernel

/-- The lab one wedge before tag 7's target: its sync fixes the expected gate time (section 4.8). -/
def beforeTarget : State :=
  with0 (fun x => { x with
    tracker := ⟨.locked, some ⟨100000, 9, 3021⟩, 8190, 2, 0⟩, syncLine := ⟨false, 100100, false⟩
    gate := some ⟨109390, false, false⟩ })
    { lab with now := 108238 }

/-- The same with the front burst changed, no offset and no late window, so that its anchor closes its window at once. -/
def closing (l : LaserState) (a : Active) (st : BurstState) : State :=
  with0 (fun x => { x with
    config := { x.config with late := 0 }
    queue := x.queue.map fun b => { b with state := st, offset := 0 }
    seq := { x.seq with laser := l, active := a, light := .seen, phaseStart := 108200 } }) beforeTarget

theorem witness_SyncTracks :
    (beforeTarget.held = false ∧ beforeTarget.ch0.tracker.state = .locked ∧
      beforeTarget.ch0.tracker.anchor = some ⟨100000, 9, 3021⟩ ∧ beforeTarget.ch0.seq.laser = .bias ∧
      (∀ b ∈ beforeTarget.ch0.queue.head?, b.state = .queued)) ∧
    (after (syncRise .c0 108230 none) beforeTarget).ch0.gate = some ⟨109430, true, false⟩ ∧
    (after (syncRise .c0 108230 none) beforeTarget).ch0.seq.biasCount = 1 ∧
    (after (syncRise .c0 108230 (some 108000)) beforeTarget).ch0.queue = [] ∧
    (let x := (after (syncRise .c0 108447 none) { beforeTarget with now := 108455 }).ch0
     x.tracker.state = .locked ∧ x.tracker.anchor = some ⟨100000, 9, 3021⟩) ∧
    ((closing .hold .front .ready).ch0.queue.map (fun b => b.plan.tailLen) = [200] ∧
      (after (syncRise .c0 108230 none) (closing .hold .front .ready)).ch0.queue.map Burst.state =
        [.cooling ⟨.missed, .none⟩] ∧
      (after (syncRise .c0 108230 none) (with0 tailless (closing .hold .front .ready))).ch0.queue = []) ∧
    (let s := with0 (fun x => { x with seq := { x.seq with phaseEnd := some 108400 } }) (closing .tail .front (.barred .guard))
     s.ch0.seq.phaseStart < 108400 ∧
       (after (syncRise .c0 108230 none) s).ch0.queue.map Burst.barOver = [true] ∧
       (after (.missExpiry .c0) { s with now := 108455 }).ch0.queue.map Burst.barOver = [true]) ∧
    ((closing .bias .idle (.barred .hot)).ch0.queue.map (fun b => (b.gateVetoed, b.barOver)) = [(false, false)] ∧
      (after (syncRise .c0 108230 none) (closing .bias .idle (.barred .hot))).ch0.queue = []) := by decide +kernel

theorem witness_MissExpiryCoastsOrLosesLock :
    (let s := tracking ⟨.coasting, some ⟨41900, 4, 4⟩, 8187, 2, 3⟩ 50352
     s.held = false ∧ s.ch1.tracker.anchor = some ⟨41900, 4, 4⟩ ∧ s.ch1.config.m ≤ s.ch1.tracker.miss ∧
       41900 + 8187 + s.ch1.config.tw + s.ch1.config.syncFilter.ticks < s.now ∧
       (after (.missExpiry .c1) s).ch1.tracker = ⟨.acquiring, none, 8192, 0, 0⟩) ∧
    (let s := tracking ⟨.coasting, some ⟨41900, 4, 4⟩, 8187, 2, 2⟩ 50352
     s.ch1.tracker.miss < s.ch1.config.m ∧ (after (.missExpiry .c1) s).ch1.tracker.miss = 3) ∧
    (tracking ⟨.locked, some ⟨41900, 4, 4⟩, 8187, 2, 0⟩ 50351).now ≤ 41900 + 8187 + 256 + 8 ∧
    (after (.missExpiry .c0) { closing .hold .front .ready with now := 108455 }).ch0.queue.map Burst.state =
      [.cooling ⟨.missed, .none⟩] ∧
    (after (.missExpiry .c0) { with0 tailless (closing .hold .front .ready) with now := 108455 }).ch0.queue = [] ∧
    (after (.missExpiry .c0) (busyUntil 200000 { closing .bias .idle (.barred .hot) with now := 108455 })).link.notices.map
      (fun n => n.notice.kind) = [0x42, 0x40] := by decide +kernel

/-! ## Witnesses: guard, light sense and the write gate -/

/-- In BIAS, in PREHEAT and in BOOST, held for exactly the filter's 8 ticks, and one tick short of it. -/
theorem witness_GuardStrikesALitLaser :
    (lab.held = false ∧ lab.ch0.guardLine.filtered = false ∧ 108934 + lab.ch0.config.guardFilter.ticks ≤ lab.now ∧
      lab.now < 108935 + lab.ch0.config.guardFilter.ticks ∧ lab.ch0.seq.laser = .bias) ∧
    (let s := lit .preheat .heating 108942 109000
     s.ch0.seq.active = .front ∧ s.ch0.queue.map (fun b => b.plan.tailLen) = [200] ∧ s.ch0.seq.laser = .preheat ∧
       (after (.guardAssertion .c0 108992) s).ch0.queue.map (fun b => (b.state, b.acc)) =
         [(.barred .guard, 322 * 58)]) ∧
    (let s := lit .boost .writing 109452 109500
     s.ch0.seq.laser = .boost ∧
       (after (.guardAssertion .c0 109492) s).ch0.queue.map Burst.state = [.cooling ⟨.aborted, .guard⟩]) ∧
    (let s := with0 (fun x => { x with guardLine := ⟨true, 100000, true⟩ }) lab
     edgeRecognised s.ch0.guardLine s.ch0.config.guardFilter false 108934 108934 s.now ∧
       edgeMoves s.ch0.guardLine s.ch0.config.guardFilter false 108935 s.now ∧
       edgeIdle s.ch0.guardLine s.ch0.config.guardFilter false 99999 s.now ∧
       (after (.guardDeassertion .c0 108934) s).ch0.guardLine = ⟨false, 108942, false⟩ ∧
       (after (.guardDeassertion .c0 108935) s).ch0.guardLine = ⟨false, 108935, true⟩ ∧
       (after (.guardAssertion .c0 108942) (after (.guardDeassertion .c0 108935) s)).ch0.guardLine = ⟨true, 108942, true⟩) ∧
    (let s := with0 (fun x => { x with guardLine := ⟨true, 108930, false⟩ }) lab
     edgeRecognised s.ch0.guardLine s.ch0.config.guardFilter true 108942 108930 s.now ∧
       edgeMoves s.ch0.guardLine s.ch0.config.guardFilter false 108937 s.now ∧
       edgeOvertakes s.ch0.guardLine s.ch0.config.guardFilter false 108938 s.now ∧
       (after (.guardDeassertion .c0 108937) s).ch0.guardLine = ⟨false, 108937, false⟩ ∧
       (after (.guardDeassertion .c0 108938) s).ch0.guardLine = ⟨false, 108938, true⟩ ∧
       (dueEvents s).contains (.guardAssertion .c0 108930) = true) ∧
    (let s := with0 tailless (lit .hold .ready 109430 109440)
     s.ch0.queue.map (fun b => b.plan.tailLen) = [0] ∧ (after (.guardAssertion .c0 109432) s).ch0.seq.laser = .bias) := by
  unfold edgeRecognised edgeMoves edgeOvertakes edgeIdle
  refine ⟨by decide +kernel, by decide +kernel, by decide +kernel, ?_⟩
  constructor
  · constructor <;> decide +kernel
  · decide +kernel

/-- The light of section 4.8 at 108,998, and a dropout below and at the strike limit. -/
theorem witness_LightIsSeenOrDropsOut :
    (let s := with0 (fun x => { x with
        queue := x.queue.map fun b => { b with sampledArming := true }
        seq := { x.seq with light := .awaiting 109686 } }) (lit .preheat .heating 108942 108998)
     s.held = false ∧ s.ch0.lightLine.filtered = false ∧ 108990 + s.ch0.config.lightFilter.ticks ≤ s.now ∧
       s.ch0.seq.light = .awaiting 109686 ∧ s.ch0.seq.active = .front ∧
       (after (.lightAssertion .c0 108990) s).ch0.queue.map Burst.latency = [some 48]) ∧
    (let s := with0 (fun x => { x with seq := { x.seq with light := .awaiting 109686 } }) labDetached
     s.ch0.lightLine.filtered = false ∧ s.ch0.seq.active ≠ .front ∧ s.ch0.seq.active ≠ .idle ∧
       (after (.lightAssertion .c0 108934) s).ch0.seq.light = .seen) ∧
    (let s := with0 (fun x => { x with lightLine := ⟨true, 108990, true⟩ }) (lit .hold .ready 109430 109460)
     s.ch0.lightLine.filtered = true ∧ 109452 + s.ch0.config.lightFilter.ticks ≤ s.now ∧ s.ch0.seq.light = .seen ∧
       s.ch0.seq.selected = some 3 ∧ s.ch0.gate = some ⟨109430, true, false⟩ ∧ s.heads[3].strikeLimit = 3 ∧
       s.heads[3].channel = .c0 ∧
       (after (.lightDeassertion .c0 109452) s).heads[3].strikes = 1 ∧
       (after (.lightDeassertion .c0 109452) { s with heads := s.heads.set 3 { head3 with strikes := 2 } }).heads[3].state =
         .fault .dropout ∧
       (after (.lightDeassertion .c0 109452) { s with heads := s.heads.set 3 { head3 with strikes := 2 } }).ch0.queue = [] ∧
       (after (.lightDeassertion .c0 109452) (with0 tailless s)).ch0.seq.laser = .bias ∧
       (after (.wgateRise .c0) (after (.lightDeassertion .c0 109452) { s with now := 109494 })).ch0.queue.map
         Burst.gateVetoed = [true]) ∧
    (let s := with0 (fun x => { x with
        lightLine := ⟨true, 108900, true⟩, queue := [], gate := none
        seq := { darkSequencer with darkened := some ⟨3, 108942, .seen⟩ } }) { lab with
          heads := lab.heads.set 3 { head3 with strikes := 2 } }
     s.ch0.queue = [] ∧ s.ch0.seq.laser = .dark ∧ 108934 + s.ch0.config.lightFilter.ticks ≤ 108942 ∧
       s.heads[3].strikeLimit ≤ min (s.heads[3].strikes + 1) 7 ∧ s.heads[3].channel = .c0 ∧
       (after (.lightDeassertion .c0 108934) s).heads[3].state = .fault .dropout ∧
       (after (.lightDeassertion .c0 108934) { s with heads := lab.heads }).heads[3].strikes = 0 ∧
       (after (.lightDeassertion .c0 108935) { s with now := 108943 }).heads[3].strikes = 2) := by decide +kernel

/-- Both ends of the window 109,366 to 109,494, and one tick past each. -/
theorem witness_GateRiseIsJudged :
    (let s := lit .hold .ready 109430 109366
     s.held = false ∧ s.ch0.wgate = false ∧ s.ch0.gate = some ⟨109430, true, false⟩ ∧ s.ch0.seq.active = .front ∧
       (after (.wgateRise .c0) s).ch0.seq.laser = .boost) ∧
    (after (.wgateRise .c0) (lit .hold .ready 109430 109494)).ch0.seq.laser = .boost ∧
    (after (.wgateRise .c0) (lit .hold .ready 109430 109495)).ch0.seq.laser = .hold ∧
    (after (.wgateRise .c0) (lit .hold .ready 109300 109365)).ch0.seq.laser = .hold ∧
    ((lit .preheat .heating 108942 109400).ch0.queue.map (fun b => b.plan.policy) = [.veto] ∧
      (after (.wgateRise .c0) (lit .preheat .heating 108942 109400)).ch0.queue.map Burst.state =
        [.cooling ⟨.vetoed, .underheat⟩] ∧
      (after (.wgateRise .c0) (with0 tailless (lit .preheat .heating 108942 109400))).ch0.queue = []) ∧
    ((after (.wgateRise .c0) (with0 (fun x => { x with
      queue := x.queue.map fun b => { b with plan := { b.plan with policy := .accept, boostLen := 0 } } })
      (lit .preheat .heating 108942 109400))).ch0.seq.laser = .sustain) ∧
    (let s := with0 (fun x => { x with queue := [{ burst7 with state := .barred .hot }] }) { lab with now := 109400 }
     (after (.wgateRise .c0) s).ch0.queue.map Burst.gateVetoed = [true] ∧ (after (.wgateRise .c0) s).ch0.seq.veto = true) ∧
    (let s := with0 (fun x => { x with seq := { x.seq with phaseEnd := some 109600 } })
        (lit .tail (.barred .guard) 109440 109494)
     (after (.wgateRise .c0) s).ch0.queue.map Burst.gateVetoed = [true] ∧
       (after (.wgateRise .c0) (after (.windowClose .c0) s)).ch0.queue.map Burst.gateVetoed = [false]) ∧
    (after (.wgateRise .c0) lab).ch0.seq.veto = true := by decide +kernel

theorem witness_GateFallEndsTheWrite :
    (let s := with0 (fun x => { x with wgate := true }) (lit .sustain .writing 109852 112462)
     s.held = false ∧ s.ch0.wgate = true ∧ s.ch0.seq.active = .front ∧ s.ch0.queue.length = 1 ∧
       s.ch0.seq.laser = .sustain ∧ (after (.wgateFall .c0) (with0 tailless s)).ch0.queue = []) ∧
    (let s := with0 (fun x => { x with wgate := true, queue := x.queue ++ [burst8] }) (lit .sustain .writing 109852 112462)
     s.ch0.queue.map Burst.head = [3, 4] ∧ (after (.wgateFall .c0) s).ch0.seq.laser = .tail) ∧
    (let s := with0 (fun x => { x with wgate := true }) lab
     s.ch0.seq.laser = .bias ∧ s.ch0.queue.map Burst.gateVetoed = [false] ∧ (after (.wgateFall .c0) s).ch0.seq.veto = false) ∧
    (let s := with0 (fun x => { x with
        wgate := true, queue := [{ burst7 with state := .barred .hot, gateVetoed := true }] }) { lab with now := 109400 }
     s.ch0.queue.map (fun b => (b.state, b.gateVetoed)) = [(.barred .hot, true)] ∧
       (after (.wgateFall .c0) s).ch0.queue = [] ∧
       (after (.wgateFall .c0) s).link.tx.map (fun x => x.frame.kind) = some 0x40 ∧
       (after (.wgateFall .c0) (with0 (fun x => { x with
         queue := x.queue ++ [{ burst8 with decidedBar := some .hot }] }) s)).ch0.queue.map Burst.state = [.barred .hot]) ∧
    (let s := with0 (fun x => { x with
        wgate := true, queue := [{ burst7 with state := .barred .guard, gateVetoed := true }]
        seq := { x.seq with laser := .tail, phaseEnd := some 109500 } }) (lit .tail (.barred .guard) 109300 109400)
     s.ch0.seq.laser = .tail ∧ s.ch0.seq.active = .front ∧ s.ch0.seq.phaseEnd = some 109500 ∧
       s.ch0.seq.phaseStart < 109500 ∧ (after (.wgateFall .c0) s).ch0.queue.map Burst.barOver = [true] ∧
       (after (.wgateFall .c0) { s with now := 109494 }).ch0.gate = s.ch0.gate) := by
  decide +kernel

/-- The two bursts of section 4.9, and a supply of 250, which starves the second. -/
theorem witness_HotChainHandsOver :
    ((chain 4000).held = false ∧ (chain 4000).ch0.wgate = true ∧ (chain 4000).ch0.seq.laser = .sustain ∧
      (chain 4000).ch0.seq.active = .front ∧
      (chain 4000).ch0.queue.map (fun b => (b.tag, b.decidedBar, b.head)) = [(30, none, 3), (31, none, 3)] ∧
      (chain 4000).ch0.queue.map Burst.state = [.writing, .queued] ∧
      (chain 4000).ch0.tracker.anchor = some ⟨199450, 10, 3022⟩ ∧ (200650 : Int) - 500 ≤ 200000 + 200 ∧
      ((500 : Nat) : Int) ≤ ((chain 4000).supply.effective : Int) - ((chain 4000).chan Chan.c0.other).seq.committed ∧
      (200000 : Int) < 200650 + 64) ∧
    (let s := { chain 4000 with supply := ⟨250, none⟩ }
     (after (.wgateFall .c0) s).ch0.queue.map (fun b => (b.decidedBar, b.derate)) =
       [(none, none), (some .starved, some 128)] ∧
       (after (.wgateFall .c0) (with0 tailless s)).ch0.queue.map Burst.tag = [31]) ∧
    (let s := with0 (fun x => { x with tracker := ⟨.locked, some ⟨198700, 10, 3022⟩, 8190, 2, 0⟩ }) (chain 4000)
     (199900 : Int) + s.ch0.config.late ≤ s.now ∧
       (after (.wgateFall .c0) s).ch0.queue.map (fun b => (b.tag, b.state)) = [(31, .cooling ⟨.missed, .none⟩)]) := by
  decide +kernel

/-! ## Witnesses: timed events -/

/-- The arming of section 4.8 at its scheduled start and one tick before; a guard, a starved supply, a derated supply and a
low ceiling. -/
theorem witness_ArmingIsChecked :
    (lab.held = false ∧ lab.ch0.seq.laser = .bias ∧ lab.ch0.queue = [burst7] ∧ burst7.state = .queued ∧
      burst7.decidedBar = none ∧ lab.ch0.gate = some ⟨109430, true, false⟩ ∧ (109430 : Int) - 488 ≤ lab.now ∧
      (lab.now : Int) < 109430 + lab.ch0.config.late) ∧
    (after (.arming .c0) { lab with now := 108941 }).ch0.seq.laser = .bias ∧
    (after (.arming .c0) (with0 (fun x => { x with guardLine := ⟨true, 100000, true⟩ }) lab)).ch0.queue.map Burst.state =
      [.barred .guard] ∧
    (after (.arming .c0) { lab with supply := ⟨230, none⟩ }).ch0.queue.map (fun b => (b.state, b.derate, b.derated)) =
      [(.barred .starved, some 125, false)] ∧
    (after (.arming .c0) { lab with supply := ⟨330, none⟩ }).ch0.seq.committed = 328 ∧
    (after (.arming .c0) { lab with heads := lab.heads.set 3 { head3 with ceiling := 1371 } }).ch0.queue.map Burst.state =
      [.barred .hot] ∧
    (after (.arming .c0) { lab with heads := lab.heads.set 3 { head3 with ceiling := 1372 } }).ch0.queue.map Burst.state =
      [.heating] ∧
    (let s := { lab with now := 109494 }
     (109430 : Int) + s.ch0.config.late ≤ s.now ∧
       (after (.arming .c0) s).ch0.queue.map Burst.state = [.cooling ⟨.missed, .none⟩] ∧
       (after (.arming .c0) (with0 tailless s)).ch0.queue = [] ∧
       (after (.arming .c0) { s with supply := ⟨230, none⟩ }).ch0.queue = []) := by decide +kernel

/-- Each end at its moment and one tick before. -/
theorem witness_PhasesEndInTurn :
    (let s := with0 (fun x => { x with seq := { x.seq with phaseEnd := some 109430 } }) (lit .preheat .heating 108942 109430)
     s.held = false ∧ s.ch0.seq.laser = .preheat ∧ s.ch0.seq.phaseEnd = some 109430 ∧ s.ch0.seq.active = .front ∧
       (after (.preheatEnd .c0) s).ch0.seq.laser = .hold ∧
       (after (.preheatEnd .c0) { s with now := 109429 }).ch0.seq.laser = .preheat) ∧
    (let s := with0 (fun x => { x with seq := { x.seq with phaseEnd := some 109852 } }) (lit .boost .writing 109452 109852)
     s.ch0.seq.laser = .boost ∧ (after (.boostEnd .c0) s).ch0.seq.lane = ⟨some 3, 430⟩ ∧
       (after (.boostEnd .c0) { s with now := 109851 }).ch0.seq.laser = .boost) ∧
    (let s := with0 (fun x => { x with seq := { x.seq with biasCount := 4096 } }) lab
     s.ch0.seq.laser = .bias ∧ s.ch0.config.biasHold = 4096 ∧ (after (.biasHoldExpiry .c0) s).ch0.seq.laser = .dark ∧
       (after (.biasHoldExpiry .c0) lab).ch0.seq.laser = .bias) := by decide +kernel

theorem witness_WindowCloseAndOverrunEndTheBurst :
    (let s := lit .hold .ready 109430 109494
     s.held = false ∧ s.ch0.seq.active = .front ∧ s.ch0.gate = some ⟨109430, true, false⟩ ∧
       (109430 : Int) + s.ch0.config.late ≤ s.now ∧
       (after (.windowClose .c0) s).ch0.queue.map Burst.state = [.cooling ⟨.missed, .none⟩] ∧
       (after (.windowClose .c0) (with0 tailless s)).ch0.queue = [] ∧
       (after (.windowClose .c0) { s with now := 109493 }).ch0.seq.laser = .hold) ∧
    (let s := with0 (fun x => { x with seq := { x.seq with phaseEnd := some 109500 } })
        (lit .tail (.barred .guard) 109300 109494)
     s.ch0.seq.laser = .tail ∧ s.ch0.seq.phaseStart < 109500 ∧ s.ch0.gate = some ⟨109430, true, false⟩ ∧
       (after (.windowClose .c0) s).ch0.queue.map Burst.barOver = [true] ∧
       (after (.windowClose .c0) s).ch0.gate = some ⟨109430, true, true⟩ ∧
       (after (.windowClose .c0) (with0 (fun x => { x with
         queue := x.queue.map fun b => { b with gateVetoed := true } }) s)).ch0.queue.map Burst.barOver = [false]) ∧
    (let s := with0 (fun x => { x with queue := [{ burst7 with state := .barred .hot }] }) { lab with now := 109494 }
     s.ch0.seq.laser = .bias ∧ (after (.windowClose .c0) s).ch0.queue = []) ∧
    (let s := with0 (fun x => { x with wgate := true, seq := { x.seq with overrunAt := some 112708 } })
        (lit .sustain .writing 109852 112708)
     s.ch0.seq.overrunAt = some 112708 ∧
       (after (.overrun .c0) s).ch0.queue.map Burst.state = [.cooling ⟨.aborted, .overrun⟩] ∧
       (after (.overrun .c0) (with0 tailless s)).ch0.queue = [] ∧
       (after (.overrun .c0) { s with now := 112707 }).ch0.seq.laser = .sustain) := by decide +kernel

/-- COOLING at the tail end and one tick before, a detached tail, and a BARRED burst whose window is open. -/
theorem witness_TailEndCompletesTheBurst :
    (let s := with0 (fun x => { x with seq := { x.seq with phaseEnd := some 112662 } })
        (lit .tail (.cooling ⟨.written, .none⟩) 112462 112662)
     s.held = false ∧ s.ch0.seq.laser = .tail ∧ s.ch0.seq.phaseEnd = some 112662 ∧ s.ch0.seq.active = .front ∧
       s.ch0.queue.length = 1 ∧ (after (.tailEnd .c0) { s with now := 112661 }).ch0.queue.length = 1 ∧
       (after (.tailEnd .c0) (with0 (fun x => { x with
         queue := x.queue ++ [{ burst8 with decidedBar := some .hot }] }) s)).ch0.queue.map Burst.state = [.barred .hot] ∧
       (after (.tailEnd .c0) (with0 (fun x => { x with
         queue := x.queue ++ [{ burst8 with head := 3, offset := 0, target := 3022 }] }) s)).ch0.queue.map Burst.state =
           [.cooling ⟨.missed, .none⟩] ∧
       ((s.ch0.queue ++ [burst8] ++ s.ch1.queue).map Burst.tag).Nodup) ∧
    (let s := with0 (fun x => { x with
        queue := x.queue.map fun b => { b with barOver := true }, seq := { x.seq with phaseEnd := some 109450 } })
        (lit .tail (.barred .guard) 109250 109450)
     s.ch0.queue.map Burst.barOver = [true] ∧ (after (.tailEnd .c0) s).ch0.queue = []) ∧
    (let s := with0 (fun x => { x with
        queue := [], seq := { x.seq with active := .detached { burst7 with acc := 4096000 }, phaseEnd := some 112662 } })
        (lit .tail (.cooling ⟨.written, .none⟩) 112462 112662)
     s.ch0.queue = [] ∧ (after (.tailEnd .c0) s).heads[3].bucket = 1000 + 1015 ∧
       (after (.tailEnd .c0) s).ch0.seq.laser = .bias) ∧
    (let s := with0 (fun x => { x with seq := { x.seq with phaseEnd := some 109450 } })
        (lit .tail (.barred .guard) 109250 109450)
     s.ch0.queue.map Burst.barOver = [false] ∧ (s.now : Int) < 109430 + s.ch0.config.late ∧
       (after (.tailEnd .c0) s).ch0.queue.map Burst.state = [.barred .guard] ∧
       (after (.tailEnd .c0) s).ch0.seq.laser = .bias ∧
       (after (.wgateRise .c0) (after (.tailEnd .c0) { s with now := 109494 })).ch0.queue.map Burst.gateVetoed = [true]) ∧
    (let s := with0 (fun x => { x with
        wgate := true, gate := some ⟨109430, true, true⟩, queue := x.queue.map fun b => { b with gateVetoed := true }
        seq := { x.seq with phaseEnd := some 109600 } }) (lit .tail (.barred .guard) 109400 109600)
     s.ch0.queue.map (fun b => (b.gateVetoed, b.barOver)) = [(true, false)] ∧
       (after (.tailEnd .c0) s).ch0.queue.map Burst.state = [.barred .guard] ∧
       (after (.wgateFall .c0) (after (.tailEnd .c0) s)).ch0.queue = []) := by decide +kernel

theorem witness_LightDeadlineFaultsTheHead :
    (let s := with0 (fun x => { x with seq := { x.seq with light := .awaiting 109686 } }) (lit .hold .ready 109430 109686)
     s.held = false ∧ s.ch0.seq.light = .awaiting 109686 ∧ s.ch0.seq.laser.lit = true ∧ s.ch0.seq.active = .front ∧
       s.ch0.queue.map Burst.state = [.ready] ∧ s.heads[3].state = .ready ∧ s.heads[3].channel = .c0 ∧
       (after (.lightDeadline .c0) s).heads[3].state = .fault .lightAbsent ∧
       (after (.lightDeadline .c0) s).ch0.queue = [] ∧
       (after (.lightDeadline .c0) { s with now := 109685 }).ch0.seq.laser = .hold ∧
       (after (.lightDeadline .c0) (with0 (fun x => { x with
         queue := x.queue ++ [{ burst8 with head := 3 }, burst8] }) s)).ch0.queue.map Burst.head = [4]) ∧
    (lit .hold .ready 109430 109686).ch0.seq.light = .seen ∧
    (let s := with0 (fun x => { x with seq := { x.seq with light := .awaiting 109686 } })
        (lit .tail (.cooling ⟨.missed, .none⟩) 109494 109686)
     s.ch0.queue.map Burst.state = [.cooling ⟨.missed, .none⟩] ∧
       (after (.lightDeadline .c0) s).heads[3].state = .fault .lightAbsent) ∧
    (let s := with0 (fun x => { x with seq := { x.seq with light := .awaiting 109686 } })
        (lit .tail (.barred .guard) 109494 109686)
     s.ch0.queue.map Burst.state = [.barred .guard] ∧
       (after (.lightDeadline .c0) s).heads[3].bucket = 1000 + 322 * 192 / 4096 ∧
       (after (.lightDeadline .c0) (with0 (fun x => { x with queue := x.queue ++ [burst8] }) s)).ch0.queue = [burst8] ∧
       (after (.lightDeadline .c0) s).heads[3].state = .fault .lightAbsent) ∧
    (let s := with0 (fun x => { x with seq := { x.seq with light := .awaiting 108942 } }) labDetached
     s.ch0.queue = [] ∧ s.ch0.seq.laser = .tail ∧ (after (.lightDeadline .c0) s).heads[3].bucket = 2000 ∧
       (after (.lightDeadline .c0) (with0 (fun x => { x with queue := [{ burst8 with head := 3 }, burst8] }) s)).ch0.queue.map
         Burst.head = [4] ∧
       (after (.lightDeadline .c0) (with0 (fun x => { x with queue := [burst8] }) s)).ch0.queue = [burst8]) ∧
    (let s := with0 (fun x => { x with seq := { darkSequencer with darkened := some ⟨3, 108942, .awaiting 108942⟩ } }) labFree
     s.ch0.seq.light = .none ∧ s.ch0.seq.laser = .dark ∧ s.ch0.queue = [] ∧
       (after (.lightDeadline .c0) s).heads[3].state = .fault .lightAbsent) := by decide +kernel

/-- At the leak instant 107 · 1,024 = 109,568 and one tick before. -/
theorem witness_LeakInstantLowersEveryBucket :
    (lab.held = false ∧ ({ lab with now := 109568 } : State).leaksTaken = 106) ∧
    (after .leakInstant { lab with now := 109568 }).heads[3].bucket = 994 ∧
    (after .leakInstant { lab with now := 109567 }).heads[3].bucket = 1000 := by decide +kernel

/-- 31 notices and 32; a threshold reached and not; and a charge that saturates the bucket. -/
theorem witness_PlacingAndCharging :
    (let n : QueuedNotice := ⟨false, .safetyWarning 8 .open100 .a⟩
     (List.replicate 31 n).length < 32 ∧ 32 ≤ (List.replicate 32 n).length) ∧
    (let s := { lab with heads := lab.heads.set 3 { head3 with wearThreshold := 100, lifetime := 99 } }
     s.heads[3].wearThreshold ≠ 0 ∧ s.heads[3].wearNoticed = false ∧ s.heads[3].lifetime < s.heads[3].wearThreshold ∧
       (charge 3 1 s).heads[3].wearNoticed = true ∧ (charge 3 1 s).link.notices.map (fun n => n.notice.kind) = [0x47]) ∧
    (charge 3 65535 lab).heads[3].bucket = 65535 := by decide +kernel

theorem head3_range : HeadRange head3 := by constructor <;> decide

theorem witness_HeatingArithmetic : HeadRange head3 ∧ profile1.fp ≤ 16 ∧ plan7.ith < plan7.sustain ∧
    ((plan7.boost : Int) ≤ 470 ∧ (469 : Int) < (plan7.boost : Int)) :=
  ⟨head3_range, by decide, by decide, by decide⟩

/-- The phases of the worked burst (section 2.10), and the accumulation at its limit. -/
theorem test_lit_phases : (burst7.litFor .preheat 488).acc = 157136 ∧ (burst7.litFor .hold 40).acc = 12880 ∧
    (burst7.litFor .boost 400).acc = 188000 ∧ (burst7.litFor .tail 200).acc = 64400 ∧ (burst7.litFor .bias 9).acc = 0 ∧
    ({ burst7 with derate := some 179 }.litFor .sustain 10).acc = 3000 ∧
    ({ burst7 with acc := 2 ^ 40 - 2 }.litFor .preheat 1).acc = 2 ^ 40 - 1 := by decide

end Sys2Proof.Tests
end

