-- ==== Sys2Proof/Proofs/Counters.lean ====
section
/-! PROOFS. COUNTERS (R132). What its service answers in the two cases the rule names, a refused span and a span that is
read, and the reply that begins on an idle link. -/

namespace Sys2Proof.Machine

/-! ## Replies on a link whose output lines are at their levels -/

/-- A reply moves no output line, so a part whose lines are at their levels only begins to send. -/
theorem replying_of_driven {t : State} (ht : driveOutputs t = t) (kind tag : Byte) (payload : List Byte) :
    t.replying kind tag payload = t.sending ⟨kind, tag, payload⟩ none := by
  have hcomm : t.replying kind tag payload = (driveOutputs t).sending ⟨kind, tag, payload⟩ none := rfl
  rw [hcomm, ht]

/-- The output lines do not depend on the Rule Counters (R67, R91). -/
theorem driven_with_counters {s : State} (hs : driveOutputs s = s) (v : Vector U32 16) :
    driveOutputs { s with counters := v } = { s with counters := v } := by
  have hcomm : driveOutputs { s with counters := v } = { driveOutputs s with counters := v } := rfl
  rw [hcomm, hs]

/-! ## The clear choice and the cleared span -/

/-- A clear choice above 1 is undefined. -/
theorem clearOf_of_two_le {b : Byte} (h : 2 ≤ b.toNat) : clearOf b = none := by
  have h0 : b ≠ 0 := by rintro rfl; simp at h
  have h1 : b ≠ 1 := by rintro rfl; simp at h
  rw [clearOf, onOffOf, if_neg h0, if_neg h1]

/-- A clear choice of 0 is READ and of 1 READ_AND_CLEAR. -/
theorem clearOf_of_le_one {b : Byte} (h : b.toNat ≤ 1) : clearOf b = some (decide (b = 1)) := by
  have hb : b = 0 ∨ b = 1 := by bv_omega
  obtain rfl | rfl := hb <;> rfl

/-- A counter after a span is cleared. -/
@[simp] theorem clearSpan_get (first span : Nat) (v : Vector U32 16) (i : Fin 16) :
    (clearSpan first span v)[i] = if first ≤ i.val ∧ i.val < first + span then 0 else v[i] := by
  simp [clearSpan]

/-- The Rule Counters a COUNTERS request leaves: READ_AND_CLEAR clears the span, and READ leaves them alone (R132). -/
def countersLeft (f : CountersFields) (v : Vector U32 16) : Vector U32 16 :=
  if f.clear = 1 then clearSpan f.first.toNat f.span.toNat v else v

theorem countersLeft_get (f : CountersFields) (v : Vector U32 16) (i : Fin 16) :
    (countersLeft f v)[i] =
      if f.clear = 1 ∧ f.first.toNat ≤ i.val ∧ i.val < f.first.toNat + f.span.toNat then 0 else v[i] := by
  unfold countersLeft
  by_cases hc : f.clear = 1
  · rw [if_pos hc, clearSpan_get]; simp only [hc, true_and]
  · rw [if_neg hc, if_neg fun h => hc h.1]

/-! ## The service -/

/-- A clear choice, first index or span out of range is refused (R132). -/
theorem serveCounters_refused {f : CountersFields} (s : State)
    (h : 2 ≤ f.clear.toNat ∨ 15 < f.first.toNat ∨ f.span.toNat = 0 ∨ 16 < f.span.toNat ∨
      16 < f.first.toNat + f.span.toNat) :
    serveCounters (.fits f) s = (s, .code .fieldRange) := by
  obtain hclear | hclear : 2 ≤ f.clear.toNat ∨ f.clear.toNat ≤ 1 := by omega
  · simp [serveCounters, withPayload, clearOf_of_two_le hclear]
  · have hspan := h.resolve_left (by omega)
    simp [serveCounters, withPayload, clearOf_of_le_one hclear, hspan]

/-- A span in range is read, and cleared when the request asks for it (R132). -/
theorem serveCounters_read {f : CountersFields} (s : State) (hclear : f.clear.toNat ≤ 1) (hfirst : f.first.toNat ≤ 15)
    (hspan : 1 ≤ f.span.toNat) (hend : f.first.toNat + f.span.toNat ≤ 16) :
    serveCounters (.fits f) s =
      ({ s with counters := countersLeft f s.counters },
        .counters f.first.toNat f.span.toNat ((s.counters.toList.drop f.first.toNat).take f.span.toNat)) := by
  have hrange : ¬ (15 < f.first.toNat ∨ f.span.toNat = 0 ∨ 16 < f.span.toNat ∨ 16 < f.first.toNat + f.span.toNat) := by
    omega
  simp only [serveCounters, withPayload, clearOf_of_le_one hclear, if_neg hrange, countersLeft, decide_eq_true_eq]
  by_cases hc : f.clear = 1
  · simp only [if_pos hc]
  · simp only [if_neg hc]

/-! ## The request on an idle link -/

theorem replyKind_counters (tag : Byte) (body : Payload CountersFields) :
    replyKind (requestKind (.counters tag body)) = 0x9B := by
  simp [requestKind, replyKind]

/-- COUNTERS on an idle link is served at once, and its reply begins (R170, R173). -/
theorem exec_counters_of_serve {tag : Byte} {f : CountersFields} {s t : State} {r : Reply} (hidle : LinkIdle s)
    (hserve : serveCounters (.fits f) s = (t, r)) (ht : driveOutputs t = t) :
    exec (.counters tag (.fits f)) s = .next (t.sending ⟨0x9B, tag, r.payload⟩ none) := by
  have hexec : exec (.counters tag (.fits f)) s = .next (onLink (arrive (.counters tag (.fits f))) s) := rfl
  rw [hexec, onLink_idle hidle (.counters tag (.fits f)) (serveCounters (.fits f) s) rfl (serveCounters_kept _ s), hserve,
    replying_of_driven ht, replyKind_counters]
  rfl

/-- The payload of a COUNTERS reply repeats the first index and the span as they were sent (section 10.3). -/
theorem counters_payload (first span : Byte) (values : List U32) :
    (Reply.counters first.toNat span.toNat values).payload = 0x00 :: first :: span :: values.flatMap bytes32 := by
  simp [Reply.payload, u8, Code.byte]

/-- Settles O23: the two cases of the service, each followed to the reply that begins on the idle link. -/
theorem countersReadAndClear : Obligations.CountersReadAndClear := by
  intro tag f s hidle hs
  refine ⟨fun hbad => ?_, fun hclear hfirst hspan hend => ?_⟩
  · exact exec_counters_of_serve hidle (serveCounters_refused s hbad) hs
  · refine ⟨countersLeft f s.counters, countersLeft_get f s.counters, ?_⟩
    rw [exec_counters_of_serve hidle (serveCounters_read s hclear hfirst hspan hend) (driven_with_counters hs _),
      counters_payload]

end Sys2Proof.Machine
end

