-- ==== Sys2Proof/Proofs/Conditions.lean ====
section
/-! PROOFS. CONDITIONS (R136, R143). The limit rule of the Supply Arbiter as one update of the state, the service of a
payload that fits, the bytes of its reply, and the reply that begins on an idle link. -/

namespace Sys2Proof.Machine

/-! ## The limit rule -/

/-- The Supply Arbiter's limits after a CONDITIONS limit `v`, when the commitments sum to `sum` (R143). -/
def Supply.limitedTo (u : Supply) (sum v : Nat) : Supply :=
  if sum ≤ v then ⟨v, none⟩ else ⟨u.limit, some v⟩

/-- Applying a limit replaces the Arbiter's limits and nothing else. -/
theorem applyLimit_eq (v : Nat) (s : State) :
    applyLimit v s = { s with supply := s.supply.limitedTo s.committedSum v } := by
  unfold applyLimit Supply.limitedTo
  by_cases h : s.committedSum ≤ v
  · rw [if_pos h, if_pos h]
  · rw [if_neg h, if_neg h]

/-! ## The service -/

/-- A temperature or supply limit that no clamp changed is answered OK, and CLAMPED otherwise (R136). -/
theorem conditions_code (x0 x1 t0 t1 : Int) (x v : Nat) :
    (clampCode [(x0, t0), (x1, t1), (x, v)]).byte = if x0 = t0 ∧ x1 = t1 ∧ x = v then 0x00 else 0x01 := by
  by_cases h : x0 = t0 ∧ x1 = t1 ∧ x = v
  · obtain ⟨rfl, rfl, rfl⟩ := h
    simp [clampCode, Code.byte]
  · have hclamped : [(x0, t0), (x1, t1), ((x : Int), (v : Int))].any (fun p => p.1 != p.2) = true := by
      simpa [imp_iff_not_or] using h
    rw [if_neg h, clampCode, if_pos hclamped]
    rfl

/-- CONDITIONS replaces both temperatures and applies the limit against the commitments, which the temperatures do not
enter (R136, R139, R143). -/
theorem serveConditions_fits (f : ConditionsFields) (s : State) {t0 t1 : Int} {v : Nat} {u : Supply}
    (h0 : t0 = max (-20) (min 100 f.temp0.toInt)) (h1 : t1 = max (-20) (min 100 f.temp1.toInt))
    (hv : v = min 2047 f.supply.toNat) (hu : u = s.supply.limitedTo s.committedSum v) :
    serveConditions (.fits f) s =
      ({ s with ch0 := { s.ch0 with temp := t0 }, ch1 := { s.ch1 with temp := t1 }, supply := u },
        .conditions (clampCode [(f.temp0.toInt, t0), (f.temp1.toInt, t1), (f.supply.toNat, v)]) t0 t1 u.limit
          u.pending) := by
  have hclamp : clampNat 0 2047 f.supply.toNat = v := by simp [clampNat, hv]
  simp only [serveConditions, withPayload, applyLimit_eq, hclamp]
  subst h0 h1 hu
  rfl

/-! ## The reply -/

/-- The payload of a CONDITIONS reply (section 10.3). -/
theorem conditions_payload (c : Code) (t0 t1 : Int) (limit : Nat) (p : Option Nat) :
    (Reply.conditions c t0 t1 limit p).payload = c.byte :: (s8 t0 ++ s8 t1 ++ u16 limit ++ pendingBytes p) := by
  simp [Reply.payload]

/-- CONDITIONS on an idle link is served at once, and its reply begins (R170, R173). -/
theorem exec_conditions_idle {tag : Byte} {body : Payload ConditionsFields} {s t : State} {r : Reply}
    (hidle : LinkIdle s) (hserve : serveConditions body s = (t, r)) :
    exec (.conditions tag body) s = .next (t.replying 0x8B tag r.payload) := by
  have hexec : exec (.conditions tag body) s = .next (onLink (arrive (.conditions tag body)) s) := rfl
  have hkind : replyKind (requestKind (.conditions tag body)) = 0x8B := by simp [requestKind, replyKind]
  rw [hexec, onLink_idle hidle (.conditions tag body) (serveConditions body s) rfl (serveConditions_kept _ s), hserve, hkind]
  rfl

/-- Settles O31: the service of a payload that fits, followed to the reply that begins on the idle link. -/
theorem conditionsSetTemperaturesAndSupply : Obligations.ConditionsSetTemperaturesAndSupply := by
  intro tag f s t0 t1 v u hidle h0 h1 hv hu
  have hserve := serveConditions_fits f s h0 h1 hv hu
  rw [exec_conditions_idle hidle hserve, conditions_payload, conditions_code]
  cases u.pending with
  | none => rfl
  | some p => rfl

end Sys2Proof.Machine
end

