-- ==== Sys2Proof/Proofs/SafetySet.lean ====
section
/-! PROOFS. SAFETY_SET (R152, R153). What its service answers to an undefined window and to a defined one, the bytes of its
reply, and the reply that begins on an idle link. -/

namespace Sys2Proof.Machine

/-! ## The fields -/

/-- A window field above 2 is undefined. -/
theorem windowOf_of_three_le {b : Byte} (h : 3 ≤ b.toNat) : windowOf b = none := by
  have h0 : b ≠ 0 := by bv_omega
  have h1 : b ≠ 1 := by bv_omega
  have h2 : b ≠ 2 := by bv_omega
  rw [windowOf, if_neg h0, if_neg h1, if_neg h2]

/-- The code of a window is read back as that window. -/
@[simp] theorem windowOf_code (w : Window) : windowOf w.code = some w := by
  cases w <;> rfl

/-- A single value that its clamp left alone is answered OK, and CLAMPED otherwise (R183). -/
theorem clampCode_single_byte (lo hi x : Nat) (h : lo ≤ hi) :
    (clampCode [((x : Int), (clampNat lo hi x : Int))]).byte = if lo ≤ x ∧ x ≤ hi then 0x00 else 0x01 := by
  by_cases hx : lo ≤ x ∧ x ≤ hi
  · have hsame : clampNat lo hi x = x := by unfold clampNat; omega
    simp [clampCode, hsame, hx, Code.byte]
  · have hmoved : x ≠ clampNat lo hi x := by unfold clampNat; omega
    simp [clampCode, hmoved, hx, Code.byte]

/-! ## The service -/

/-- The state in which SAFETY_SET leaves the Safety Timer: a STOPPED timer stays STOPPED, and any other runs (R152). -/
def TimerState.afterSet (t : TimerState) : TimerState := if t = .stopped then .stopped else .running

/-- An undefined window is refused (R152). -/
theorem serveSafetySet_refused {f : SafetySetFields} (s : State) (h : 3 ≤ f.window.toNat) :
    serveSafetySet (.fits f) s = (s, .code .fieldRange) := by
  simp only [serveSafetySet, withPayload, windowOf_of_three_le h]

/-- A defined window and the clamped period are written, and the timer restarts with pointer A (R152). -/
theorem serveSafetySet_written {f : SafetySetFields} (s : State) {w : Window} (hw : f.window = w.code) :
    serveSafetySet (.fits f) s =
      ({ s with safety :=
          ⟨s.safety.state.afterSet, .a, s.now, clampNat 2 2000 f.period.toNat, w⟩ },
        .safetySet (clampCode [((f.period.toNat : Int), (clampNat 2 2000 f.period.toNat : Int))])
          (clampNat 2 2000 f.period.toNat) w (effectiveWindow (clampNat 2 2000 f.period.toNat) w)
          s.safety.state.afterSet) := by
  simp only [serveSafetySet, withPayload, hw, windowOf_code, TimerState.afterSet]

/-- The output lines do not depend on the Safety Timer (R67, R91). -/
theorem driven_with_safety {s : State} (hs : driveOutputs s = s) (t : SafetyTimer) :
    driveOutputs { s with safety := t } = { s with safety := t } := by
  have hcomm : driveOutputs { s with safety := t } = { driveOutputs s with safety := t } := rfl
  rw [hcomm, hs]

/-! ## The request on an idle link -/

/-- SAFETY_SET on an idle link is served at once, and its reply begins (R170, R173). -/
theorem exec_safetySet_of_serve {tag : Byte} {body : Payload SafetySetFields} {s t : State} {r : Reply}
    (hidle : LinkIdle s) (hserve : serveSafetySet body s = (t, r)) (ht : driveOutputs t = t) :
    exec (.safetySet tag body) s = .next (t.sending ⟨0xA8, tag, r.payload⟩ none) := by
  have hexec : exec (.safetySet tag body) s = .next (onLink (arrive (.safetySet tag body)) s) := rfl
  have hkind : replyKind (requestKind (.safetySet tag body)) = 0xA8 := by simp [requestKind, replyKind]
  rw [hexec, onLink_idle hidle (.safetySet tag body) (serveSafetySet body s) rfl (serveSafetySet_kept _ s), hserve,
    replying_of_driven ht, hkind]
  rfl

/-- The payload of a SAFETY_SET reply (section 10.3). -/
theorem safetySet_payload (c : Code) (n : Nat) (w e : Window) (st : TimerState) :
    (Reply.safetySet c n w e st).payload = c.byte :: (u16 n ++ [w.code, e.code, st.code]) := by
  simp [Reply.payload]

/-- Settles O41: the two cases of the service, each followed to the reply that begins on the idle link. -/
theorem safetySetSetsTheTimer : Obligations.SafetySetSetsTheTimer := by
  intro tag f s hidle hs
  refine ⟨fun hbad => ?_, fun w n st hw hn hst => ?_⟩
  · exact exec_safetySet_of_serve hidle (serveSafetySet_refused s hbad) hs
  · have hclamp : clampNat 2 2000 f.period.toNat = n := hn.symm
    have hstate : s.safety.state.afterSet = st := hst.symm
    rw [exec_safetySet_of_serve hidle (serveSafetySet_written s hw) (driven_with_safety hs _), safetySet_payload,
      clampCode_single_byte 2 2000 _ (by decide), hclamp, hstate, effectiveWindow]

end Sys2Proof.Machine
end

section
/-! PROOFS. IDENT (R176). Its service leaves the state alone, the bytes of its reply are those of section 10.3, and the reply
begins on an idle link. -/

namespace Sys2Proof.Machine

/-- IDENT is accepted in every state, and its service changes nothing (R176). -/
theorem serveIdent_fits (s : State) : serveIdent (.fits ()) s = (s, .ident) := rfl

/-- The result OK, then 0x57 as the vendor code, 0x2420 as the part code, 1 as the revision, and the eight sizes of the part:
heads, channels, bursts per queue, rules, profiles, range checkers, counters and notices (R176, section 10.3). -/
theorem ident_payload :
    Reply.ident.payload = [0x00, 0x57, 0x20, 0x24, 1, 24, 2, 20, 64, 16, 8, 16, 32] := by
  have hpart : u16 0x2420 = [0x20, 0x24] := by decide
  simp [Reply.payload, hpart, u8, Code.byte]

/-- IDENT on an idle link is served at once, and its reply begins (R170, R173). -/
theorem exec_ident_of_serve {tag : Byte} {body : Payload Unit} {s t : State} {r : Reply} (hidle : LinkIdle s)
    (hserve : serveIdent body s = (t, r)) (ht : driveOutputs t = t) :
    exec (.ident tag body) s = .next (t.sending ⟨0x81, tag, r.payload⟩ none) := by
  have hexec : exec (.ident tag body) s = .next (onLink (arrive (.ident tag body)) s) := rfl
  have hkind : replyKind (requestKind (.ident tag body)) = 0x81 := by simp [requestKind, replyKind]
  rw [hexec, onLink_idle hidle (.ident tag body) (serveIdent body s) rfl (serveIdent_kept _ s), hserve,
    replying_of_driven ht, hkind]
  rfl

/-- Settles O21: the service that changes nothing, followed to the reply that begins on the idle link. -/
theorem identAnswersTheIdentity : Obligations.IdentAnswersTheIdentity := by
  intro tag s hidle hs
  rw [exec_ident_of_serve hidle (serveIdent_fits s) hs, ident_payload]

end Sys2Proof.Machine
end

section
/-! PROOFS. The outcomes of the shared operations, said once: the events of a channel and what they leave alone, the two
outcomes of a PLAN entry, and the four forms of a service and what it leaves of the link. -/

namespace Sys2Proof.Machine

/-! ## The events of one channel -/

/-- What the events of a channel and the requests about its bursts do, each under the condition it is taken in. -/
inductive ChanEvent (c : Chan) : State → State → Prop
  | guard (s : State) : ChanEvent c s (tailAtOnce c (strikeLaser c .guard s))
  | light (n : Nat) (s : State) : ChanEvent c s (lightRecognised c n s)
  | lightLost (n : Nat) (s : State) : ChanEvent c s (lightLost c n s)
  | gateRise (s : State) : ChanEvent c s (tailAtOnce c (gateRise c s))
  | gateFall (s : State) : ChanEvent c s (gateFall c s)
  | arming (s : State) (due : armDue c s = true) : ChanEvent c s (atOnce c (arm c) s)
  | preheatEnd (s : State) (due : phaseDue .preheat (s.chan c).seq s.now = true) : ChanEvent c s (endPreheat c s)
  | windowClose (s : State) (due : closeDue (s.chan c) s.now = true) : ChanEvent c s (atOnce c (closeWindow c) s)
  | boostEnd (s : State) (due : phaseDue .boost (s.chan c).seq s.now = true) : ChanEvent c s (endBoost c s)
  | overrun (n : Nat) (s : State) (due : (s.chan c).seq.laser.writing = true) :
      ChanEvent c s (atOnce c (abortWrite c .overrun n) s)
  | tailEnd (s : State) (due : phaseDue .tail (s.chan c).seq s.now = true) : ChanEvent c s (tailOver c s)
  | lightAbsent (s : State) (due : lightDue (s.chan c).seq s.now = true) : ChanEvent c s (atOnce c (lightAbsent c) s)
  | owedAbsent (s : State) : ChanEvent c s (owedAbsent c s)
  | biasHold (s : State) (due : biasHoldDue (s.chan c) = true) : ChanEvent c s (goDark c s)
  | cancel (sel : Burst → Bool) (s : State) (blind : ∀ b d : Burst, b.tag = d.tag → b.head = d.head → sel b = sel d) :
      ChanEvent c s (cancelOn c sel s).1
  | park (b : Byte) (s : State) : ChanEvent c s (servePark (.fits b) s).1
  | anchor (a : Anchor) (s : State) : ChanEvent c s (anchorEvent c a s)

/-! ## What an event of a channel leaves alone -/

theorem servePark_calm (b : Byte) (s : State) : Calm s (servePark (.fits b) s).1 := by
  simp only [servePark, withHeadState]
  split
  · exact Calm.refl s
  · rename_i h _
    split
    · have hact := (Calm.setHead s h { s.heads[h] with state := .parked }).trans
        ((Calm.flushHead h _).trans (Calm.endBiasOn s.heads[h].channel h _))
      dsimp only
      split
      · exact Calm.atOnce (f := fun s => endBiasOn _ h (flushHead h (s.setHead h _)).1) hact
      · exact hact
    · exact Calm.refl s

theorem lightRecognised_calm (c : Chan) (n : Nat) (s : State) : Calm s (lightRecognised c n s) := by
  unfold lightRecognised
  split
  · exact Calm.seeLight ..
  all_goals exact Calm.refl s

theorem lightLost_calm (c : Chan) (n : Nat) (s : State) : Calm s (lightLost c n s) := by
  unfold lightLost
  split
  · exact Calm.atOnce (Calm.dropout ..)
  · exact Calm.owedDropout ..

/-- No event of a channel touches the queue of commands, time, the tables, the timer, Safe Dark, the lines or the link but
for its notices. -/
theorem ChanEvent.calm {c : Chan} {s t : State} (h : ChanEvent c s t) : Calm s t := by
  cases h with
  | guard => exact (Calm.strikeLaser ..).trans (Calm.tailAtOnce ..)
  | light => exact lightRecognised_calm ..
  | lightLost => exact lightLost_calm ..
  | gateRise => exact (Calm.gateRise ..).trans (Calm.tailAtOnce ..)
  | gateFall => exact Calm.gateFall ..
  | arming => exact Calm.atOnce (Calm.arm ..)
  | preheatEnd => exact Calm.endPreheat ..
  | windowClose => exact Calm.atOnce (Calm.closeWindow ..)
  | boostEnd => exact Calm.endBoost ..
  | overrun => exact Calm.atOnce (Calm.abortWrite ..)
  | tailEnd => exact Calm.tailOver ..
  | lightAbsent => exact Calm.atOnce (Calm.lightAbsent ..)
  | owedAbsent => exact Calm.owedAbsent ..
  | biasHold => exact Calm.goDark ..
  | cancel => exact Calm.cancelOn ..
  | park => exact servePark_calm ..
  | anchor => exact Calm.anchorEvent ..

/-! ## The outcomes of a PLAN entry -/

/-- What the checks of R15 have found of an entry that is admitted. -/
structure Admits (s : State) (e : PlanEntry) (j : Judged) (a : Anchor) : Prop where
  light : s.safe = none
  fields : checkFields e s = some j
  ready : s.heads[j.head].state = .ready
  synced : (s.chan j.channel).tracker.synced = true
  anchor : (s.chan j.channel).tracker.anchor = some a
  newTag : s.tagHeld e.tag = false
  room : (s.chan j.channel).queue.length < 20
  free : overlaps (s.chan j.channel).queue (s.chan j.channel).config.spacing
    (targetWedge (s.chan j.channel).config.w a j.wedge j.laps * (s.chan j.channel).config.pnom + j.offset) j.length = false

/-- The burst of an entry (R3, R4). -/
def entryBurst (s : State) (e : PlanEntry) (j : Judged) (a : Anchor) (p : Plan) : Burst :=
  newBurst e j (targetWedge (s.chan j.channel).config.w a j.wedge j.laps)
    (targetWedge (s.chan j.channel).config.w a j.wedge j.laps * (s.chan j.channel).config.pnom + j.offset) p

/-- An entry is refused and changes nothing, or it is admitted (R15). -/
theorem judgeEntry_cases (e : PlanEntry) (s : State) :
    (judgeEntry e s).1 = s ∨
      ∃ j a p k, Admits s e j a ∧ (judgeEntry e s).1 = admitBurst (entryBurst s e j a p) k s := by
  unfold judgeEntry
  split
  · exact .inl rfl
  · rename_i hsafe
    split
    · exact .inl rfl
    · rename_i j hj
      split
      · exact .inl rfl
      · rename_i hready
        split
        · rename_i a hsynced hanchor
          unfold judgeSynced
          dsimp only
          split
          · exact .inl rfl
          · rename_i htag
            split
            · exact .inl rfl
            · rename_i hroom
              split
              · exact .inl rfl
              · rename_i hfree
                split
                · exact .inl rfl
                · split
                  · exact .inl rfl
                  · exact .inr ⟨j, a, _, _, ⟨by simpa using hsafe, hj, by simpa using hready, hsynced, hanchor,
                      by simpa using htag, by simpa [Config.queueCapacity] using hroom, by simpa using hfree⟩, rfl⟩
        · exact .inl rfl

/-! ## What a service leaves of the link -/

/-- What the service of a request leaves of the link and of time: all but the place of the served request, the replies and
the notices. -/
structure LinkServed (s t : State) : Prop where
  held : t.held = s.held
  now : t.now = s.now
  pending : t.pending = s.pending
  rx : t.link.rx = s.link.rx
  rxEnd : t.link.rxEnd = s.link.rxEnd
  waiting : t.link.waiting = s.link.waiting
  tx : t.link.tx = s.link.tx
  notices : s.link.notices.length ≤ 32 → t.link.notices.length ≤ 32

theorem LinkKept.toServed {s t : State} (h : LinkKept s t) : LinkServed s t :=
  ⟨h.held, h.now, h.pending, h.requests.rx, h.requests.rxEnd, h.requests.waiting, h.tx, h.notices⟩

/-- An answer changes the place of the served request and the replies alone. -/
theorem answer_linkServed {s : State} {p : State × Reply} (r : Instr) (v : Service) (h : LinkKept s p.1) :
    LinkServed s (answer r v p) :=
  ⟨h.held, h.now, h.pending, h.requests.rx, h.requests.rxEnd, h.requests.waiting, h.tx, h.notices⟩

/-- What the service of a command is. -/
inductive ServeCase (r : Instr) (s : State) : Prop
  | answered (p : State × Reply) (kept : LinkKept s p.1) (eq : serve r s = answer r .replied p)
  | resetting (sc : Scope) (kind : ∃ tag, r = .resetFull tag .fits ∧ sc = .full ∨ r = .resetRun tag .fits ∧ sc = .run)
      (eq : serve r s = answer r (.resetting sc) (s, .reset sc (s.ch0.queue.length + s.ch1.queue.length)))
  | planning (tag : Byte) (es : List PlanEntry) (kind : r = .plan tag (.fits es)) (count : 1 ≤ es.length ∧ es.length ≤ 4)
      (eq : serve r s = s.modLink fun l => { l with served := some ⟨r, .planning es []⟩ })
  | noRequest (eq : serve r s = s)

theorem serveReset_case (tag : Byte) (b : ResetBody) (s : State) :
    ServeCase (.resetFull tag b) s ∧ ServeCase (.resetRun tag b) s := by
  cases b with
  | fits => exact ⟨.resetting .full ⟨tag, .inl ⟨rfl, rfl⟩⟩ rfl, .resetting .run ⟨tag, .inr ⟨rfl, rfl⟩⟩ rfl⟩
  | unfit => exact ⟨.answered (s, .code .badLength) (.refl s) rfl, .answered (s, .code .badLength) (.refl s) rfl⟩
  | undefinedScope k =>
    exact ⟨.answered (s, .code .fieldRange) (.refl s) rfl, .answered (s, .code .fieldRange) (.refl s) rfl⟩

theorem servePlan_case (tag : Byte) (p : Payload (List PlanEntry)) (s : State) : ServeCase (.plan tag p) s := by
  cases p with
  | unfit => exact .answered (s, .code .badLength) (.refl s) rfl
  | fits es =>
    by_cases h : es.length = 0 ∨ 4 < es.length
    · exact .answered (s, .code .badLength) (.refl s) (by rw [serve, servePlan, if_pos h])
    · exact .planning tag es rfl (by omega) (by rw [serve, servePlan, if_neg h])

theorem serve_case (r : Instr) (s : State) : ServeCase r s := by
  cases r
  case ident _ p => exact .answered _ (serveIdent_kept p s) rfl
  case status _ p => exact .answered _ (serveStatus_kept p s) rfl
  case resetFull tag b => exact (serveReset_case tag b s).1
  case resetRun tag b => exact (serveReset_case tag b s).2
  case channelSet _ p => exact .answered _ (serveChannelSet_kept p s) rfl
  case channelOnline _ p => exact .answered _ (serveChannelOnline_kept p s) rfl
  case channelOffline _ p => exact .answered _ (serveChannelOffline_kept p s) rfl
  case conditions _ p => exact .answered _ (serveConditions_kept p s) rfl
  case headSet _ p => exact .answered _ (serveHeadSet_kept p s) rfl
  case headGet _ p => exact .answered _ (serveHeadGet_kept p s) rfl
  case park _ p => exact .answered _ (servePark_kept p s) rfl
  case unpark _ p => exact .answered _ (serveUnpark_kept p s) rfl
  case clearFault _ p => exact .answered _ (serveClearFault_kept p s) rfl
  case retire _ p => exact .answered _ (serveRetire_kept p s) rfl
  case profileSet _ p => exact .answered _ (serveProfileSet_kept p s) rfl
  case profileGet _ p => exact .answered _ (serveProfileGet_kept p s) rfl
  case rangeSet _ p => exact .answered _ (serveRangeSet_kept p s) rfl
  case ruleSet _ p => exact .answered _ (serveRuleSet_kept p s) rfl
  case ruleGet _ p => exact .answered _ (serveRuleGet_kept p s) rfl
  case counters _ p => exact .answered _ (serveCounters_kept p s) rfl
  case plan tag p => exact servePlan_case tag p s
  case cancel _ p => exact .answered _ (serveCancel_kept p s) rfl
  case safetySet _ p => exact .answered _ (serveSafetySet_kept p s) rfl
  case tend _ p => exact .answered _ (serveTend_kept p s) rfl
  case resume _ p => exact .answered _ (serveResume_kept p s) rfl
  case undefinedRequest => exact .answered (s, .code .badKind) (.refl s) rfl
  all_goals exact .noRequest rfl

theorem serve_linkServed (r : Instr) (s : State) : LinkServed s (serve r s) := by
  cases serve_case r s with
  | answered p kept eq => rw [eq]; exact answer_linkServed r _ kept
  | resetting sc _ eq => rw [eq]; exact answer_linkServed r _ (LinkKept.refl s)
  | planning tag es _ _ eq => rw [eq]; exact ⟨rfl, rfl, rfl, rfl, rfl, rfl, rfl, id⟩
  | noRequest eq => rw [eq]; exact (LinkKept.refl s).toServed

end Sys2Proof.Machine
end

section
/-! PROOFS. What a command can do, said once. Every command is a sequence of `Part`s: a change that no law of chapters 1 to 8
sees, an event of one channel, or one of the few updates of the trackers, the tables, the timer and the resets. A law that
every `Part` keeps is kept by every command and by every step. -/

namespace Sys2Proof.Machine

/-! ## What no law of the queues, the lasers, the heads and the timer sees -/

/-- The two channels differ in their lines, their temperature and the levels of their output lines at most. -/
structure SameSeat (x y : Channel) : Prop where
  config : y.config = x.config
  tracker : y.tracker = x.tracker
  queue : y.queue = x.queue
  gate : y.gate = x.gate
  seq : ∃ v l, y.seq = { x.seq with veto := v, lane := l }

/-- The Notice Queue stays within 32 notices, and a request waits only behind one in service (R170, R171, R174). -/
structure LinkOk (l m : Link) : Prop where
  notices : l.notices.length ≤ 32 → m.notices.length ≤ 32
  place : (l.waiting ≠ none → l.served ≠ none) → m.waiting ≠ none → m.served ≠ none

theorem LinkOk.refl (l : Link) : LinkOk l l := ⟨id, id⟩

theorem SameRequests.linkOk {s t : State} (h : SameRequests s t)
    (hn : s.link.notices.length ≤ 32 → t.link.notices.length ≤ 32) : LinkOk s.link t.link :=
  ⟨hn, fun hp => by rw [h.waiting, h.served]; exact hp⟩

theorem LinkKept.linkOk {s t : State} (h : LinkKept s t) : LinkOk s.link t.link := h.requests.linkOk h.notices

/-- The two states differ in time, the pins, the tables and the link at most. -/
structure SameCore (s t : State) : Prop where
  pending : t.pending = s.pending
  seats : ∀ c, SameSeat (s.chan c) (t.chan c)
  heads : t.heads = s.heads
  supply : t.supply = s.supply
  safety : t.safety = s.safety
  safe : t.safe = s.safe
  supflt : t.supflt = s.supflt
  lineEpoch : t.lineEpoch = s.lineEpoch
  link : LinkOk s.link t.link

theorem SameSeat.refl (x : Channel) : SameSeat x x := ⟨rfl, rfl, rfl, rfl, _, _, rfl⟩

/-- A change of none of the fields that `SameCore` names. -/
theorem SameCore.of_eq {s t : State} (hp : t.pending = s.pending) (h0 : t.ch0 = s.ch0) (h1 : t.ch1 = s.ch1)
    (hh : t.heads = s.heads) (hu : t.supply = s.supply) (hf : t.safety = s.safety) (hs : t.safe = s.safe)
    (hx : t.supflt = s.supflt) (he : t.lineEpoch = s.lineEpoch) (hl : LinkOk s.link t.link) : SameCore s t where
  pending := hp
  seats c := by cases c <;> simp only [State.chan_c0, State.chan_c1, h0, h1] <;> exact SameSeat.refl _
  heads := hh
  supply := hu
  safety := hf
  safe := hs
  supflt := hx
  lineEpoch := he
  link := hl

theorem SameCore.modLink (s : State) (f : Link → Link) (h : LinkOk s.link (f s.link) := by exact ⟨id, id⟩) :
    SameCore s (s.modLink f) :=
  .of_eq rfl rfl rfl rfl rfl rfl rfl rfl rfl h

theorem SameCore.placeNotice (n : Notice) (s : State) : SameCore s (placeNotice n s) :=
  .of_eq rfl rfl rfl rfl rfl rfl rfl rfl rfl (Calm.placeNotice n s).kept.linkOk

theorem SameCore.driveOutputs (s : State) : SameCore s (driveOutputs s) where
  pending := rfl
  seats c := by rw [driveOutputs_chan]; exact ⟨rfl, rfl, rfl, rfl, _, _, rfl⟩
  heads := rfl
  supply := rfl
  safety := rfl
  safe := rfl
  supflt := rfl
  lineEpoch := rfl
  link := .refl _

/-- A change of one channel that `SameSeat` allows. -/
theorem SameCore.modChan (s : State) (c : Chan) (f : Channel → Channel) (h : SameSeat (s.chan c) (f (s.chan c))) :
    SameCore s (s.modChan c f) where
  pending := State.modChan_pending ..
  seats d := by
    rcases Chan.eq_or_other c d with rfl | rfl
    · rwa [State.modChan_chan]
    · rw [State.modChan_other]; exact SameSeat.refl _
  heads := State.modChan_heads ..
  supply := State.modChan_supply ..
  safety := State.modChan_safety ..
  safe := State.modChan_safe ..
  supflt := State.setChan_supflt ..
  lineEpoch := State.setChan_lineEpoch ..
  link := by rw [State.modChan_link]; exact .refl _

/-! ## The parts of a command -/

/-- A change of the Safety Timer that does not start or stop it and keeps what `TimerLaw` says of the timer alone. -/
structure TimerMoved (x y : SafetyTimer) : Prop where
  stopped : y.state = .stopped ↔ x.state = .stopped
  period : 2 ≤ x.period ∧ x.period ≤ 2000 → 2 ≤ y.period ∧ y.period ≤ 2000
  pointer : y.state = .stopped → y.pointer = .a
  warned : (x.state = .warned → effectiveWindow x.period x.window = .open100) →
    y.state = .warned → effectiveWindow y.period y.window = .open100

/-- What CHANNEL_ONLINE does to the channel and the Safety Timer (R53, R154). -/
def bringOnline (c : Chan) (s : State) : State :=
  let s1 := setTracker c (acquiringTracker (s.chan c).config.pnom) s
  if !(s.chan c.other).online && s.safe.isNone then { s1 with safety := s1.safety.start s.now } else s1

/-- What CHANNEL_OFFLINE does to an online channel and the Safety Timer (R54, R154). -/
def takeOffline (c : Chan) (s : State) : State :=
  let s1 := (flushAll c (setTracker c (offTracker (s.chan c).config.pnom) s)).1
  if (s.chan c.other).online then s1 else { s1 with safety := s1.safety.stop }

/-- What an accepted RESUME does (R162). -/
def resumed (s : State) : State :=
  let s1 := { s with safe := none }
  if s.ch0.online || s.ch1.online then { s1 with safety := s1.safety.start s.now } else s1

/-- What a command may do beside the common parts: apply a supply limit, end Safe Dark, reset the part, move the supply fault
line. -/
structure Grants where
  limit : Prop
  wake : Prop
  reset : Prop
  pin : Prop

/-- One part of what a command does, as far as it is granted. -/
inductive Part (gr : Grants) : State → State → Prop
  | core {s t : State} (same : SameCore s t) : Part gr s t
  | event {s t : State} (c : Chan) (h : ChanEvent c s t) : Part gr s t
  | tracker (c : Chan) (t : Tracker) (s : State) (old : (s.chan c).tracker.state ≠ .off) (new : t.state ≠ .off)
      (synced : (s.chan c).tracker.synced = true → t.synced = true) : Part gr s (setTracker c t s)
  | lost (c : Chan) (k : SyncCause) (t : Tracker) (s : State) (old : (s.chan c).tracker.synced = true)
      (new : t.state = .acquiring) : Part gr s (loseReference c k t s)
  | config (c : Chan) (g : ChanConfig) (s : State) (off : (s.chan c).online = false) :
      Part gr s (s.modChan c fun x => { x with config := g })
  | online (c : Chan) (s : State) (off : (s.chan c).online = false) : Part gr s (bringOnline c s)
  | offline (c : Chan) (s : State) (on : (s.chan c).online = true) : Part gr s (takeOffline c s)
  | limit (v : Nat) (s : State) (granted : gr.limit) : Part gr s (applyLimit v s)
  | headSet (h : Fin 24) (f : HeadSetFields) (c : Chan) (s : State) (free : s.headBusy h = false) :
      Part gr s (darkenHead h (s.setHead h (s.heads[h].set f c)))
  | retire (h : Fin 24) (s : State) (free : s.headBusy h = false) :
      Part gr s (darkenHead h (s.setHead h { s.heads[h] with state := .absent, strikes := 0 }))
  | wear (h : Fin 24) (s : State) : Part gr s (wearTest h s)
  | ready (h : Fin 24) (n : Nat) (s : State) (le : n ≤ s.heads[h].strikes) :
      Part gr s (s.setHead h { s.heads[h] with state := .ready, strikes := n })
  | leak (s : State) : Part gr s (leak s)
  | timer (t : SafetyTimer) (s : State) (moved : TimerMoved s.safety t) : Part gr s { s with safety := t }
  | safeDark (k : SafeCause) (s : State) : Part gr s (enterSafeDark k s)
  | resume (s : State) (flagged : s.safe ≠ none) (low : s.supflt = false) (granted : gr.wake) : Part gr s (resumed s)
  | supflt (v : Bool) (s : State) (granted : gr.pin) : Part gr s { s with supflt := v }
  | judged (e : PlanEntry) (s : State) : Part gr s (judgeEntry e s).1
  | cold (s : State) (granted : gr.reset) : Part gr s (coldState s)
  | run (s : State) (granted : gr.reset) : Part gr s (runState s)

/-- A sequence of parts. -/
abbrev Parts (gr : Grants) : State → State → Prop := Relation.ReflTransGen (Part gr)

variable {gr : Grants}

theorem Parts.refl (s : State) : Parts gr s s := Relation.ReflTransGen.refl

theorem Part.parts {s t : State} (h : Part gr s t) : Parts gr s t := Relation.ReflTransGen.single h

theorem SameCore.parts {s t : State} (h : SameCore s t) : Parts gr s t := (Part.core h).parts

/-- A change of none of the fields that `SameCore` names is a sequence of parts. -/
theorem Parts.of_eq {s t : State} (hp : t.pending = s.pending) (h0 : t.ch0 = s.ch0) (h1 : t.ch1 = s.ch1)
    (hh : t.heads = s.heads) (hu : t.supply = s.supply) (hf : t.safety = s.safety) (hs : t.safe = s.safe)
    (hx : t.supflt = s.supflt) (he : t.lineEpoch = s.lineEpoch) (hl : t.link = s.link) : Parts gr s t :=
  (SameCore.of_eq hp h0 h1 hh hu hf hs hx he (hl ▸ .refl _)).parts

theorem ChanEvent.parts {c : Chan} {s t : State} (h : ChanEvent c s t) : Parts gr s t := (Part.event c h).parts

/-- What every part keeps, a sequence of parts keeps. -/
theorem Parts.keeps {P : State → Prop} (hP : ∀ s t, Part gr s t → P s → P t) {s t : State} (h : Parts gr s t) : P s → P t := by
  induction h with
  | refl => exact id
  | tail _ hpart ih => exact fun hs => hP _ _ hpart (ih hs)

/-! ## The services of the requests -/

theorem withPayload_parts {α : Type} (p : Payload α) (s : State) (f : α → State × Reply)
    (h : ∀ a, Parts gr s (f a).1) : Parts gr s (withPayload p s f).1 := by
  cases p with
  | fits a => exact h a
  | unfit => exact .refl s

theorem withHeadState_parts (p : HeadStateBody) (s : State) (f : Fin 24 → State × Reply)
    (h : ∀ a, Parts gr s (f a).1) : Parts gr s (withHeadState p s f).1 := by
  cases p with
  | fits b =>
    simp only [withHeadState]
    split
    · exact .refl s
    · exact h _
  | unfit => exact .refl s
  | undefinedAction _ _ => exact .refl s

theorem serveChannelSet_parts (p : Payload ChannelSetFields) (s : State) : Parts gr s (serveChannelSet p s).1 := by
  refine withPayload_parts p s _ fun f => ?_
  split
  · exact .refl s
  · rename_i c _
    split
    · exact .refl s
    · rename_i hoff
      split
      · exact .refl s
      · exact (Part.config c _ s (by simpa using hoff)).parts

theorem serveChannelOnline_parts (p : Payload Byte) (s : State) : Parts gr s (serveChannelOnline p s).1 := by
  refine withPayload_parts p s _ fun b => ?_
  split
  · exact .refl s
  · rename_i c _
    split
    · exact .refl s
    · rename_i hoff
      exact (Part.online c s (by simpa using hoff)).parts

theorem serveChannelOffline_parts (p : Payload Byte) (s : State) : Parts gr s (serveChannelOffline p s).1 := by
  refine withPayload_parts p s _ fun b => ?_
  split
  · exact .refl s
  · rename_i c _
    split
    · rename_i hon
      exact (Part.offline c s hon).parts
    · exact .refl s

theorem serveConditions_parts (granted : gr.limit) (p : Payload ConditionsFields) (s : State) : Parts gr s (serveConditions p s).1 := by
  refine withPayload_parts p s _ fun f => ?_
  dsimp only
  refine .trans ?_ (Part.limit _ _ granted).parts
  refine .trans (SameCore.modChan s .c0 _ ?_).parts (SameCore.modChan _ .c1 _ ?_).parts <;>
    exact ⟨rfl, rfl, rfl, rfl, _, _, rfl⟩

theorem serveHeadSet_parts (p : Payload HeadSetFields) (s : State) : Parts gr s (serveHeadSet p s).1 := by
  refine withPayload_parts p s _ fun f => ?_
  split
  · rename_i h c _ _
    split
    · exact .refl s
    · rename_i hfree
      exact (Part.headSet h f c s (by simpa using hfree)).parts.trans (Part.wear h _).parts
  · exact .refl s

theorem serveUnpark_parts (p : HeadStateBody) (s : State) : Parts gr s (serveUnpark p s).1 := by
  refine withHeadState_parts p s _ fun h => ?_
  dsimp only
  split
  · exact (Part.ready h s.heads[h].strikes s le_rfl).parts
  · exact .refl s

theorem serveClearFault_parts (p : HeadStateBody) (s : State) : Parts gr s (serveClearFault p s).1 := by
  refine withHeadState_parts p s _ fun h => ?_
  dsimp only
  split
  · exact (Part.ready h 0 s (Nat.zero_le _)).parts
  · exact .refl s

theorem servePark_parts (p : HeadStateBody) (s : State) : Parts gr s (servePark p s).1 := by
  cases p with
  | fits b => exact (ChanEvent.park (c := .c0) b s).parts
  | unfit => exact .refl s
  | undefinedAction _ _ => exact .refl s

theorem serveRetire_parts (p : HeadStateBody) (s : State) : Parts gr s (serveRetire p s).1 := by
  refine withHeadState_parts p s _ fun h => ?_
  split
  · exact .refl s
  · rename_i hfree
    exact (Part.retire h s (by simpa using hfree)).parts

/-- A request that changes the profiles, the checkers, the rules or the counters alone. -/
theorem serveProfileSet_parts (p : Payload ProfileSetFields) (s : State) : Parts gr s (serveProfileSet p s).1 := by
  refine withPayload_parts p s _ fun f => ?_
  split
  · exact .refl s
  · exact (Parts.of_eq rfl rfl rfl rfl rfl rfl rfl rfl rfl rfl)

theorem serveRangeSet_parts (p : Payload (List RangeWrite)) (s : State) : Parts gr s (serveRangeSet p s).1 := by
  refine withPayload_parts p s _ fun ws => ?_
  split
  · exact .refl s
  · split
    · exact .refl s
    · exact (Parts.of_eq rfl rfl rfl rfl rfl rfl rfl rfl rfl rfl)

theorem serveRuleSet_parts (p : Payload RuleSetFields) (s : State) : Parts gr s (serveRuleSet p s).1 := by
  refine withPayload_parts p s _ fun f => ?_
  split
  · exact (Parts.of_eq rfl rfl rfl rfl rfl rfl rfl rfl rfl rfl)
  · exact .refl s

theorem serveCounters_parts (p : Payload CountersFields) (s : State) : Parts gr s (serveCounters p s).1 := by
  refine withPayload_parts p s _ fun f => ?_
  split
  · exact .refl s
  · dsimp only
    split
    · exact .refl s
    · dsimp only
      split
      · exact (Parts.of_eq rfl rfl rfl rfl rfl rfl rfl rfl rfl rfl)
      · exact .refl s

theorem serveProfileGet_parts (p : Payload Byte) (s : State) : Parts gr s (serveProfileGet p s).1 := by
  refine withPayload_parts p s _ fun b => ?_
  split <;> exact .refl s

theorem serveHeadGet_parts (p : Payload Byte) (s : State) : Parts gr s (serveHeadGet p s).1 := by
  refine withPayload_parts p s _ fun b => ?_
  split <;> exact .refl s

theorem serveRuleGet_parts (p : Payload Byte) (s : State) : Parts gr s (serveRuleGet p s).1 := by
  refine withPayload_parts p s _ fun b => ?_
  split <;> exact .refl s

/-- CANCEL of the bursts of both channels, channel 0 first. -/
theorem cancelBoth_parts (sel : Burst → Bool) (s : State)
    (blind : ∀ b d : Burst, b.tag = d.tag → b.head = d.head → sel b = sel d) : Parts gr s (cancelBoth sel s).1 :=
  (ChanEvent.cancel (c := .c0) sel s blind).parts.trans (ChanEvent.cancel (c := .c1) sel _ blind).parts

theorem serveCancel_parts (p : Payload CancelFields) (s : State) : Parts gr s (serveCancel p s).1 := by
  refine withPayload_parts p s _ fun f => ?_
  split
  · exact cancelBoth_parts _ s fun b d ht _ => by rw [ht]
  · split
    · split
      · exact (ChanEvent.cancel _ s fun _ _ _ _ => rfl).parts
      · split
        · exact (ChanEvent.cancel _ s fun _ _ _ _ => rfl).parts
        · exact .refl s
    · split
      · split
        · exact cancelBoth_parts _ s fun b d _ hh => by rw [hh]
        · exact .refl s
      · exact .refl s

/-- SAFETY_SET writes a timer of the same running state with pointer A and a period in range (R152). -/
theorem serveSafetySet_parts (p : Payload SafetySetFields) (s : State) : Parts gr s (serveSafetySet p s).1 := by
  refine withPayload_parts p s _ fun f => ?_
  split
  · exact .refl s
  · refine (Part.timer _ s ⟨?_, fun _ => ?_, fun _ => rfl, fun _ hw => ?_⟩).parts
    · by_cases h : s.safety.state = .stopped <;> simp [h]
    · simp only [clampNat]; omega
    · dsimp only at hw
      split at hw <;> cases hw

/-- A TEND that is taken while the timer runs moves the timer, and may enter Safe Dark (R155). -/
theorem takeTend_parts (ph : Phase) (s : State) (hrun : s.safety.state ≠ .stopped) : Parts gr s (takeTend ph s).1 := by
  have hptr : ∀ q : Phase, TimerMoved s.safety { s.safety with pointer := q } := fun q =>
    ⟨Iff.rfl, id, fun h => absurd h hrun, fun h => h⟩
  unfold takeTend
  dsimp only
  split
  · exact (Part.timer _ s (hptr _)).parts
  · split
    · exact (Part.timer _ s (hptr _)).parts
    · split
      · have hmoved : TimerMoved s.safety { s.safety with state := .running, pointer := .a, restartedAt := s.now } :=
          ⟨by simp [hrun], id, fun hs => by simp at hs, fun _ hw => by simp at hw⟩
        exact (Part.timer _ s hmoved).parts
      · exact (Part.timer _ s (hptr _)).parts.trans (Part.safeDark ..).parts

theorem serveTend_parts (p : Payload Byte) (s : State) : Parts gr s (serveTend p s).1 := by
  refine withPayload_parts p s _ fun b => ?_
  split
  · exact .refl s
  · split
    · exact .refl s
    · rename_i hrun
      exact takeTend_parts _ s hrun

theorem serveResume_parts (p : Payload Unit) (s : State) (granted : p = .fits () → s.supflt = false → gr.wake) : Parts gr s (serveResume p s).1 := by
  cases p with
  | unfit => exact .refl s
  | fits u =>
    simp only [serveResume, withPayload]
    split
    · exact .refl s
    · rename_i cause hsafe
      split
      · exact .refl s
      · rename_i hlow
        exact (Part.resume s (by simp [hsafe]) (by simpa using hlow) (granted rfl (by simpa using hlow))).parts

/-! ## The link -/

/-- The service of this request in this state needs no grant but those that are given: CONDITIONS applies a limit, and RESUME
ends Safe Dark when SUPFLT is low (R143, R162). -/
structure Granted (gr : Grants) (r : Instr) (s : State) : Prop where
  limit : (∃ tag p, r = .conditions tag p) → gr.limit
  wake : (∃ tag, r = .resume tag (.fits ())) → s.supflt = false → gr.wake

/-- A reply that is built changes the link alone. -/
theorem answer_parts {s : State} (r : Instr) (v : Service) (p : State × Reply) (h : Parts gr s p.1) :
    Parts gr s (answer r v p) :=
  h.trans (SameCore.modLink _ _ ⟨id, fun _ _ => by simp⟩).parts

theorem serveReset_parts (r : Instr) (sc : Scope) (p : ResetBody) (s : State) : Parts gr s (serveReset r sc p s) := by
  cases p <;> exact answer_parts _ _ _ (.refl s)

theorem servePlan_parts (r : Instr) (p : Payload (List PlanEntry)) (s : State) : Parts gr s (servePlan r p s) := by
  cases p with
  | unfit => exact answer_parts _ _ _ (.refl s)
  | fits es =>
    simp only [servePlan]
    split
    · exact answer_parts _ _ _ (.refl s)
    · exact (SameCore.modLink _ _ ⟨id, fun _ _ => by simp⟩).parts

theorem serve_parts (r : Instr) (s : State) (granted : Granted gr r s) : Parts gr s (serve r s) := by
  cases r
  case ident _ p => exact answer_parts _ _ _ (withPayload_parts p s _ fun _ => .refl s)
  case status _ p => exact answer_parts _ _ _ (withPayload_parts p s _ fun _ => .refl s)
  case resetFull => exact serveReset_parts ..
  case resetRun => exact serveReset_parts ..
  case channelSet => exact answer_parts _ _ _ (serveChannelSet_parts ..)
  case channelOnline => exact answer_parts _ _ _ (serveChannelOnline_parts ..)
  case channelOffline => exact answer_parts _ _ _ (serveChannelOffline_parts ..)
  case conditions tag p => exact answer_parts _ _ _ (serveConditions_parts (granted.limit ⟨tag, p, rfl⟩) ..)
  case headSet => exact answer_parts _ _ _ (serveHeadSet_parts ..)
  case headGet => exact answer_parts _ _ _ (serveHeadGet_parts ..)
  case park => exact answer_parts _ _ _ (servePark_parts ..)
  case unpark => exact answer_parts _ _ _ (serveUnpark_parts ..)
  case clearFault => exact answer_parts _ _ _ (serveClearFault_parts ..)
  case retire => exact answer_parts _ _ _ (serveRetire_parts ..)
  case profileSet => exact answer_parts _ _ _ (serveProfileSet_parts ..)
  case profileGet => exact answer_parts _ _ _ (serveProfileGet_parts ..)
  case rangeSet => exact answer_parts _ _ _ (serveRangeSet_parts ..)
  case ruleSet => exact answer_parts _ _ _ (serveRuleSet_parts ..)
  case ruleGet => exact answer_parts _ _ _ (serveRuleGet_parts ..)
  case counters => exact answer_parts _ _ _ (serveCounters_parts ..)
  case plan => exact servePlan_parts ..
  case cancel => exact answer_parts _ _ _ (serveCancel_parts ..)
  case safetySet => exact answer_parts _ _ _ (serveSafetySet_parts ..)
  case tend => exact answer_parts _ _ _ (serveTend_parts ..)
  case resume tag p => exact answer_parts _ _ _ (serveResume_parts p s fun hp => granted.wake ⟨tag, by rw [hp]⟩)
  case undefinedRequest => exact answer_parts _ _ _ (.refl s)
  all_goals exact .refl s

/-- What a request that arrives, or one that waits, may do. -/
structure LinkGranted (gr : Grants) (s : State) : Prop where
  limit : gr.limit
  wake : (∃ tag, s.link.waiting = some (.resume tag (.fits ()))) → s.supflt = false → gr.wake

/-- The service of a waiting request is granted. -/
theorem LinkGranted.waiting {s t : State} {r : Instr} (h : LinkGranted gr s) (hr : s.link.waiting = some r)
    (ht : t.supflt = s.supflt) : Granted gr r t :=
  ⟨fun _ => h.limit, fun ⟨tag, hk⟩ hlow => h.wake ⟨tag, hr.trans (congrArg some hk)⟩ (ht ▸ hlow)⟩

theorem arrive_parts (r : Instr) (s : State) (granted : Granted gr r s) (waits : LinkGranted gr s) :
    Parts gr s (arrive r s) := by
  unfold arrive
  split
  · exact .refl s
  · split
    · exact serve_parts _ _ granted
    · rename_i hserved _
      exact (SameCore.modLink _ _ ⟨id, fun _ _ => by simp [hserved]⟩).parts
    · rename_i w hserved hw
      refine (SameCore.modLink _ _ ⟨id, fun hp => ?_⟩).parts.trans (serve_parts w _ (waits.waiting hw rfl))
      exact absurd hserved (hp (by simp [hw]))
    · split
      · exact (SameCore.modLink ..).parts
      · exact .refl s

theorem SameCore.beginFrame (f : Frame) (a : Option Scope) (s : State) : SameCore s (beginFrame f a s) :=
  SameCore.modLink ..

theorem startNotice_parts (s : State) : Parts gr s (startNotice s) := by
  unfold startNotice
  split
  · rename_i n rest _ _ hn
    refine (SameCore.modLink _ _ ⟨fun h => ?_, id⟩).parts.trans (SameCore.beginFrame ..).parts
    rw [hn] at h
    exact (Nat.le_succ _).trans h
  · exact .refl s

theorem releasePlace_parts (s : State) (waits : LinkGranted gr s) : Parts gr s (releasePlace s) := by
  unfold releasePlace
  split
  · exact .refl s
  · split
    · rename_i hnone
      exact (SameCore.modLink _ _ ⟨id, fun _ hw => absurd hnone hw⟩).parts
    · rename_i r hr
      exact (SameCore.modLink _ _ ⟨id, fun _ hw => absurd rfl hw⟩).parts.trans (serve_parts r _ (waits.waiting hr rfl))

theorem pump_parts (s : State) (waits : LinkGranted gr s) : Parts gr s (pump s) := by
  unfold pump
  split
  · dsimp only
    split
    · exact (SameCore.modLink ..).parts.trans (SameCore.beginFrame ..).parts
    · exact (SameCore.modLink ..).parts.trans
        ((SameCore.beginFrame ..).parts.trans (releasePlace_parts _ ⟨waits.limit, waits.wake⟩))
  · exact startNotice_parts s

theorem onLink_parts {f : State → State} {s : State} (h : Parts gr s (f s)) (waits : LinkGranted gr (f s)) :
    Parts gr s (onLink f s) := by
  unfold onLink
  split
  · exact .refl s
  · exact h.trans ((pump_parts _ waits).trans (SameCore.driveOutputs _).parts)

theorem takeEntry_parts (s : State) : Parts gr s (takeEntry s) := by
  unfold takeEntry
  split
  · dsimp only
    split
    · exact answer_parts _ _ _ (Part.judged _ s).parts
    · exact (Part.judged _ s).parts.trans (SameCore.modLink _ _ ⟨id, fun _ _ => by simp⟩).parts
  · exact .refl s

/-! ### The supply fault line and the waiting place -/

theorem enterSafeDark_supflt (k : SafeCause) (s : State) : (enterSafeDark k s).supflt = s.supflt := by
  unfold enterSafeDark
  split
  · rfl
  · exact ((Calm.flushAll .c0 { s with safe := some k }).trans (Calm.flushAll .c1 _)).tables.supflt

theorem admitBurst_supflt (b : Burst) (k : Classified) (s : State) : (admitBurst b k s).supflt = s.supflt := by
  unfold admitBurst
  dsimp only
  split
  all_goals exact (insertBurst_calm ..).tables.supflt

theorem judgeEntry_supflt (e : PlanEntry) (s : State) : (judgeEntry e s).1.supflt = s.supflt := by
  obtain h | ⟨j, a, p, k, -, h⟩ := judgeEntry_cases e s
  · rw [h]
  · rw [h]; exact admitBurst_supflt ..

/-- Only an edge of SUPFLT moves it. -/
theorem Part.supflt_kept {s t : State} (h : Part gr s t) (still : ¬ gr.pin) : t.supflt = s.supflt := by
  cases h with
  | core same => exact same.supflt
  | event c h => exact h.calm.tables.supflt
  | tracker c t s => exact (Calm.setTracker c t s).tables.supflt
  | lost c k t s => exact (Calm.loseReference c k t s).tables.supflt
  | config c g s => exact State.setChan_supflt ..
  | online c s =>
    have h1 := (Calm.setTracker c (acquiringTracker (s.chan c).config.pnom) s).tables.supflt
    unfold bringOnline
    dsimp only
    split <;> exact h1
  | offline c s =>
    have h1 := ((Calm.setTracker c (offTracker (s.chan c).config.pnom) s).trans (Calm.flushAll c _)).tables.supflt
    unfold takeOffline
    dsimp only
    split <;> exact h1
  | limit v s => rw [applyLimit_eq]
  | headSet h f c s => exact ((Calm.setHead s h _).trans (Calm.darkenHead h _)).tables.supflt
  | retire h s => exact ((Calm.setHead s h _).trans (Calm.darkenHead h _)).tables.supflt
  | wear h s => exact (Calm.wearTest h s).tables.supflt
  | ready => rfl
  | leak => simp only [Machine.leak]
  | timer => rfl
  | safeDark k s => exact enterSafeDark_supflt k s
  | resume s => unfold resumed; dsimp only; split <;> rfl
  | supflt v s granted => exact absurd granted still
  | judged e s => exact judgeEntry_supflt e s
  | cold => rfl
  | run s =>
    exact ((Calm.flushAll .c0 { s with supply := ⟨s.supply.limit, none⟩ }).trans (Calm.flushAll .c1 _)).tables.supflt

theorem Parts.supflt_kept {s t : State} (h : Parts gr s t) (still : ¬ gr.pin) : t.supflt = s.supflt := by
  induction h with
  | refl => rfl
  | tail _ hpart ih => exact (hpart.supflt_kept still).trans ih

/-- A request that arrives takes the waiting place, or that place stays as it is. -/
theorem arrive_waiting (r : Instr) (s : State) :
    (arrive r s).link.waiting = s.link.waiting ∨ (arrive r s).link.waiting = some r := by
  unfold arrive
  split
  · exact .inl rfl
  · split
    · exact .inl (serve_linkServed ..).waiting
    · exact .inr rfl
    · exact .inr (serve_linkServed ..).waiting
    · split <;> exact .inl rfl

theorem startNotice_waiting (s : State) : (startNotice s).link.waiting = s.link.waiting := by
  unfold startNotice
  split <;> rfl

/-- The transmitter empties the waiting place or leaves it. -/
theorem pump_waiting (s : State) : (pump s).link.waiting = s.link.waiting ∨ (pump s).link.waiting = none := by
  unfold pump
  split
  · dsimp only
    split
    · exact .inl rfl
    · unfold releasePlace
      split
      · exact .inl rfl
      · split
        · exact .inl rfl
        · exact .inr (serve_linkServed ..).waiting
  · exact .inl (startNotice_waiting s)

/-! ### Requests that arrive -/

/-- The link with a request that arrives. -/
structure ArrivalGranted (gr : Grants) (r : Instr) (s : State) : Prop extends LinkGranted gr s where
  still : ¬ gr.pin
  arrived : (∃ tag, r = .resume tag (.fits ())) → s.supflt = false → gr.wake

theorem ArrivalGranted.parts {r : Instr} {s : State} (h : ArrivalGranted gr r s) : Parts gr s (arrive r s) :=
  arrive_parts r s ⟨fun _ => h.limit, h.arrived⟩ h.toLinkGranted

/-- The link that a request has come to grants what is granted to it and to the request. -/
theorem ArrivalGranted.waits {r : Instr} {s : State} (h : ArrivalGranted gr r s) : LinkGranted gr (arrive r s) := by
  have hpin := h.parts.supflt_kept h.still
  refine ⟨h.limit, fun ⟨tag, hw⟩ hlow => ?_⟩
  rw [hpin] at hlow
  obtain hsame | hr := arrive_waiting r s
  · exact h.wake ⟨tag, hsame.symm.trans hw⟩ hlow
  · exact h.arrived ⟨tag, Option.some.inj (hr.symm.trans hw)⟩ hlow

theorem arrived_parts {r : Instr} {s : State} (h : ArrivalGranted gr r s) : Parts gr s (arrived r s) :=
  h.parts.trans ((pump_parts _ h.waits).trans (SameCore.driveOutputs _).parts)

theorem arrived_waiting (r : Instr) (s : State) {w : Instr} (h : (arrived r s).link.waiting = some w) :
    s.link.waiting = some w ∨ w = r := by
  have hpump : (pump (arrive r s)).link.waiting = some w := h
  obtain hp | hp := pump_waiting (arrive r s)
  · rw [hp] at hpump
    obtain ha | ha := arrive_waiting r s
    · exact .inl (ha.symm.trans hpump)
    · exact .inr (Option.some.inj (hpump.symm.trans ha))
  · rw [hp] at hpump; cases hpump

/-! ### Trains of characters -/

/-- The character completes a frame that carries the request `r`. -/
def completes (k : Character) (s : State) (r : Instr) : Prop :=
  (s.lineEpoch : Int) ≤ k.start + 50 ∧
    ∃ f, (receiveChar (s.link.rx.afterGap (k.start - s.link.rxEnd)) k).2 = some f ∧ requestOf f = r

/-- A frame that the train of characters completes carries the request `r`. -/
def carries (cs : List Character) (s : State) (r : Instr) : Prop :=
  ∃ pre post k, cs = pre ++ k :: post ∧ completes k (takeChars pre s) r

theorem carries_head {k : Character} {s : State} {r : Instr} (h : completes k s r) (cs : List Character) :
    carries (k :: cs) s r := ⟨[], cs, k, rfl, h⟩

theorem carries_tail {k : Character} {cs : List Character} {s : State} {r : Instr} (h : carries cs (takeChar s k) r) :
    carries (k :: cs) s r := by
  obtain ⟨pre, post, l, rfl, h⟩ := h
  exact ⟨k :: pre, post, l, rfl, h⟩

/-- The link with a train of characters that arrives. -/
structure TrainGranted (gr : Grants) (cs : List Character) (s : State) : Prop extends LinkGranted gr s where
  still : ¬ gr.pin
  carried : (∃ tag, carries cs s (.resume tag (.fits ()))) → s.supflt = false → gr.wake

theorem takeChar_parts {s : State} {k : Character} {cs : List Character} (h : TrainGranted gr (k :: cs) s) :
    Parts gr s (takeChar s k) ∧ TrainGranted gr cs (takeChar s k) := by
  have hparts : Parts gr s (takeChar s k) := by
    obtain ⟨_, he⟩ | ⟨hepoch, r, s1, rfl, rfl, ⟨_, he⟩ | ⟨f, hf, he⟩⟩ := takeChar_cases s k
    · rw [he]
    · rw [he]; exact (SameCore.modLink ..).parts
    · rw [he]
      refine (SameCore.modLink ..).parts.trans (arrived_parts ⟨⟨h.limit, h.wake⟩, h.still, fun ⟨tag, hr⟩ => ?_⟩)
      exact h.carried ⟨tag, carries_head ⟨hepoch, f, hf, hr⟩ cs⟩
  refine ⟨hparts, ⟨h.limit, fun ⟨tag, hw⟩ hlow => ?_⟩, h.still, fun ⟨tag, hc⟩ hlow => ?_⟩
  · rw [hparts.supflt_kept h.still] at hlow
    obtain ⟨_, he⟩ | ⟨hepoch, r, s1, rfl, rfl, ⟨_, he⟩ | ⟨f, hf, he⟩⟩ := takeChar_cases s k
    · rw [he] at hw; exact h.wake ⟨tag, hw⟩ hlow
    · rw [he] at hw; exact h.wake ⟨tag, hw⟩ hlow
    · rw [he] at hw
      obtain hw | hw := arrived_waiting _ _ hw
      · exact h.wake ⟨tag, hw⟩ hlow
      · exact h.carried ⟨tag, carries_head ⟨hepoch, f, hf, hw.symm⟩ cs⟩ hlow
  · rw [hparts.supflt_kept h.still] at hlow
    exact h.carried ⟨tag, carries_tail hc⟩ hlow

theorem takeChars_parts {cs : List Character} {s : State} (h : TrainGranted gr cs s) : Parts gr s (takeChars cs s) := by
  induction cs generalizing s with
  | nil => exact .refl s
  | cons k cs ih =>
    obtain ⟨hparts, hnext⟩ := takeChar_parts h
    exact hparts.trans (ih hnext)

/-! ## The resets -/

theorem afterReset_parts (s : State) : Parts gr s (afterReset s) := by
  unfold afterReset
  split
  · exact (Part.safeDark ..).parts
  · exact .refl s

theorem actReset_parts (granted : gr.reset) (sc : Scope) (s : State) : Parts gr s (actReset sc s) := by
  cases sc
  · exact (Part.cold s granted).parts.trans (afterReset_parts _)
  · exact (Part.run s granted).parts.trans (afterReset_parts _)

theorem endFrame_parts (s : State)
    (granted : (∃ x sc, s.link.tx = some x ∧ x.endsAt ≤ s.now ∧ x.acts = some sc) → gr.reset) :
    Parts gr s (endFrame s) := by
  unfold endFrame
  split
  · exact .refl s
  · rename_i x hx
    split
    · rename_i hend
      dsimp only
      split
      · exact (SameCore.modLink ..).parts
      · rename_i sc hacts
        exact (SameCore.modLink ..).parts.trans (actReset_parts (granted ⟨x, sc, hx, hend, hacts⟩) ..)
    · exact .refl s

theorem actReset_waiting (sc : Scope) (s : State) : (actReset sc s).link.waiting = none := by
  have hafter : ∀ u : State, (afterReset u).link.waiting = u.link.waiting := by
    intro u
    unfold afterReset
    split
    · exact (enterSafeDark_kept ..).requests.waiting
    · rfl
  cases sc <;> exact hafter _

/-- The end of a frame empties the waiting place, by a reset, or leaves it. -/
theorem endFrame_waiting (s : State) :
    (endFrame s).link.waiting = s.link.waiting ∨ (endFrame s).link.waiting = none := by
  unfold endFrame
  split
  · exact .inl rfl
  · split
    · dsimp only
      split
      · exact .inl rfl
      · exact .inr (actReset_waiting ..)
    · exact .inl rfl

theorem takeEntry_waiting (s : State) : (takeEntry s).link.waiting = s.link.waiting := by
  unfold takeEntry
  split
  · dsimp only
    split <;> exact (judgeEntry_kept ..).requests.waiting
  · rfl

theorem beginHold_parts (granted : gr.reset) (s : State) : Parts gr s (beginHold s) := by
  have hheld : Parts gr (coldState s) { coldState s with held := true, now := s.now, rstn := s.rstn } :=
    Parts.of_eq rfl rfl rfl rfl rfl rfl rfl rfl rfl rfl
  exact (Part.cold s granted).parts.trans (hheld.trans (SameCore.driveOutputs _).parts)

theorem endHold_parts (granted : gr.reset) (s : State) : Parts gr s (endHold s) := by
  have hrisen : Parts gr (coldState s) { coldState s with rstn := ⟨false, 0⟩ } :=
    Parts.of_eq rfl rfl rfl rfl rfl rfl rfl rfl rfl rfl
  exact (Part.cold s granted).parts.trans <| hrisen.trans <|
    (afterReset_parts _).trans ((startNotice_parts _).trans (SameCore.driveOutputs _).parts)

/-! ## The lines -/

theorem onEvent_parts {f : State → State} {s : State} (h : Parts gr s (f s)) : Parts gr s (onEvent f s) := by
  unfold onEvent
  split
  · exact .refl s
  · exact h.trans ((startNotice_parts _).trans (SameCore.driveOutputs _).parts)

/-- A line of a channel takes another record. -/
theorem lines_parts (s : State) (c : Chan) (f : Channel → Channel) (h : SameSeat (s.chan c) (f (s.chan c))) :
    Parts gr s (s.modChan c f) :=
  (SameCore.modChan s c f h).parts

theorem setGuardLine_parts (c : Chan) (y : Line) (s : State) : Parts gr s (setGuardLine c y s) :=
  lines_parts _ _ _ ⟨rfl, rfl, rfl, rfl, _, _, rfl⟩

theorem setLightLine_parts (c : Chan) (y : Line) (s : State) : Parts gr s (setLightLine c y s) :=
  lines_parts _ _ _ ⟨rfl, rfl, rfl, rfl, _, _, rfl⟩

theorem moveEdge_parts (c : Chan) (p : SyncPin) (e : LineEdge) (s : State) : Parts gr s (moveEdge c p e s) := by
  cases p <;> exact lines_parts _ _ _ ⟨rfl, rfl, rfl, rfl, _, _, rfl⟩

theorem pinEdge_parts (c : Chan) (s : State) (e : SyncPin × LineEdge) : Parts gr s (pinEdge c s e) := by
  obtain ⟨p, e⟩ := e
  cases p <;> exact lines_parts _ _ _ ⟨rfl, rfl, rfl, rfl, _, _, rfl⟩

/-! ### SYNC -/

theorem acquire_parts (c : Chan) (n : Nat) (i : Bool) (s : State) (h : (s.chan c).tracker.state = .acquiring) :
    Parts gr s (acquire c n i s) := by
  have hsync : (s.chan c).tracker.synced = false := by simp [Tracker.synced, h]
  have hset : ∀ t : Tracker, t.state ≠ .off → Parts gr s (setTracker c t s) := fun t ht =>
    (Part.tracker c t s (by simp [h]) ht (by simp [hsync])).parts
  unfold acquire
  dsimp only
  split
  · split
    · exact hset _ (by simp [firstAnchor, h])
    · exact .refl s
  · rename_i a _
    have hnew : (nextInterval (s.chan c).config (s.chan c).tracker a n i).state ≠ .off := by
      unfold nextInterval firstAnchor
      dsimp only
      split
      · split
        · simp [h]
        · dsimp only
          split <;> simp
      · split <;> simp [h]
    split
    · exact (hset _ hnew).trans (SameCore.placeNotice ..).parts
    · exact hset _ hnew

theorem track_parts (c : Chan) (n : Nat) (i : Bool) (s : State) (h : (s.chan c).tracker.synced = true) :
    Parts gr s (track c n i s) := by
  have hon : (s.chan c).tracker.state ≠ .off := by
    intro hoff; simp [Tracker.synced, hoff] at h
  unfold track
  dsimp only
  split
  · exact .refl s
  · split
    · split
      · exact (Part.lost c _ _ s h rfl).parts
      · exact (Part.tracker c _ s hon (by simp) (by simp [Tracker.synced])).parts.trans (ChanEvent.anchor ..).parts
    · exact .refl s

theorem syncRecognised_parts (c : Chan) (n : Nat) (i : Bool) (s : State) : Parts gr s (syncRecognised c n i s) := by
  unfold syncRecognised
  split
  · exact .refl s
  · rename_i h
    exact acquire_parts c n i s h
  · rename_i h
    exact track_parts c n i s (by simp [Tracker.synced, h])
  · rename_i h
    exact track_parts c n i s (by simp [Tracker.synced, h])

theorem recogniseSync_parts (c : Chan) (s : State) : Parts gr s (recogniseSync c s) :=
  .trans (lines_parts s c (fun x => { x with
      syncLine := (s.chan c).syncLine.recognised (s.chan c).config.syncFilter
      indexPin := (s.chan c).indexPin.heldUntil ((s.chan c).syncLine.recognised (s.chan c).config.syncFilter).since })
    ⟨rfl, rfl, rfl, rfl, _, _, rfl⟩) (syncRecognised_parts ..)

theorem takeEdge_parts (c : Chan) (s : State) (e : SyncPin × LineEdge) : Parts gr s (takeEdge c s e) := by
  unfold takeEdge
  dsimp only
  refine .trans ?_ (moveEdge_parts ..)
  split
  · exact onEvent_parts (recogniseSync_parts c s)
  · exact Parts.refl s

/-- A sequence of edges, each of them a sequence of parts. -/
theorem foldl_parts {α : Type} (f : State → α → State) (h : ∀ s a, Parts gr s (f s a)) (l : List α) (s : State) :
    Parts gr s (l.foldl f s) := by
  induction l generalizing s with
  | nil => exact Relation.ReflTransGen.refl
  | cons a l ih => exact (h s a).trans (ih _)

theorem miss_parts (c : Chan) (s : State) (h : (s.chan c).tracker.synced = true) : Parts gr s (miss c s) := by
  have hon : (s.chan c).tracker.state ≠ .off := by
    intro hoff; simp [Tracker.synced, hoff] at h
  unfold miss
  dsimp only
  split
  · exact .refl s
  · split
    · refine .trans ?_ (ChanEvent.anchor ..).parts
      have hset := fun (t : Tracker) (ht : t.state = .coasting) => (Part.tracker (gr := gr) c t s hon (by simp [ht]) (by simp [Tracker.synced, ht])).parts
      split
      · exact (hset _ rfl).trans (SameCore.placeNotice ..).parts
      · exact hset _ rfl
    · exact (Part.lost c _ _ s h rfl).parts

/-! ### GUARD and LSENSE -/

theorem recogniseGuard_parts (c : Chan) (s : State) : Parts gr s (recogniseGuard c s) := by
  unfold recogniseGuard
  dsimp only
  split
  · exact (setGuardLine_parts ..).trans (ChanEvent.guard _).parts
  · exact setGuardLine_parts ..

theorem guardEdge_parts (c : Chan) (v : Bool) (n : Nat) (s : State) : Parts gr s (guardEdge c v n s) := by
  unfold guardEdge
  dsimp only
  split
  · exact (setGuardLine_parts ..).trans (recogniseGuard_parts ..)
  · exact setGuardLine_parts ..

theorem onGuard_parts (c : Chan) (v : Bool) (n : Nat) (s : State) : Parts gr s (onGuard c v n s) := by
  unfold onGuard
  dsimp only
  split
  · exact setGuardLine_parts ..
  · split
    · exact (onEvent_parts (recogniseGuard_parts c s)).trans (onEvent_parts (guardEdge_parts ..))
    · exact onEvent_parts (guardEdge_parts ..)

theorem recogniseLight_parts (c : Chan) (s : State) : Parts gr s (recogniseLight c s) := by
  unfold recogniseLight
  dsimp only
  split
  · exact (setLightLine_parts ..).trans (ChanEvent.light ..).parts
  · exact (setLightLine_parts ..).trans (ChanEvent.lightLost ..).parts

theorem lightEdge_parts (c : Chan) (v : Bool) (n : Nat) (s : State) : Parts gr s (lightEdge c v n s) := by
  unfold lightEdge
  dsimp only
  split
  · exact (setLightLine_parts ..).trans (recogniseLight_parts ..)
  · exact setLightLine_parts ..

theorem onLight_parts (c : Chan) (v : Bool) (n : Nat) (s : State) : Parts gr s (onLight c v n s) := by
  unfold onLight
  dsimp only
  split
  · exact setLightLine_parts ..
  · split
    · exact (onEvent_parts (recogniseLight_parts c s)).trans (onEvent_parts (lightEdge_parts ..))
    · exact onEvent_parts (lightEdge_parts ..)

/-- An event that is taken when it is due. -/
theorem whenDue_parts {due : Bool} {f : State → State} {s : State} (h : due = true → Parts gr s (f s)) :
    Parts gr s (if due = true then f s else s) := by
  split
  · rename_i hd; exact h hd
  · exact .refl s

theorem expire_parts (s : State) (h : s.safety.state ≠ .stopped) : Parts gr s (expire s) := by
  unfold expire
  dsimp only
  split
  · rename_i hw
    have hmoved : TimerMoved s.safety { s.safety with state := .warned, pointer := .a, restartedAt := s.now } :=
      ⟨by simp [h], id, fun hs => by simp at hs, fun _ _ => hw.2⟩
    exact (Part.timer _ s hmoved).parts.trans (SameCore.placeNotice ..).parts
  · exact (Part.safeDark ..).parts

/-! ## Every command and every step -/

theorem overrun_parts (c : Chan) (s : State) : ∀ t, execOverrun c s = .next t → Parts gr s t := by
  intro t h
  cases h
  refine onEvent_parts ?_
  dsimp only
  split
  · rename_i hw _
    split
    · exact (ChanEvent.overrun _ s hw).parts
    · exact .refl s
  · exact .refl s

/-- The command is one at the link, which may take a request into service: a request, characters that arrive, or an event of
the link (R168 to R173). -/
def atLink : Instr → Bool
  | .coldResetBegin _ | .coldResetAct | .syncRecognition _ _ _ | .missExpiry _ | .guardAssertion _ _ => false
  | .guardDeassertion _ _ | .lightAssertion _ _ | .lightDeassertion _ _ | .wgateRise _ | .wgateFall _ => false
  | .supfltRise | .supfltFall | .arming _ | .preheatEnd _ | .windowClose _ | .boostEnd _ | .overrun _ => false
  | .tailEnd _ | .lightDeadline _ | .biasHoldExpiry _ | .leakInstant | .safetyExpiry => false
  | _ => true

/-- What a command is granted: a limit at the link, an edge of SUPFLT to its two commands, and the end of Safe Dark to a RESUME
that is the command, a frame of the train or the request that waits, while SUPFLT is low, and to a reset. -/
structure ExecGranted (gr : Grants) (i : Instr) (s : State) : Prop where
  limit : atLink i = true → gr.limit
  pin : i = .supfltRise ∨ i = .supfltFall → gr.pin
  resumes : (∃ tag, i = .resume tag (.fits ()) ∨
      (∃ cs, i = .frameArrival cs ∧ s.held = false ∧ carries cs s (.resume tag (.fits ()))) ∨
      s.link.waiting = some (.resume tag (.fits ()))) → s.supflt = false → gr.wake
  acts : (∃ x sc, s.link.tx = some x ∧ x.endsAt ≤ s.now ∧ x.acts = some sc) → gr.reset
  cold : (∃ low, i = .coldResetBegin low) ∨ i = .coldResetAct → gr.reset

/-- The grants without the edges of SUPFLT. -/
def Grants.still (gr : Grants) : Grants := { gr with pin := False }

theorem Part.of_still {s t : State} (h : Part gr.still s t) : Part gr s t := by
  cases h with
  | core same => exact .core same
  | event c h => exact .event c h
  | tracker c t s old new synced => exact .tracker c t s old new synced
  | lost c k t s old new => exact .lost c k t s old new
  | config c g s off => exact .config c g s off
  | online c s off => exact .online c s off
  | offline c s on => exact .offline c s on
  | limit v s granted => exact .limit v s granted
  | headSet h f c s free => exact .headSet h f c s free
  | retire h s free => exact .retire h s free
  | wear h s => exact .wear h s
  | ready h n s le => exact .ready h n s le
  | leak s => exact .leak s
  | timer t s moved => exact .timer t s moved
  | safeDark k s => exact .safeDark k s
  | resume s flagged low granted => exact .resume s flagged low granted
  | supflt v s granted => exact granted.elim
  | judged e s => exact .judged e s
  | cold s granted => exact .cold s granted
  | run s granted => exact .run s granted

theorem Parts.of_still {s t : State} (h : Parts gr.still s t) : Parts gr s t :=
  Relation.ReflTransGen.mono (fun _ _ => Part.of_still) _ _ h

/-- An event at the link that may begin a reset and leaves the waiting place, or empties it. -/
theorem atLink_parts {f : State → State} {s : State} (limit : gr.limit)
    (waits : (∃ tag, s.link.waiting = some (.resume tag (.fits ()))) → s.supflt = false → gr.wake)
    (h : Parts gr.still s (f s)) (hw : (f s).link.waiting = s.link.waiting ∨ (f s).link.waiting = none) :
    Parts gr s (onLink f s) := by
  have hpin : (f s).supflt = s.supflt := h.supflt_kept id
  refine (onLink_parts h ⟨limit, fun ⟨tag, hk⟩ hlow => ?_⟩).of_still
  rw [hpin] at hlow
  obtain hw | hw := hw
  · exact waits ⟨tag, hw.symm.trans hk⟩ hlow
  · rw [hw] at hk; cases hk

/-- A request is a sequence of parts. -/
theorem request_parts {r : Instr} {s : State} (limit : gr.limit)
    (waits : (∃ tag, s.link.waiting = some (.resume tag (.fits ()))) → s.supflt = false → gr.wake)
    (resumes : (∃ tag, r = .resume tag (.fits ())) → s.supflt = false → gr.wake) :
    Parts gr s (onLink (arrive r) s) := by
  have h : ArrivalGranted gr.still r s := ⟨⟨limit, waits⟩, id, resumes⟩
  exact (onLink_parts h.parts h.waits).of_still

/-- Every command is a sequence of the parts that are granted to it. -/
theorem exec_parts_of {i : Instr} {s t : State} (granted : ExecGranted gr i s) (h : exec i s = .next t) :
    Parts gr s t := by
  obtain ⟨limit, pin, resumes, acts, cold⟩ := granted
  have waits : (∃ tag, s.link.waiting = some (.resume tag (.fits ()))) → s.supflt = false → gr.wake :=
    fun ⟨tag, hw⟩ => resumes ⟨tag, .inr (.inr hw)⟩
  have resumed : (∃ tag, i = .resume tag (.fits ())) → s.supflt = false → gr.wake :=
    fun ⟨tag, hi⟩ => resumes ⟨tag, .inl hi⟩
  cases i
  case overrun c => exact overrun_parts c s t h
  case frameArrival cs =>
    cases h
    split
    · exact .refl s
    · rename_i hheld
      have htrain : TrainGranted gr.still cs s := ⟨⟨limit rfl, waits⟩, id, fun ⟨tag, hc⟩ =>
        resumes ⟨tag, .inr (.inl ⟨cs, rfl, by simpa using hheld, hc⟩)⟩⟩
      exact (takeChars_parts htrain).of_still
  case gapLimitDiscard =>
    cases h
    refine atLink_parts (limit rfl) waits ?_ ?_
    · split
      · exact (SameCore.modLink ..).parts
      · exact .refl s
    · split <;> exact .inl rfl
  case transmitEnd => cases h; exact atLink_parts (limit rfl) waits (endFrame_parts s acts) (endFrame_waiting s)
  case planEntry => cases h; exact atLink_parts (limit rfl) waits (takeEntry_parts s) (.inl (takeEntry_waiting s))
  case coldResetBegin n =>
    have hset : Parts gr s { s with rstn := s.rstn.fallen n s.now } := (Parts.of_eq rfl rfl rfl rfl rfl rfl rfl rfl rfl rfl)
    simp only [exec, execColdResetBegin] at h
    split at h
    · cases h; exact .refl s
    · cases h
      split
      · exact hset.trans (beginHold_parts (cold (.inl ⟨n, rfl⟩)) _)
      · exact hset
  case coldResetAct =>
    cases h
    split
    · exact endHold_parts (cold (.inr rfl)) s
    · split
      · exact (beginHold_parts (cold (.inr rfl)) s).trans (endHold_parts (cold (.inr rfl)) _)
      · split
        · exact (Parts.of_eq rfl rfl rfl rfl rfl rfl rfl rfl rfl rfl)
        · exact .refl s
  case syncRecognition c a b =>
    cases h
    split
    · exact foldl_parts _ (pinEdge_parts c) _ s
    · refine (foldl_parts _ (takeEdge_parts c) _ s).trans (onEvent_parts ?_)
      exact whenDue_parts (f := recogniseSync c) fun _ => recogniseSync_parts ..
  case missExpiry c =>
    cases h
    refine onEvent_parts (whenDue_parts (f := miss c) fun hd => miss_parts c s ?_)
    simp only [missDue, Bool.and_eq_true] at hd
    exact hd.1
  case guardAssertion => cases h; exact onGuard_parts ..
  case guardDeassertion => cases h; exact onGuard_parts ..
  case lightAssertion => cases h; exact onLight_parts ..
  case lightDeassertion => cases h; exact onLight_parts ..
  case wgateRise c =>
    have hpin : Parts gr s (s.setChan c { s.chan c with wgate := true }) :=
      lines_parts s c (fun x => { x with wgate := true }) ⟨rfl, rfl, rfl, rfl, _, _, rfl⟩
    simp only [exec, execWgateRise] at h
    split at h
    · cases h; exact .refl s
    · cases h; exact hpin.trans (onEvent_parts (ChanEvent.gateRise _).parts)
  case wgateFall c =>
    have hpin : Parts gr s (s.setChan c { s.chan c with wgate := false }) :=
      lines_parts s c (fun x => { x with wgate := false }) ⟨rfl, rfl, rfl, rfl, _, _, rfl⟩
    simp only [exec, execWgateFall] at h
    split at h
    · cases h; exact hpin.trans (onEvent_parts (ChanEvent.gateFall _).parts)
    · cases h; exact .refl s
  case supfltRise =>
    have hpin : Parts gr s { s with supflt := true } := (Part.supflt true s (pin (.inl rfl))).parts
    simp only [exec, execSupfltRise] at h
    split at h
    · cases h; exact .refl s
    · cases h; exact hpin.trans (onEvent_parts (Part.safeDark ..).parts)
  case supfltFall => cases h; exact (Part.supflt false s (pin (.inr rfl))).parts
  case arming c =>
    cases h
    exact onEvent_parts (whenDue_parts (f := atOnce c (arm c)) fun hd => (ChanEvent.arming s hd).parts)
  case preheatEnd c =>
    cases h
    exact onEvent_parts (whenDue_parts (f := endPreheat c) fun hd => (ChanEvent.preheatEnd s hd).parts)
  case windowClose c =>
    cases h
    exact onEvent_parts (whenDue_parts (f := atOnce c (closeWindow c)) fun hd => (ChanEvent.windowClose s hd).parts)
  case boostEnd c =>
    cases h
    exact onEvent_parts (whenDue_parts (f := endBoost c) fun hd => (ChanEvent.boostEnd s hd).parts)
  case tailEnd c =>
    cases h
    exact onEvent_parts (whenDue_parts (f := tailOver c) fun hd => (ChanEvent.tailEnd s hd).parts)
  case lightDeadline c =>
    cases h
    refine onEvent_parts ?_
    split
    · rename_i hd; exact (ChanEvent.lightAbsent s hd).parts
    · exact (ChanEvent.owedAbsent s).parts
  case biasHoldExpiry c =>
    cases h
    exact onEvent_parts (whenDue_parts (f := goDark c) fun hd => (ChanEvent.biasHold s hd).parts)
  case leakInstant =>
    cases h
    exact onEvent_parts (whenDue_parts (f := leak) fun _ => (Part.leak s).parts)
  case safetyExpiry =>
    cases h
    refine onEvent_parts (whenDue_parts (f := expire) fun hd => expire_parts s ?_)
    simp only [expiryDue, Bool.and_eq_true, bne_iff_ne] at hd
    exact hd.1
  all_goals cases h; exact request_parts (limit rfl) waits resumed

/-- A command may do everything that some command may. -/
def Grants.all : Grants := ⟨True, True, True, True⟩

theorem exec_parts {i : Instr} {s t : State} (h : exec i s = .next t) : Parts .all s t :=
  exec_parts_of ⟨fun _ => trivial, fun _ => trivial, fun _ _ => trivial, fun _ => trivial, fun _ => trivial⟩ h

/-- A step takes a command on a state that differs in its queue of commands and its free choices alone, or lets a tick go
by. -/
theorem step_cases {s t : State} (h : step s = .next t) :
    (∃ i p n, (s.pending.head? = some i ∨ s.pending = [] ∧ i ∈ dueEvents s) ∧
      exec i { s with pending := p, choices := n } = .next t) ∨ s.pending = [] ∧ t = tick s := by
  unfold step at h
  split at h
  · rename_i i rest hp
    exact .inl ⟨i, rest, s.choices, .inl (by simp [hp]), h⟩
  · rename_i hp
    unfold idle at h
    split at h
    · cases h; exact .inr ⟨hp, rfl⟩
    · rename_i i hdue
      exact .inl ⟨i, s.pending, s.choices, .inr ⟨hp, by simp [hdue]⟩, h⟩
    · rename_i i j rest hdue
      refine .inl ⟨choose (i :: j :: rest) s, s.pending, s.choices + 1, .inr ⟨hp, ?_⟩, h⟩
      have hlt : Config.order s.choices % (i :: j :: rest).length < (i :: j :: rest).length :=
        Nat.mod_lt _ (by simp)
      rw [hdue, choose, List.getD_eq_getElem _ _ hlt]
      exact List.getElem_mem hlt

/-- What every part keeps, and what neither the queue of commands, the free choices nor the time enter, every step keeps. -/
theorem step_keeps {P : State → Prop} (hP : ∀ s t, Part .all s t → P s → P t)
    (hfree : ∀ (s : State) p n, P s → P { s with pending := p, choices := n })
    {s t : State} (h : step s = .next t) (hs : P s) : P t := by
  obtain ⟨i, p, n, _, hi⟩ | ⟨_, rfl⟩ := step_cases h
  · exact (exec_parts hi).keeps hP (hfree s p n hs)
  · unfold tick
    split
    · exact hs
    · exact hP s _ (.core (SameCore.of_eq rfl rfl rfl rfl rfl rfl rfl rfl rfl (.refl _))) hs

end Sys2Proof.Machine
end

section
/-! PROOFS. The step (R48, R171): which command it takes, that every command answers a next state, and that the queue of
waiting commands is touched by no command. -/

namespace Sys2Proof.Machine

/-- Settles O1. -/
theorem stepTakesTheFrontCommand : Obligations.StepTakesTheFrontCommand := by
  intro i rest s hp
  simp only [step, hp]

/-- Settles O2: the three forms of the list of due events. -/
theorem emptyQueueLetsTimePass : Obligations.EmptyQueueLetsTimePass := by
  intro s hp
  have hstep : step s = idle s := by simp only [step, hp]
  refine ⟨fun hnone hheld => ?_, fun hheld => ?_, fun hdue => ?_⟩
  · simp [hstep, idle, hnone, tick, hheld]
  · have hnone : dueEvents s = [] := by simp [dueEvents, hheld]
    simp [hstep, idle, hnone, tick, hheld]
  · rw [hstep, idle]
    split
    · contradiction
    · rename_i i hi
      exact ⟨i, by simp [hi], s.choices, rfl⟩
    · rename_i i j rest hi
      have hlt : Config.order s.choices % (i :: j :: rest).length < (i :: j :: rest).length := Nat.mod_lt _ (by simp)
      refine ⟨choose (i :: j :: rest) s, ?_, s.choices + 1, rfl⟩
      rw [hi, choose, List.getD_eq_getElem _ _ hlt]
      exact List.getElem_mem hlt

/-- No part of a command touches the queue of waiting commands. -/
theorem Part.pending {gr : Grants} {s t : State} (h : Part gr s t) : t.pending = s.pending := by
  cases h with
  | core same => exact same.pending
  | event c h => exact h.calm.tables.pending
  | tracker c t s => exact (Calm.setTracker c t s).tables.pending
  | lost c k t s => exact (Calm.loseReference c k t s).tables.pending
  | config c g s => exact State.modChan_pending ..
  | online c s =>
    have h1 := (Calm.setTracker c (acquiringTracker (s.chan c).config.pnom) s).tables.pending
    unfold bringOnline
    dsimp only
    split <;> exact h1
  | offline c s =>
    have h1 := ((Calm.setTracker c (offTracker (s.chan c).config.pnom) s).trans (Calm.flushAll c _)).tables.pending
    unfold takeOffline
    dsimp only
    split <;> exact h1
  | limit v s => unfold applyLimit; split <;> rfl
  | headSet h f c s => exact ((Calm.setHead s h _).trans (Calm.darkenHead h _)).tables.pending
  | retire h s => exact ((Calm.setHead s h _).trans (Calm.darkenHead h _)).tables.pending
  | wear h s => exact (Calm.wearTest h s).tables.pending
  | ready => rfl
  | leak => simp only [Machine.leak]
  | timer => rfl
  | safeDark k s => exact (enterSafeDark_kept k s).pending
  | resume s => unfold resumed; dsimp only; split
                · rfl
                · rfl
  | supflt => rfl
  | judged e s => exact (judgeEntry_kept e s).pending
  | cold => rfl
  | run s =>
    exact ((Calm.flushAll .c0 { s with supply := ⟨s.supply.limit, none⟩ }).trans (Calm.flushAll .c1 _)).tables.pending

theorem exec_pending {i : Instr} {s t : State} (h : exec i s = .next t) : t.pending = s.pending :=
  (exec_parts h).keeps (P := fun u => u.pending = s.pending) (fun _ _ hp hu => hp.pending.trans hu) rfl

/-- Every command answers a next state. -/
theorem exec_next (i : Instr) (s : State) : ∃ t, exec i s = .next t := by
  cases i
  case coldResetBegin n =>
    simp only [exec, execColdResetBegin]
    split <;> exact ⟨_, rfl⟩
  case wgateRise c =>
    simp only [exec, execWgateRise]
    split <;> exact ⟨_, rfl⟩
  case wgateFall c =>
    simp only [exec, execWgateFall]
    split <;> exact ⟨_, rfl⟩
  case supfltRise =>
    simp only [exec, execSupfltRise]
    split <;> exact ⟨_, rfl⟩
  all_goals exact ⟨_, rfl⟩

/-- Settles O3: no meaning ends in a fault or a refusal, and no part of one touches the queue of commands. -/
theorem everyCommandGoesOn : Obligations.EveryCommandGoesOn := by
  intro i s
  obtain ⟨t, ht⟩ := exec_next i s
  exact ⟨t, ht, exec_pending ht⟩

end Sys2Proof.Machine
end

section
/-! PROOFS. Rules. What the shared operations of the machine leave in each field of the state, and the operations of one
channel as one replacement of that channel. Later proofs rewrite by these equations and unfold no operation. -/

namespace Sys2Proof.Machine

/-! ## Replacing a channel -/

@[simp] theorem setChan_setChan (s : State) (c : Chan) (x y : Channel) : (s.setChan c x).setChan c y = s.setChan c y := by
  cases c <;> rfl

@[simp] theorem setChan_self (s : State) (c : Chan) : s.setChan c (s.chan c) = s := by cases c <;> rfl

theorem modChan_eq (s : State) (c : Chan) (f : Channel → Channel) : s.modChan c f = s.setChan c (f (s.chan c)) := rfl

theorem modSeq_eq (s : State) (c : Chan) (f : Sequencer → Sequencer) :
    s.modSeq c f = s.setChan c { s.chan c with seq := f (s.chan c).seq } := rfl

theorem modFront_eq (c : Chan) (f : Burst → Burst) (s : State) :
    modFront c f s = s.setChan c { s.chan c with queue := modFirst f (s.chan c).queue } := rfl

/-- Two states that agree on one channel and differ there at most agree after the channel is replaced. -/
theorem setChan_congr {s t : State} (c : Chan) (x : Channel) (h : t = s.setChan c (t.chan c)) :
    t.setChan c x = s.setChan c x := by rw [h]; simp

theorem committedSum_eq (s : State) (c : Chan) :
    s.committedSum = (s.chan c).seq.committed + (s.chan c.other).seq.committed := by
  cases c
  · rfl
  · exact Nat.add_comm _ _

theorem setChan_comm (s : State) (c : Chan) (x y : Channel) :
    (s.setChan c x).setChan c.other y = (s.setChan c.other y).setChan c x := by cases c <;> rfl

/-! ## The link -/

@[simp] theorem placeNotice_chan (n : Notice) (s : State) (c : Chan) : (placeNotice n s).chan c = s.chan c := by
  cases c <;> rfl
@[simp] theorem placeNotice_ch0 (n : Notice) (s : State) : (placeNotice n s).ch0 = s.ch0 := rfl
@[simp] theorem placeNotice_ch1 (n : Notice) (s : State) : (placeNotice n s).ch1 = s.ch1 := rfl
@[simp] theorem placeNotice_heads (n : Notice) (s : State) : (placeNotice n s).heads = s.heads := rfl
@[simp] theorem placeNotice_supply (n : Notice) (s : State) : (placeNotice n s).supply = s.supply := rfl
@[simp] theorem placeNotice_now (n : Notice) (s : State) : (placeNotice n s).now = s.now := rfl
@[simp] theorem placeNotice_safe (n : Notice) (s : State) : (placeNotice n s).safe = s.safe := rfl
@[simp] theorem placeNotice_safety (n : Notice) (s : State) : (placeNotice n s).safety = s.safety := rfl

/-- A link with a notice placed in its Notice Queue (R174, R175). -/
def Link.noticed (n : Notice) (l : Link) : Link :=
  if Config.noticeCapacity ≤ l.notices.length then { l with overflow := true }
  else { l with notices := l.notices ++ [⟨l.overflow, n⟩], overflow := false }

theorem placeNotice_eq (n : Notice) (s : State) : placeNotice n s = { s with link := s.link.noticed n } := rfl

@[simp] theorem placeNotice_link (n : Notice) (s : State) : (placeNotice n s).link = s.link.noticed n := rfl

/-- Placing a notice touches the link alone, so it changes places with what does not read the link. -/
theorem placeNotice_setChan (n : Notice) (s : State) (c : Chan) (x : Channel) :
    placeNotice n (s.setChan c x) = (placeNotice n s).setChan c x := by cases c <;> rfl

/-! ## Wear and charges -/

/-- The wear test of a head passes (R150). -/
def Head.wears (r : Head) : Prop := r.wearThreshold ≠ 0 ∧ r.wearNoticed = false ∧ r.wearThreshold ≤ r.lifetime

theorem wearTest_of_wears {h : Fin 24} {s : State} (hw : s.heads[h].wears) :
    wearTest h s = placeNotice (.wear h s.heads[h].channel s.heads[h].lifetime s.heads[h].wearThreshold)
      (s.setHead h { s.heads[h] with wearNoticed := true }) := if_pos hw

theorem wearTest_of_not {h : Fin 24} {s : State} (hw : ¬ s.heads[h].wears) : wearTest h s = s := if_neg hw

/-- The wear test touches one head's record and the link alone. -/
theorem wearTest_frame (h : Fin 24) (s : State) :
    wearTest h s = { s with heads := (wearTest h s).heads, link := (wearTest h s).link } := by
  unfold wearTest
  dsimp only
  split <;> rfl

/-- A charge touches one head's record and the link alone. -/
theorem charge_frame (h : Fin 24) (u : Nat) (s : State) :
    charge h u s = { s with heads := (charge h u s).heads, link := (charge h u s).link } := by
  unfold charge
  split
  · rfl
  · rw [wearTest_frame]; rfl

@[simp] theorem wearTest_chan (h : Fin 24) (s : State) (c : Chan) : (wearTest h s).chan c = s.chan c := by
  rw [wearTest_frame]; cases c <;> rfl
@[simp] theorem wearTest_supply (h : Fin 24) (s : State) : (wearTest h s).supply = s.supply := by
  rw [wearTest_frame]
@[simp] theorem wearTest_now (h : Fin 24) (s : State) : (wearTest h s).now = s.now := by rw [wearTest_frame]
@[simp] theorem wearTest_safe (h : Fin 24) (s : State) : (wearTest h s).safe = s.safe := by rw [wearTest_frame]
@[simp] theorem wearTest_safety (h : Fin 24) (s : State) : (wearTest h s).safety = s.safety := by rw [wearTest_frame]

@[simp] theorem charge_chan (h : Fin 24) (u : Nat) (s : State) (c : Chan) : (charge h u s).chan c = s.chan c := by
  rw [charge_frame]; cases c <;> rfl
@[simp] theorem charge_supply (h : Fin 24) (u : Nat) (s : State) : (charge h u s).supply = s.supply := by
  rw [charge_frame]
@[simp] theorem charge_now (h : Fin 24) (u : Nat) (s : State) : (charge h u s).now = s.now := by rw [charge_frame]
@[simp] theorem charge_safe (h : Fin 24) (u : Nat) (s : State) : (charge h u s).safe = s.safe := by rw [charge_frame]
@[simp] theorem charge_safety (h : Fin 24) (u : Nat) (s : State) : (charge h u s).safety = s.safety := by
  rw [charge_frame]

@[simp] theorem chargeBurst_chan (b : Burst) (s : State) (c : Chan) : (chargeBurst b s).chan c = s.chan c :=
  charge_chan ..
@[simp] theorem chargeBurst_supply (b : Burst) (s : State) : (chargeBurst b s).supply = s.supply := charge_supply ..
@[simp] theorem chargeBurst_now (b : Burst) (s : State) : (chargeBurst b s).now = s.now := charge_now ..
@[simp] theorem chargeBurst_safe (b : Burst) (s : State) : (chargeBurst b s).safe = s.safe := charge_safe ..
@[simp] theorem chargeBurst_safety (b : Burst) (s : State) : (chargeBurst b s).safety = s.safety := charge_safety ..

/-- The wear test does not read or touch the channels. -/
theorem wearTest_setChan (h : Fin 24) (s : State) (c : Chan) (x : Channel) :
    wearTest h (s.setChan c x) = (wearTest h s).setChan c x := by
  simp only [wearTest, State.setChan_heads]
  split
  · cases c <;> rfl
  · rfl

/-- A charge does not read or touch the channels. -/
theorem charge_setChan (h : Fin 24) (u : Nat) (s : State) (c : Chan) (x : Channel) :
    charge h u (s.setChan c x) = (charge h u s).setChan c x := by
  unfold charge
  split
  · rfl
  · rw [← wearTest_setChan, State.setChan_heads]
    cases c <;> rfl

theorem chargeBurst_setChan (b : Burst) (s : State) (c : Chan) (x : Channel) :
    chargeBurst b (s.setChan c x) = (chargeBurst b s).setChan c x := charge_setChan ..

/-- Replace the limits of the Supply Arbiter. -/
def State.setSupply (s : State) (u : Supply) : State := { s with supply := u }

@[simp] theorem setSupply_supply (s : State) (u : Supply) : (s.setSupply u).supply = u := rfl
@[simp] theorem setSupply_chan (s : State) (u : Supply) (c : Chan) : (s.setSupply u).chan c = s.chan c := by
  cases c <;> rfl
@[simp] theorem setSupply_heads (s : State) (u : Supply) : (s.setSupply u).heads = s.heads := rfl
@[simp] theorem setSupply_link (s : State) (u : Supply) : (s.setSupply u).link = s.link := rfl
@[simp] theorem setSupply_now (s : State) (u : Supply) : (s.setSupply u).now = s.now := rfl
@[simp] theorem setSupply_safe (s : State) (u : Supply) : (s.setSupply u).safe = s.safe := rfl
@[simp] theorem setSupply_safety (s : State) (u : Supply) : (s.setSupply u).safety = s.safety := rfl
@[simp] theorem setSupply_setSupply (s : State) (u v : Supply) : (s.setSupply u).setSupply v = s.setSupply v := rfl
@[simp] theorem setSupply_self (s : State) : s.setSupply s.supply = s := rfl

theorem setSupply_setChan (s : State) (u : Supply) (c : Chan) (x : Channel) :
    (s.setSupply u).setChan c x = (s.setChan c x).setSupply u := by cases c <;> rfl

/-- The wear test does not read or touch the supply. -/
theorem wearTest_setSupply (h : Fin 24) (s : State) (u : Supply) :
    wearTest h (s.setSupply u) = (wearTest h s).setSupply u := by
  by_cases hw : s.heads[h].wears
  · rw [wearTest_of_wears (s := s.setSupply u) hw, wearTest_of_wears hw]
    rfl
  · rw [wearTest_of_not (s := s.setSupply u) hw, wearTest_of_not hw]

/-- A charge does not read or touch the supply. -/
theorem charge_setSupply (h : Fin 24) (n : Nat) (s : State) (u : Supply) :
    charge h n (s.setSupply u) = (charge h n s).setSupply u := by
  unfold charge
  split
  · rfl
  · rw [← wearTest_setSupply]
    rfl

/-! ## The Supply Arbiter -/

theorem adoptPending_eq (s : State) : adoptPending s = s.setSupply (supplyAfter s.supply s.committedSum) := by
  unfold adoptPending supplyAfter
  cases s.supply.pending with
  | none => rfl
  | some p => exact (apply_ite s.setSupply (s.committedSum ≤ p) ⟨p, none⟩ s.supply).symm

/-- A commitment changes the channel's commitment, and the limits as R144 says. -/
theorem setCommit_eq (c : Chan) (v : Nat) (s : State) :
    setCommit c v s =
      (s.setChan c { s.chan c with seq := { (s.chan c).seq with committed := v } }).setSupply
        (supplyAfter s.supply (v + (s.chan c.other).seq.committed)) := by
  rw [setCommit, adoptPending_eq, committedSum_eq _ c, State.modSeq_chan, State.modSeq_other, State.modSeq_supply]
  rfl

@[simp] theorem supplyAfter_effective (u : Supply) (n : Nat) : (supplyAfter u n).effective = u.effective := by
  unfold supplyAfter Supply.effective
  split
  · rfl
  · rename_i p hp
    split <;> simp [hp]

@[simp] theorem setCommit_chan (c : Chan) (v : Nat) (s : State) :
    (setCommit c v s).chan c = { s.chan c with seq := { (s.chan c).seq with committed := v } } := by
  rw [setCommit_eq, setSupply_chan, State.setChan_chan]
@[simp] theorem setCommit_other (c : Chan) (v : Nat) (s : State) : (setCommit c v s).chan c.other = s.chan c.other := by
  rw [setCommit_eq]
  simp
@[simp] theorem setCommit_heads (c : Chan) (v : Nat) (s : State) : (setCommit c v s).heads = s.heads := by
  rw [setCommit_eq]
  simp
@[simp] theorem setCommit_supply (c : Chan) (v : Nat) (s : State) :
    (setCommit c v s).supply = supplyAfter s.supply (v + (s.chan c.other).seq.committed) := by
  rw [setCommit_eq, setSupply_supply]
@[simp] theorem setCommit_link (c : Chan) (v : Nat) (s : State) : (setCommit c v s).link = s.link := by
  rw [setCommit_eq]
  simp
@[simp] theorem setCommit_now (c : Chan) (v : Nat) (s : State) : (setCommit c v s).now = s.now := by
  rw [setCommit_eq]
  simp

/-! ## Phases of the laser -/

/-- A channel whose running phase has ended at `now`: a lit phase is added to its active burst (R44). -/
def Channel.phaseEnded (x : Channel) (now : Nat) : Channel :=
  match x.seq.active with
  | .idle => { x with seq := { x.seq with phaseStart := now } }
  | .front =>
    { x with queue := modFirst (fun b => x.litUpTo b now) x.queue, seq := { x.seq with phaseStart := now } }
  | .detached b => { x with seq := { x.seq with phaseStart := now, active := .detached (x.litUpTo b now) } }

theorem addPhase_eq (l : LaserState) (n : Nat) (b : Burst) : b.addPhase l n = b.litFor l n := rfl

theorem modFirst_id {α : Type} (l : List α) : modFirst (fun b => b) l = l := by cases l <;> rfl

theorem endPhase_eq (c : Chan) (s : State) : endPhase c s = s.setChan c ((s.chan c).phaseEnded s.now) := by
  unfold endPhase Channel.phaseEnded modActive Channel.litUpTo
  cases hl : (s.chan c).seq.laser.lit <;> cases ha : (s.chan c).seq.active <;>
    simp only [Bool.false_eq_true, if_false, if_true, modSeq_eq, modFront_eq, setChan_setChan, State.setChan_chan,
      modFirst_id, ha, hl] <;> rfl

@[simp] theorem endPhase_other (c : Chan) (s : State) : (endPhase c s).chan c.other = s.chan c.other := by
  rw [endPhase_eq]; simp
@[simp] theorem endPhase_chan (c : Chan) (s : State) : (endPhase c s).chan c = (s.chan c).phaseEnded s.now := by
  rw [endPhase_eq]; simp
@[simp] theorem endPhase_heads (c : Chan) (s : State) : (endPhase c s).heads = s.heads := by rw [endPhase_eq]; simp
@[simp] theorem endPhase_supply (c : Chan) (s : State) : (endPhase c s).supply = s.supply := by rw [endPhase_eq]; simp
@[simp] theorem endPhase_now (c : Chan) (s : State) : (endPhase c s).now = s.now := by rw [endPhase_eq]; simp
@[simp] theorem endPhase_link (c : Chan) (s : State) : (endPhase c s).link = s.link := by rw [endPhase_eq]; simp

@[simp] theorem phaseEnded_config (x : Channel) (n : Nat) : (x.phaseEnded n).config = x.config := by
  unfold Channel.phaseEnded; split <;> rfl
@[simp] theorem phaseEnded_tracker (x : Channel) (n : Nat) : (x.phaseEnded n).tracker = x.tracker := by
  unfold Channel.phaseEnded; split <;> rfl
@[simp] theorem phaseEnded_gate (x : Channel) (n : Nat) : (x.phaseEnded n).gate = x.gate := by
  unfold Channel.phaseEnded; split <;> rfl

/-- The end of a phase touches none of a Sequencer's fields but the phase start and the record of a detached burst. -/
theorem phaseEnded_seq (x : Channel) (n : Nat) :
    ∃ a, (x.phaseEnded n).seq = { x.seq with phaseStart := n, active := a } ∧ (x.seq.active = .idle → a = .idle) ∧
      (x.seq.active = .front → a = .front) ∧ ∀ b, x.seq.active = .detached b → a = .detached (x.litUpTo b n) := by
  unfold Channel.phaseEnded
  split
  · rename_i h; exact ⟨.idle, by rw [← h], by simp, by simp [h], by simp [h]⟩
  · rename_i h; exact ⟨.front, by rw [← h], by simp [h], by simp, by simp [h]⟩
  · rename_i b h; exact ⟨_, rfl, by simp [h], by simp [h], by simp [h]⟩

/-- A Sequencer that has gone DARK while its running phase was ended before (R92). -/
def Sequencer.dark (q : Sequencer) : Sequencer :=
  { q with
    laser := .dark, selected := none, active := .idle, committed := 0, biasCurrent := 0, biasCount := 0, light := .none
    phaseEnd := none, overrunAt := none }

theorem goDark_eq (c : Chan) (s : State) :
    goDark c s =
      (s.setChan c { s.chan c with seq := (s.chan c).seq.dark }).setSupply
        (supplyAfter s.supply (s.chan c.other).seq.committed) := by
  rw [goDark, setCommit_eq, State.modSeq_chan, State.modSeq_other, State.modSeq_supply, Nat.zero_add, modSeq_eq,
    setChan_setChan]
  rfl

@[simp] theorem goDark_chan (c : Chan) (s : State) :
    (goDark c s).chan c = { s.chan c with seq := (s.chan c).seq.dark } := by
  rw [goDark_eq, setSupply_chan, State.setChan_chan]
@[simp] theorem goDark_other (c : Chan) (s : State) : (goDark c s).chan c.other = s.chan c.other := by
  rw [goDark_eq]
  simp
@[simp] theorem goDark_heads (c : Chan) (s : State) : (goDark c s).heads = s.heads := by
  rw [goDark_eq]
  simp
@[simp] theorem goDark_supply (c : Chan) (s : State) :
    (goDark c s).supply = supplyAfter s.supply (s.chan c.other).seq.committed := by rw [goDark_eq, setSupply_supply]
@[simp] theorem goDark_link (c : Chan) (s : State) : (goDark c s).link = s.link := by
  rw [goDark_eq]
  simp
@[simp] theorem goDark_now (c : Chan) (s : State) : (goDark c s).now = s.now := by
  rw [goDark_eq]
  simp

/-- A channel whose laser has entered TAIL at `now` for its active burst, when it has one (R81). -/
def Channel.tailed (x : Channel) (now : Nat) : Channel :=
  match (x.phaseEnded now).activeBurst with
  | none => x.phaseEnded now
  | some b =>
    { x.phaseEnded now with
      seq := { (x.phaseEnded now).seq with laser := .tail, phaseEnd := some (now + b.plan.tailLen), overrunAt := none } }

theorem enterTail_eq (c : Chan) (s : State) : enterTail c s = s.setChan c ((s.chan c).tailed s.now) := by
  unfold enterTail Channel.tailed
  simp only [endPhase_chan]
  cases ((s.chan c).phaseEnded s.now).activeBurst with
  | none => exact endPhase_eq c s
  | some b => simp only [modSeq_eq, endPhase_eq, setChan_setChan, State.setChan_chan]

/-! ## The front of a queue -/

theorem asFront_eq (q : List Burst) : asFront q = modFirst Burst.enterDecidedBar q := by
  cases q <;> rfl

theorem gateFrom_eq (t : Tracker) (b : Burst) : gateFrom t b = expectedGate t b := rfl

/-- A burst becomes the front one of its channel's queue (R69, R71). -/
theorem refreshFront_eq (c : Chan) (s : State) :
    refreshFront c s = s.setChan c { s.chan c with
      queue := asFront (s.chan c).queue
      gate := (s.chan c).queue.head?.bind (expectedGate (s.chan c).tracker) } := by
  rw [refreshFront, modChan_eq]
  congr 1
  split
  · rename_i h; simp [h, asFront]
  · rename_i b rest h; rw [h]; rfl

/-- A queue with the selected bursts removed, and the next one in front where the front one was among them (R20, R22). -/
def Channel.without (x : Channel) (out : Burst → Bool) : Channel :=
  let kept := x.queue.filter fun b => !out b
  if x.queue.head?.any out then
    { x with queue := asFront kept, gate := kept.head?.bind (expectedGate x.tracker) }
  else { x with queue := kept }

theorem removeWhere_eq (c : Chan) (out : Burst → Bool) (s : State) :
    removeWhere c out s = s.setChan c ((s.chan c).without out) := by
  unfold removeWhere Channel.without
  dsimp only
  split
  · rw [refreshFront_eq, modChan_eq]; simp
  · rfl

/-! ## Completion -/

/-- The queue and the gate time once the front burst has left (R11). -/
def Channel.advanced (x : Channel) : Channel :=
  { x with queue := asFront x.queue.tail, gate := x.queue.tail.head?.bind (expectedGate x.tracker) }

/-- A completion of the front burst `b`: the queue moves up, the head is charged and recorded, and the completion is
reported where R12 says so (R11). -/
theorem completeFront_eq {c : Chan} {s : State} {b : Burst} (v : Verdict) (h : s.front c = some b) :
    completeFront c v s =
      let s2 := chargeBurst b (s.setChan c (s.chan c).advanced)
      let s3 := s2.setHead b.head (s2.heads[b.head].afterCompletion b v)
      if reported (s.chan c) v then placeNotice (burstDoneOf b v (heatUnits b.acc)) s3 else s3 := by
  have href : refreshFront c (s.modChan c fun x => { x with queue := x.queue.tail }) =
      s.setChan c (s.chan c).advanced := by
    rw [refreshFront_eq, modChan_eq]; simp [Channel.advanced]
  simp only [completeFront, h, href, State.setHead_chan, chargeBurst_chan, State.setChan_chan]
  rfl

theorem completeFront_none {c : Chan} {s : State} (v : Verdict) (h : s.front c = none) : completeFront c v s = s := by
  simp only [completeFront, h]

@[simp] theorem completeFront_chan (c : Chan) (v : Verdict) (s : State) :
    (completeFront c v s).chan c = if (s.chan c).queue = [] then s.chan c else (s.chan c).advanced := by
  cases hq : (s.chan c).queue with
  | nil => rw [completeFront_none v (by simp [State.front, hq])]; simp
  | cons b rest =>
    rw [completeFront_eq v (b := b) (by simp [State.front, hq])]
    dsimp only
    split <;> simp

@[simp] theorem completeFront_other (c : Chan) (v : Verdict) (s : State) :
    (completeFront c v s).chan c.other = s.chan c.other := by
  cases hf : s.front c with
  | none => rw [completeFront_none v hf]
  | some b =>
    rw [completeFront_eq v hf]
    dsimp only
    split <;> simp

@[simp] theorem completeFront_supply (c : Chan) (v : Verdict) (s : State) : (completeFront c v s).supply = s.supply := by
  cases hf : s.front c with
  | none => rw [completeFront_none v hf]
  | some b =>
    rw [completeFront_eq v hf]
    dsimp only
    split <;> simp

@[simp] theorem completeFront_now (c : Chan) (v : Verdict) (s : State) : (completeFront c v s).now = s.now :=
  (Calm.completeFront c v s).tables.now

end Sys2Proof.Machine
end

section
/-! PROOFS. Requests on an idle link. The reply to any request in terms of its service (R170, R173), how the index and
channel fields are read, and the requests that read or write a table, a configuration or a timer. -/

namespace Sys2Proof.Machine

/-! ## From the service to the reply -/

/-- A request that its service answers: its reply begins at once on an idle link. -/
theorem exec_request {r : Instr} {kind tag : Byte} {payload : List Byte} {s : State} (t : State) (q : Reply) (hidle : LinkIdle s)
    (hkept : LinkKept s t) (hserve : serve r s = answer r .replied (t, q))
    (hexec : exec r s = .next (onLink (arrive r) s) := by rfl)
    (hkind : replyKind (requestKind r) = kind := by simp [requestKind, replyKind])
    (htag : requestTag r = tag := by rfl) (hpayload : q.payload = payload := by rfl) :
    exec r s = .next (t.replying kind tag payload) := by
  rw [hexec, onLink_idle hidle r (t, q) hserve hkept, hkind, htag, hpayload]

/-- A request whose service changes nothing that moves an output line. -/
theorem exec_request_driven {r : Instr} {kind tag : Byte} {payload : List Byte} {s : State} (t : State) (q : Reply) (hidle : LinkIdle s)
    (ht : driveOutputs t = t) (hkept : LinkKept s t) (hserve : serve r s = answer r .replied (t, q))
    (hexec : exec r s = .next (onLink (arrive r) s) := by rfl)
    (hkind : replyKind (requestKind r) = kind := by simp [requestKind, replyKind])
    (htag : requestTag r = tag := by rfl) (hpayload : q.payload = payload := by rfl) :
    exec r s = .next (t.sending ⟨kind, tag, payload⟩ none) := by
  rw [exec_request t q hidle hkept hserve hexec hkind htag hpayload, replying_of_driven ht]

/-- A request that changes nothing. -/
theorem exec_unchanged {r : Instr} {kind tag : Byte} {payload : List Byte} {s : State} (q : Reply) (hidle : LinkIdle s)
    (hs : driveOutputs s = s) (hserve : serve r s = answer r .replied (s, q))
    (hexec : exec r s = .next (onLink (arrive r) s) := by rfl)
    (hkind : replyKind (requestKind r) = kind := by simp [requestKind, replyKind])
    (htag : requestTag r = tag := by rfl) (hpayload : q.payload = payload := by rfl) :
    exec r s = .next (s.sending ⟨kind, tag, payload⟩ none) :=
  exec_request_driven s q hidle hs (LinkKept.refl s) hserve hexec hkind htag hpayload

/-- The output lines do not depend on the head records (R67, R91). -/
theorem driven_with_head {s : State} (hs : driveOutputs s = s) (h : Fin 24) (r : Head) :
    driveOutputs (s.setHead h r) = s.setHead h r := by
  have hcomm : driveOutputs (s.setHead h r) = (driveOutputs s).setHead h r := rfl
  rw [hcomm, hs]

theorem driven_with_profiles {s : State} (hs : driveOutputs s = s) (v : Vector Profile 16) :
    driveOutputs { s with profiles := v } = { s with profiles := v } := by
  have hcomm : driveOutputs { s with profiles := v } = { driveOutputs s with profiles := v } := rfl
  rw [hcomm, hs]

theorem driven_with_checkers {s : State} (hs : driveOutputs s = s) (v : Vector RangeChecker 8) :
    driveOutputs { s with checkers := v } = { s with checkers := v } := by
  have hcomm : driveOutputs { s with checkers := v } = { driveOutputs s with checkers := v } := rfl
  rw [hcomm, hs]

theorem driven_with_rules {s : State} (hs : driveOutputs s = s) (v : Vector RuleEntry 64) :
    driveOutputs { s with rules := v } = { s with rules := v } := by
  have hcomm : driveOutputs { s with rules := v } = { driveOutputs s with rules := v } := rfl
  rw [hcomm, hs]

/-- The output lines do not depend on the link (R67, R91). -/
theorem driven_with_link {s : State} (hs : driveOutputs s = s) (l : Link) :
    driveOutputs { s with link := l } = { s with link := l } := by
  have hcomm : driveOutputs { s with link := l } = { driveOutputs s with link := l } := rfl
  rw [hcomm, hs]

/-! ## Fields -/

theorem indexOf_of_le {n : Nat} {b : Byte} (h : n ≤ b.toNat) : indexOf n b = none := dif_neg (by omega)

theorem indexOf_of_eq {n : Nat} {b : Byte} {i : Fin n} (h : b.toNat = i.val) : indexOf n b = some i := by
  rw [indexOf, dif_pos (by omega)]
  exact congrArg some (Fin.ext h)

theorem chanOf_of_two_le {b : Byte} (h : 2 ≤ b.toNat) : chanOf b = none := by
  have h0 : b ≠ 0 := by bv_omega
  have h1 : b ≠ 1 := by bv_omega
  rw [chanOf, if_neg h0, if_neg h1]

@[simp] theorem chanOf_chanCode (c : Chan) : chanOf (chanCode c) = some c := by cases c <;> rfl

theorem onOffOf_of_two_le {b : Byte} (h : 2 ≤ b.toNat) : onOffOf b = none := clearOf_of_two_le h

theorem policyOf_of_two_le {b : Byte} (h : 2 ≤ b.toNat) : policyOf b = none := by
  have h0 : b ≠ 0 := by bv_omega
  have h1 : b ≠ 1 := by bv_omega
  rw [policyOf, if_neg h0, if_neg h1]

@[simp] theorem policyOf_code (u : Policy) : policyOf u.code = some u := by cases u <;> rfl

theorem counterOf_none {b : Byte} (h : 16 ≤ b.toNat) (hb : b ≠ 0xFF) : counterOf b = none := by
  rw [counterOf, if_neg hb, indexOf_of_le h]; rfl

@[simp] theorem counterOf_code (k : Option (Fin 16)) : counterOf (counterCode k) = some k := by
  cases k with
  | none => rfl
  | some i => revert i; decide

theorem chanMatchOf_of_three_le {b : Byte} (h : 3 ≤ b.toNat) : chanMatchOf b = none := by
  have h2 : b ≠ 2 := by bv_omega
  rw [chanMatchOf, if_neg h2, chanOf_of_two_le (by omega)]; rfl

@[simp] theorem chanMatchOf_code (m : ChanMatch) : chanMatchOf m.code = some m := by
  obtain c | _ := m
  · cases c <;> rfl
  · rfl

theorem online_eq_false {x : Channel} (h : x.tracker.state = .off) : x.online = false := by simp [Channel.online, h]

theorem online_eq_true {x : Channel} (h : x.tracker.state ≠ .off) : x.online = true := by simp [Channel.online, h]

/-! ## Refused for their length or kind -/

/-- Every request of a wrong length is answered BAD_LENGTH. -/
theorem serve_unfit {tag : Byte} {i : Instr} (hi : i ∈ unfitRequests tag) (s : State) :
    exec i s = .next (onLink (arrive i) s) ∧ serve i s = answer i .replied (s, .code .badLength) ∧ requestTag i = tag := by
  simp only [unfitRequests, List.mem_cons, List.not_mem_nil, or_false] at hi
  rcases hi with rfl | rfl | rfl | rfl | rfl | rfl | rfl | rfl | rfl | rfl | rfl | rfl | rfl | rfl | rfl | rfl | rfl | rfl |
    rfl | rfl | rfl | rfl | rfl | rfl | rfl <;> exact ⟨rfl, rfl, rfl⟩

/-- Settles O16: each of the requests is answered by a code, and changes nothing. -/
theorem malformedRequestsAreRefused : Obligations.MalformedRequestsAreRefused := by
  intro tag s hidle hs
  refine ⟨fun kind => exec_unchanged (.code .badKind) hidle hs rfl, fun i hi => ?_⟩
  obtain ⟨hexec, hserve, htag⟩ := serve_unfit hi s
  exact exec_unchanged (.code .badLength) hidle hs hserve hexec rfl htag

/-! ## Reads -/

theorem byte_of_val {b : Byte} {n : Nat} (h : b.toNat = n) : BitVec.ofNat 8 n = b := by
  rw [← h, BitVec.ofNat_toNat, BitVec.setWidth_eq]

/-- The bytes of a channel in a STATUS reply. -/
theorem channelViewBytes_eq (x : Channel) : channelViewBytes (channelView x) = channelStatusBytes x := by
  have hwedge : (x.tracker.anchor.map fun a => a.wedge).getD 0 = match x.tracker.anchor with
      | some a => a.wedge
      | none => 0 := by
    cases x.tracker.anchor <;> rfl
  simp [channelViewBytes, channelView, channelStatusBytes, onOff, Channel.online, Tracker.synced, hwedge] <;> rfl

theorem safeCode_eq (k : Option SafeCause) : safeCode k = match k with
    | some c => c.code
    | none => 0 := by
  cases k <;> rfl

theorem pendingBytes_eq (p : Option Nat) : pendingBytes p = match p with
    | some n => 1 :: u16 n
    | none => 0 :: u16 0 := by
  cases p <;> rfl

/-- The safe and overflow flags of a STATUS reply. -/
theorem statusFlags_eq (a b : Bool) : bitAt 0 a ||| bitAt 1 b = (if a then 1 else 0) ||| (if b then 2 else 0) := by
  cases a <;> cases b <;> rfl

/-- The payload of a STATUS reply (R177). -/
theorem status_payload (s : State) : (Reply.status (statusView s)).payload = 0x00 :: statusBytes s := by
  simp only [Reply.payload, statusView, channelViewBytes_eq, statusBytes, pendingBytes_eq, statusFlags_eq, safeCode_eq,
    State.elapsed, Config.ticksPerMs, Code.byte, List.cons_append, List.nil_append]
  rfl

/-- The payload of a PROFILE reply repeats the index as it was sent. -/
theorem profile_payload (r : Code) {b : Byte} {i : Fin 16} (hb : b.toNat = i.val) (p : Profile) :
    (Reply.profile r i p).payload = r.byte :: b :: profileBytes p := by
  simp only [Reply.payload, u8, byte_of_val hb, List.cons_append, List.nil_append]

/-- Settles O22. -/
theorem readsAnswerAndChangeNothing : Obligations.ReadsAnswerAndChangeNothing := by
  intro tag b s hidle hs
  refine ⟨?_, fun h hb => ?_, fun hb => ?_, fun i hb => ?_, fun hb => ?_, fun i hb => ?_, fun hb => ?_⟩
  · exact exec_unchanged (.status (statusView s)) hidle hs rfl (hpayload := status_payload s)
  · exact exec_unchanged (.head .ok h s.heads[h]) hidle hs (by simp only [serve, serveHeadGet, withPayload, indexOf_of_eq hb])
  · exact exec_unchanged (.code .fieldRange) hidle hs (by simp only [serve, serveHeadGet, withPayload, indexOf_of_le hb])
  · exact exec_unchanged (.profile .ok i s.profiles[i]) hidle hs
      (by simp only [serve, serveProfileGet, withPayload, indexOf_of_eq hb]) (hpayload := profile_payload .ok hb _)
  · exact exec_unchanged (.code .fieldRange) hidle hs
      (by simp only [serve, serveProfileGet, withPayload, indexOf_of_le hb])
  · exact exec_unchanged (.rule .ok i s.rules[i]) hidle hs (by simp only [serve, serveRuleGet, withPayload, indexOf_of_eq hb])
  · exact exec_unchanged (.code .fieldRange) hidle hs (by simp only [serve, serveRuleGet, withPayload, indexOf_of_le hb])

/-! ## The tables -/

/-- A list of sent and applied values is answered OK exactly when no value was changed (R183). -/
theorem clampCode_byte (l : List (Int × Int)) :
    (clampCode l).byte = if ∀ p ∈ l, p.1 = p.2 then 0x00 else 0x01 := by
  unfold clampCode
  by_cases h : ∀ p ∈ l, p.1 = p.2
  · have hnone : (l.any fun p => p.1 != p.2) = false := by simpa using h
    rw [if_pos h, hnone]; rfl
  · have hsome : (l.any fun p => p.1 != p.2) = true := by simpa using h
    rw [if_neg h, hsome]; rfl

/-- The profile that a PROFILE_SET applies (R114, R115). -/
theorem profileSetRecord_eq (f : ProfileSetFields) : profileSetRecord f =
    ⟨f.p.toNat, f.db.toNat, min f.kb.toNat 4095, min f.fp.toNat 16, min f.lb.toNat 4095, min f.tt.toNat 4095⟩ := by
  simp [profileSetRecord, clampNat, Nat.min_comm]

theorem profileSetCode_byte (f : ProfileSetFields) : (profileSetCode f).byte =
    if f.kb.toNat ≤ 4095 ∧ f.fp.toNat ≤ 16 ∧ f.lb.toNat ≤ 4095 ∧ f.tt.toNat ≤ 4095 then 0x00 else 0x01 := by
  rw [profileSetCode, profileSetRecord_eq, clampCode_byte]
  congr 1
  simp only [List.forall_mem_cons, List.not_mem_nil, false_implies, implies_true, and_true, Nat.cast_inj, eq_iff_iff]
  omega

/-- Settles O24. -/
theorem profileSetWritesTheProfile : Obligations.ProfileSetWritesTheProfile := by
  intro tag f s hidle hs
  refine ⟨fun hi => ?_, fun i p hi hp => ?_⟩
  · exact exec_unchanged (.code .fieldRange) hidle hs (by simp only [serve, serveProfileSet, withPayload, indexOf_of_le hi])
  · exact exec_request_driven { s with profiles := s.profiles.set i p } (.profile (profileSetCode f) i p) hidle
      (driven_with_profiles hs _) (LinkKept.of_eq rfl rfl rfl rfl)
      (by simp only [serve, serveProfileSet, withPayload, indexOf_of_eq hi, profileSetRecord_eq, ← hp])
      (hpayload := by rw [profile_payload _ hi, profileSetCode_byte])

end Sys2Proof.Machine
end

section
/-! PROOFS. RANGE_SET and RULE_SET (R119 to R126). How each write and each entry is read, what the clamps leave, and the
tables after the writes. -/

namespace Sys2Proof.Machine

/-! ## Range Checkers -/

theorem checkerFieldOf_of_three_le {b : Byte} (h : 3 ≤ b.toNat) : checkerFieldOf b = none := by
  have h0 : b ≠ 0 := by bv_omega
  have h1 : b ≠ 1 := by bv_omega
  have h2 : b ≠ 2 := by bv_omega
  rw [checkerFieldOf, if_neg h0, if_neg h1, if_neg h2]

theorem checkerFieldOf_of_lt {b : Byte} (h : b.toNat < 3) :
    checkerFieldOf b = some (if b = 0 then .track else if b = 1 then .temperature else .offset) := by
  have hb : b = 0 ∨ b = 1 ∨ b = 2 := by bv_omega
  obtain rfl | rfl | rfl := hb <;> rfl

/-- A write with an undefined index or field is not taken. -/
theorem rangeWriteOf_undefined {w : RangeWrite} (h : 8 ≤ w.index.toNat ∨ 3 ≤ w.field.toNat) : rangeWriteOf w = none := by
  unfold rangeWriteOf
  obtain h | h := h
  · rw [indexOf_of_le h]
  · rw [checkerFieldOf_of_three_le h]
    split <;> simp_all

theorem rangeWriteOf_defined {w : RangeWrite} (hi : w.index.toNat < 8) (hf : w.field.toNat < 3) :
    rangeWriteOf w = some (⟨w.index.toNat, hi⟩, writtenChecker w) := by
  simp only [rangeWriteOf, indexOf_of_eq (i := ⟨w.index.toNat, hi⟩) rfl, checkerFieldOf_of_lt hf]
  rfl

/-- One undefined write refuses the whole request. -/
theorem rangeWritesOf_undefined {ws : List RangeWrite} (h : ∃ w ∈ ws, 8 ≤ w.index.toNat ∨ 3 ≤ w.field.toNat) :
    rangeWritesOf ws = none := by
  induction ws with
  | nil => simp at h
  | cons w ws ih =>
    simp only [List.mem_cons, exists_eq_or_imp] at h
    unfold rangeWritesOf
    obtain h | h := h
    · rw [rangeWriteOf_undefined h]
    · rw [ih h]
      split <;> simp_all

/-- Defined writes are applied in message order, each checker by the last write that names it. -/
theorem rangeWritesOf_defined {ws : List RangeWrite} (h : ∀ w ∈ ws, w.index.toNat < 8 ∧ w.field.toNat < 3) :
    ∃ xs, rangeWritesOf ws = some xs ∧ ∀ (ks : Vector RangeChecker 8) (i : Fin 8),
      (applyWrites ks xs)[i] = ws.foldl (fun k w => if w.index.toNat = i.val then writtenChecker w else k) ks[i] := by
  induction ws with
  | nil => exact ⟨[], rfl, fun _ _ => rfl⟩
  | cons w ws ih =>
    obtain ⟨⟨hi, hf⟩, hrest⟩ := List.forall_mem_cons.1 h
    obtain ⟨xs, hxs, hget⟩ := ih hrest
    refine ⟨(⟨w.index.toNat, hi⟩, writtenChecker w) :: xs, ?_, fun ks i => ?_⟩
    · simp only [rangeWritesOf, rangeWriteOf_defined hi hf, hxs]
    · rw [applyWrites, List.foldl_cons, List.foldl_cons]
      refine (hget _ i).trans ?_
      congr 1
      by_cases hw : w.index.toNat = i.val
      · simp [hw]
      · simp [hw, Vector.getElem_set_ne]

/-- A clamp leaves a value alone exactly when the value lies in its range. -/
theorem eq_clampInt_iff {lo hi x : Int} (h : lo ≤ hi) : x = clampInt lo hi x ↔ lo ≤ x ∧ x ≤ hi := by
  unfold clampInt; omega

theorem eq_clampNat_iff {lo hi x : Nat} (h : lo ≤ hi) : (x : Int) = (clampNat lo hi x : Nat) ↔ lo ≤ x ∧ x ≤ hi := by
  unfold clampNat; omega

theorem rangeSetCode_byte (ws : List RangeWrite) : (rangeSetCode ws).byte =
    if ∀ w ∈ ws, (-1048576 ≤ w.low.toInt ∧ w.low.toInt ≤ 1048575) ∧
      (-1048576 ≤ w.high.toInt ∧ w.high.toInt ≤ 1048575) then 0x00 else 0x01 := by
  rw [rangeSetCode, clampCode_byte]
  refine if_congr ?_ rfl rfl
  simp only [List.mem_flatMap, List.mem_cons, List.not_mem_nil, or_false, forall_exists_index, and_imp]
  constructor
  · intro hall w hw
    exact ⟨(eq_clampInt_iff (by decide)).1 (hall _ w hw (.inl rfl)), (eq_clampInt_iff (by decide)).1 (hall _ w hw (.inr rfl))⟩
  · rintro hall p w hw (rfl | rfl)
    · exact (eq_clampInt_iff (by decide)).2 (hall w hw).1
    · exact (eq_clampInt_iff (by decide)).2 (hall w hw).2

/-- Settles O25. -/
theorem rangeSetWritesTheCheckers : Obligations.RangeSetWritesTheCheckers := by
  intro tag ws s hidle hs
  refine ⟨fun hcount => ?_, fun h1 h8 hbad => ?_, fun h1 h8 hgood => ?_⟩
  · exact exec_unchanged (.code .badLength) hidle hs (by simp only [serve, serveRangeSet, withPayload, if_pos hcount])
  · have hcount : ¬ (ws.length = 0 ∨ 8 < ws.length) := by omega
    exact exec_unchanged (.code .fieldRange) hidle hs
      (by simp only [serve, serveRangeSet, withPayload, if_neg hcount, rangeWritesOf_undefined hbad])
  · have hcount : ¬ (ws.length = 0 ∨ 8 < ws.length) := by omega
    obtain ⟨xs, hxs, hget⟩ := rangeWritesOf_defined hgood
    refine ⟨applyWrites s.checkers xs, hget s.checkers, ?_⟩
    exact exec_request_driven { s with checkers := applyWrites s.checkers xs }
      (.ranges (rangeSetCode ws) (applyWrites s.checkers xs)) hidle (driven_with_checkers hs _)
      (LinkKept.of_eq rfl rfl rfl rfl) (by simp only [serve, serveRangeSet, withPayload, if_neg hcount, hxs])
      (hpayload := by rw [← rangeSetCode_byte]; rfl)

/-! ## Rules -/

/-- The entry that a RULE_SET writes with a given action (R120). -/
def ruleEntryOf (f : RuleSetFields) (m : ChanMatch) (k : Option (Fin 16)) (a : RuleAction) : RuleEntry :=
  ⟨f.flags.getLsbD 0, BitVec.ofNat 5 (min f.headValue.toNat 31), BitVec.ofNat 5 (min f.headMask.toNat 31),
    f.kinds.setWidth 4, m, f.rangeValue, f.rangeMask, k, a, f.flags.getLsbD 1⟩

/-- The sent and applied values of a RULE_SET beside those of its action. -/
def ruleSent (f : RuleSetFields) : List (Int × Int) :=
  [((f.headValue.toNat : Int), ((min f.headValue.toNat 31 : Nat) : Int)),
    ((f.headMask.toNat : Int), ((min f.headMask.toNat 31 : Nat) : Int))]

theorem ruleSetEntry_eq {f : RuleSetFields} {m : ChanMatch} {k : Option (Fin 16)} {a : RuleAction}
    {sent : List (Int × Int)} (ha : ruleActionOf f = some (a, sent)) (hm : m.code = f.channel)
    (hk : counterCode k = f.counter) (hkinds : f.kinds.toNat < 16) :
    ruleSetEntry f = some (clampCode (ruleSent f ++ sent), ruleEntryOf f m k a) := by
  have hnot : ¬ 16 ≤ f.kinds.toNat := by omega
  simp only [ruleSetEntry, ha, ← hm, ← hk, chanMatchOf_code, counterOf_code, if_neg hnot]
  rfl

/-- An undefined stage, kind set, channel, counter or SELECT policy. -/
theorem ruleSetEntry_undefined {f : RuleSetFields}
    (h : 2 ≤ f.stage.toNat ∨ 16 ≤ f.kinds.toNat ∨ 3 ≤ f.channel.toNat ∨ (16 ≤ f.counter.toNat ∧ f.counter ≠ 0xFF) ∨
      (f.stage = 0 ∧ 2 ≤ f.policy.toNat)) : ruleSetEntry f = none := by
  unfold ruleSetEntry
  split
  · rename_i act sent m k ha hm hk
    rw [if_pos]
    obtain h | h | h | ⟨h, hff⟩ | ⟨h0, h⟩ := h
    · have h0 : f.stage ≠ 0 := by bv_omega
      have h1 : f.stage ≠ 1 := by bv_omega
      rw [ruleActionOf, if_neg h0, if_neg h1] at ha
      cases ha
    · exact h
    · rw [chanMatchOf_of_three_le h] at hm; cases hm
    · rw [counterOf_none h hff] at hk; cases hk
    · rw [ruleActionOf, if_pos h0, policyOf_of_two_le h] at ha; cases ha
  · rfl

/-- The result of a RULE_SET whose action was sent as `sent` (R126). -/
theorem ruleCode_byte (f : RuleSetFields) (sent : List (Int × Int)) : (clampCode (ruleSent f ++ sent)).byte =
    if f.headValue.toNat ≤ 31 ∧ f.headMask.toNat ≤ 31 ∧ ∀ p ∈ sent, p.1 = p.2 then 0x00 else 0x01 := by
  rw [clampCode_byte]
  refine if_congr ?_ rfl rfl
  simp only [ruleSent, List.cons_append, List.nil_append, List.forall_mem_cons, ← and_assoc]
  refine and_congr_left fun _ => ?_
  omega

/-- A RULE_SET whose action is `a` writes its entry and answers it. -/
theorem exec_ruleSet {tag : Byte} {f : RuleSetFields} {s : State} (hidle : LinkIdle s) (hs : driveOutputs s = s)
    {i : Fin 64} {m : ChanMatch} {k : Option (Fin 16)} {a : RuleAction} {sent : List (Int × Int)}
    (hi : f.index.toNat = i.val) (hkinds : f.kinds.toNat < 16) (hm : m.code = f.channel)
    (hk : counterCode k = f.counter) (ha : ruleActionOf f = some (a, sent)) :
    exec (.ruleSet tag (.fits f)) s =
      .next (State.sending { s with rules := s.rules.set i (ruleEntryOf f m k a) }
        ⟨0x99, tag, (clampCode (ruleSent f ++ sent)).byte :: ruleBytes i (ruleEntryOf f m k a)⟩ none) :=
  exec_request_driven { s with rules := s.rules.set i (ruleEntryOf f m k a) }
    (.rule (clampCode (ruleSent f ++ sent)) i (ruleEntryOf f m k a)) hidle (driven_with_rules hs _)
    (LinkKept.of_eq rfl rfl rfl rfl)
    (by simp only [serve, serveRuleSet, withPayload, indexOf_of_eq hi, ruleSetEntry_eq ha hm hk hkinds])

/-- Settles O26. -/
theorem ruleSetWritesTheEntry : Obligations.RuleSetWritesTheEntry := by
  intro tag f s hidle hs
  refine ⟨fun hbad => ?_, fun i m k hi hkinds hm hk => ⟨fun u h0 hu => ?_, fun h1 => ?_⟩⟩
  · refine exec_unchanged (.code .fieldRange) hidle hs ?_
    obtain hbad | hbad := hbad
    · simp only [serve, serveRuleSet, withPayload, indexOf_of_le hbad]
    · simp only [serve, serveRuleSet, withPayload, ruleSetEntry_undefined hbad]
      cases indexOf 64 f.index <;> rfl
  · refine ⟨clampProfile f.profile, rfl, _, rfl, ?_⟩
    have ha : ruleActionOf f = some (.select (clampProfile f.profile) u,
        [((f.profile.toNat : Int), ((clampProfile f.profile).val : Int))]) := by
      rw [ruleActionOf, if_pos h0, ← hu, policyOf_code]; rfl
    rw [exec_ruleSet hidle hs hi hkinds hm hk ha, ruleCode_byte]
    simp only [ruleEntryOf, List.forall_mem_cons, List.not_mem_nil, false_implies, implies_true, and_true, clampProfile]
    congr 5
    simp only [eq_iff_iff]
    omega
  · have ha : ruleActionOf f = some (.trim (clampInt (-64) 63 f.dP.toInt) (clampInt (-512) 511 f.dL.toInt),
        [(f.dP.toInt, clampInt (-64) 63 f.dP.toInt), (f.dL.toInt, clampInt (-512) 511 f.dL.toInt)]) := by
      have h0 : f.stage ≠ 0 := by rw [h1]; decide
      rw [ruleActionOf, if_neg h0, if_pos h1]
    refine ⟨_, rfl, ?_⟩
    rw [exec_ruleSet hidle hs hi hkinds hm hk ha, ruleCode_byte]
    simp only [ruleEntryOf, List.forall_mem_cons, List.not_mem_nil, false_implies, implies_true, and_true,
      eq_clampInt_iff (show (-64 : Int) ≤ 63 by decide), eq_clampInt_iff (show (-512 : Int) ≤ 511 by decide)]
    rfl

end Sys2Proof.Machine
end

section
/-! PROOFS. RESET, CHANNEL_SET, CHANNEL_ONLINE, UNPARK, CLEAR_FAULT and RESUME (R51 to R53, R104, R162, R178): what each
service answers, and the reply that begins on an idle link. -/

namespace Sys2Proof.Machine

/-! ## RESET -/

/-- An accepted RESET on an idle link keeps its place, and its reply begins with the reset that acts after it (R171, R178). -/
theorem onLink_reset {r : Instr} {sc : Scope} {s : State} (hidle : LinkIdle s) (hs : driveOutputs s = s)
    (hserve : serve r s =
      answer r (.resetting sc) (s, .reset sc (s.ch0.queue.length + s.ch1.queue.length))) :
    onLink (arrive r) s =
      State.sending { s with link := { s.link with served := some ⟨r, .resetting sc⟩ } }
        ⟨replyKind (requestKind r), requestTag r,
          [0x00, sc.code, BitVec.ofNat 8 (s.ch0.queue.length + s.ch1.queue.length)]⟩ (some sc) := by
  obtain ⟨hheld, hserved, hwaiting, hreplies, hfree⟩ := hidle
  have hnot : s.link.resetting = false := by simp [Link.resetting, hserved]
  have harrive : arrive r s =
      answer r (.resetting sc) (s, .reset sc (s.ch0.queue.length + s.ch1.queue.length)) := by
    simp only [arrive, hnot, hserved, hwaiting, hserve, Bool.false_eq_true, if_false]
  have hpump : pump (arrive r s) =
      State.sending { s with link := { s.link with served := some ⟨r, .resetting sc⟩ } }
        ⟨replyKind (requestKind r), requestTag r,
          [0x00, sc.code, BitVec.ofNat 8 (s.ch0.queue.length + s.ch1.queue.length)]⟩ (some sc) := by
    rw [harrive]
    simp only [pump, answer, State.modLink_link, hfree, hreplies, List.nil_append]
    simp only [releasePlace, beginFrame, actsAfter, Link.resetting, State.modLink, State.sending, QueuedReply.frame,
      frameTicks, Config.charTicks, Reply.payload, u8, Code.byte, hreplies]
    rfl
  rw [onLink, if_neg (by simp [hheld]), hpump]
  exact driven_with_link hs _

/-- Settles O27. -/
theorem resetRequestBuildsItsReply : Obligations.ResetRequestBuildsItsReply := by
  intro tag s hidle hs
  refine ⟨fun scope => ?_, fun b _ => ⟨?_, ?_⟩⟩
  · cases scope
    · have hexec : exec (.resetFull tag .fits) s = .next (onLink (arrive (.resetFull tag .fits)) s) := rfl
      rw [hexec, onLink_reset (sc := .full) hidle hs rfl]
      simp [replyKind, requestKind, requestTag]
    · have hexec : exec (.resetRun tag .fits) s = .next (onLink (arrive (.resetRun tag .fits)) s) := rfl
      rw [hexec, onLink_reset (sc := .run) hidle hs rfl]
      simp [replyKind, requestKind, requestTag]
  · exact exec_unchanged (.code .fieldRange) hidle hs rfl
  · exact exec_unchanged (.code .fieldRange) hidle hs rfl

/-! ## CHANNEL_SET -/

theorem LinkKept.setChan (s : State) (c : Chan) (x : Channel) : LinkKept s (s.setChan c x) :=
  LinkKept.of_eq (by simp) (by simp) (by simp) (by simp)

theorem filterOf_of_four_le {b : Byte} (h : 4 ≤ b.toNat) : filterOf b = none := by
  have h0 : b ≠ 0 := by bv_omega
  have h1 : b ≠ 1 := by bv_omega
  have h2 : b ≠ 2 := by bv_omega
  have h3 : b ≠ 3 := by bv_omega
  rw [filterOf, if_neg h0, if_neg h1, if_neg h2, if_neg h3]

theorem filterOf_of_lt {b : Byte} (h : b.toNat < 4) : ∃ g, filterOf b = some g ∧ g.code = b := by
  have hb : b = 0 ∨ b = 1 ∨ b = 2 ∨ b = 3 := by bv_omega
  obtain rfl | rfl | rfl | rfl := hb <;> exact ⟨_, rfl, rfl⟩

theorem policyOf_of_lt {b : Byte} (h : b.toNat < 2) : ∃ u, policyOf b = some u ∧ u.code = b := by
  have hb : b = 0 ∨ b = 1 := by bv_omega
  obtain rfl | rfl := hb <;> exact ⟨_, rfl, rfl⟩

theorem onOffOf_of_lt {b : Byte} (h : b.toNat < 2) : onOffOf b = some (decide (b = 1)) := clearOf_of_le_one (by omega)

theorem counterOf_defined {b : Byte} (h : b.toNat < 16 ∨ b = 0xFF) : ∃ k, counterOf b = some k ∧ counterCode k = b := by
  by_cases hb : b = 0xFF
  · subst hb; exact ⟨none, rfl, rfl⟩
  · have hlt : b.toNat < 16 := h.resolve_right hb
    refine ⟨some ⟨b.toNat, hlt⟩, ?_, byte_of_val rfl⟩
    rw [counterOf, if_neg hb, indexOf_of_eq (i := ⟨b.toNat, hlt⟩) rfl]
    rfl

/-- An undefined enumerated field of a CHANNEL_SET (R51). -/
theorem channelSetConfig_undefined {f : ChannelSetFields}
    (h : 4 ≤ f.syncFilter.toNat ∨ 4 ≤ f.guardFilter.toNat ∨ 4 ≤ f.lightFilter.toNat ∨ 2 ≤ f.policy.toNat ∨
      2 ≤ f.reportOk.toNat ∨ (16 ≤ f.counter.toNat ∧ f.counter ≠ 0xFF)) : channelSetConfig f = none := by
  unfold channelSetConfig
  split
  · rename_i hsf hgf hlf hu hro hk
    obtain h | h | h | h | h | ⟨h, hff⟩ := h
    · rw [filterOf_of_four_le h] at hsf; cases hsf
    · rw [filterOf_of_four_le h] at hgf; cases hgf
    · rw [filterOf_of_four_le h] at hlf; cases hlf
    · rw [policyOf_of_two_le h] at hu; cases hu
    · rw [onOffOf_of_two_le h] at hro; cases hro
    · rw [counterOf_none h hff] at hk; cases hk
  · rfl

theorem eq_clampBiasHold_iff (x : Nat) : (x : Int) = (clampBiasHold x : Nat) ↔ x = 0 ∨ 16 ≤ x := by
  unfold clampBiasHold; split <;> omega

theorem eq_clampProfile_iff (b : Byte) : (b.toNat : Int) = ((clampProfile b).val : Nat) ↔ b.toNat ≤ 15 := by
  simp only [clampProfile]; omega

/-- The configuration that a CHANNEL_SET applies, when its enumerated fields are the codes of these. -/
theorem configApplied_of_codes {f : ChannelSetFields} {sf gf lf : Filter} {u : Policy} {k : Option (Fin 16)}
    (hsf : sf.code = f.syncFilter) (hgf : gf.code = f.guardFilter) (hlf : lf.code = f.lightFilter)
    (hu : u.code = f.policy) (hk : counterCode k = f.counter) :
    configAsApplied f
      { w := clampNat 16 1023 f.w.toNat, pnom := clampNat 1024 65535 f.pnom.toNat, tw := clampNat 16 4095 f.tw.toNat
        m := clampNat 1 15 f.m.toNat, syncFilter := sf, guardFilter := gf, lightFilter := lf
        early := clampNat 0 4095 f.early.toNat, late := clampNat 0 4095 f.late.toNat
        lightGrace := clampNat 0 4095 f.lightGrace.toNat, overrun := clampNat 0 4095 f.overrun.toNat
        spacing := clampNat 16 8191 f.spacing.toNat, biasHold := clampBiasHold f.biasHold.toNat
        reportOk := decide (f.reportOk = 1), profile := clampProfile f.profile, policy := u, counter := k } where
  w := rfl
  pnom := by simp only [clampNat]; omega
  tw := rfl
  m := rfl
  syncFilter := hsf
  guardFilter := hgf
  lightFilter := hlf
  early := Nat.zero_max _
  late := Nat.zero_max _
  lightGrace := Nat.zero_max _
  overrun := Nat.zero_max _
  spacing := rfl
  biasHold := rfl
  reportOk := decide_eq_true_iff
  profile := Nat.min_comm ..
  policy := hu
  counter := hk

/-- A CHANNEL_SET with defined enumerated fields writes the configuration it asks for, clamped (R51, R52). -/
theorem channelSetConfig_defined {f : ChannelSetFields} (hsf : f.syncFilter.toNat < 4) (hgf : f.guardFilter.toNat < 4)
    (hlf : f.lightFilter.toNat < 4) (hu : f.policy.toNat < 2) (hro : f.reportOk.toNat < 2)
    (hk : f.counter.toNat < 16 ∨ f.counter = 0xFF) :
    ∃ r g, channelSetConfig f = some (r, g) ∧ configAsApplied f g ∧
      r.byte = if configInRange f then 0x00 else 0x01 := by
  obtain ⟨sf, hsf, esf⟩ := filterOf_of_lt hsf
  obtain ⟨gf, hgf, egf⟩ := filterOf_of_lt hgf
  obtain ⟨lf, hlf, elf⟩ := filterOf_of_lt hlf
  obtain ⟨u, hu, eu⟩ := policyOf_of_lt hu
  obtain ⟨k, hk, ek⟩ := counterOf_defined hk
  simp only [channelSetConfig, hsf, hgf, hlf, hu, onOffOf_of_lt hro, hk]
  refine ⟨_, _, rfl, ?_, ?_⟩
  · exact configApplied_of_codes esf egf elf eu ek
  · rw [clampCode_byte]
    refine if_congr ?_ rfl rfl
    have hpnom : f.pnom.toNat ≤ 65535 := Nat.le_of_lt_succ f.pnom.isLt
    simp (disch := decide) only [List.forall_mem_cons, List.not_mem_nil, false_implies, implies_true, and_true,
      eq_clampBiasHold_iff, eq_clampNat_iff, eq_clampProfile_iff, configInRange, Nat.zero_le, true_and, hpnom]

/-- Settles O28. -/
theorem channelSetWritesTheConfiguration : Obligations.ChannelSetWritesTheConfiguration := by
  intro tag f s hidle hs
  refine ⟨fun hbad => ?_, fun c hc => ⟨fun hon => ?_, fun hoff hbad => ?_, fun hoff hsf hgf hlf hu hro hk => ?_⟩⟩
  · exact exec_unchanged (.code .fieldRange) hidle hs (by simp only [serve, serveChannelSet, withPayload, chanOf_of_two_le hbad])
  · exact exec_unchanged (.code .wrongState) hidle hs
      (by simp only [serve, serveChannelSet, withPayload, hc, chanOf_chanCode, online_eq_true hon, if_true])
  · exact exec_unchanged (.code .fieldRange) hidle hs
      (by simp only [serve, serveChannelSet, withPayload, hc, chanOf_chanCode, online_eq_false hoff, Bool.false_eq_true,
        if_false, channelSetConfig_undefined hbad])
  · obtain ⟨r, g, hcfg, happlied, hr⟩ := channelSetConfig_defined hsf hgf hlf hu hro hk
    refine ⟨g, happlied, ?_⟩
    exact exec_request (s.setChan c { s.chan c with config := g }) (.channelSet r c g) hidle (LinkKept.setChan ..)
      (by simp only [serve, serveChannelSet, withPayload, hc, chanOf_chanCode, online_eq_false hoff, Bool.false_eq_true,
        if_false, hcfg, modChan_eq])
      (hpayload := by rw [← hr]; rfl)

/-! ## CHANNEL_ONLINE -/

/-- An OFFLINE channel begins to acquire, and the Safety Timer starts when the other one is OFFLINE and the part is not in
Safe Dark (R53, R154). -/
theorem serveChannelOnline_off {b : Byte} {c : Chan} {s : State} (hc : b = chanCode c)
    (hoff : (s.chan c).tracker.state = .off) :
    serveChannelOnline (.fits b) s =
      ({ (s.setChan c { s.chan c with tracker := ⟨.acquiring, none, (s.chan c).config.pnom, 0, 0⟩ }) with
          safety := if (s.chan c.other).tracker.state = .off ∧ s.safe = none then
            { s.safety with state := .running, pointer := .a, restartedAt := s.now } else s.safety }, .code .ok) := by
  simp only [serveChannelOnline, withPayload, hc, chanOf_chanCode, online_eq_false hoff, Bool.false_eq_true, if_false]
  by_cases h : (s.chan c.other).tracker.state = .off ∧ s.safe = none
  · have hstart : (!(s.chan c.other).online && s.safe.isNone) = true := by simp [online_eq_false h.1, h.2]
    simp only [hstart, if_pos h, if_true]
    cases c <;> rfl
  · have hstart : (!(s.chan c.other).online && s.safe.isNone) = false := by
      simpa [Channel.online, Option.isSome_iff_ne_none] using h
    simp only [hstart, if_neg h, Bool.false_eq_true, if_false]
    cases c <;> rfl

/-- Settles O29. -/
theorem channelOnlineBeginsToAcquire : Obligations.ChannelOnlineBeginsToAcquire := by
  intro tag b s hidle hs
  refine ⟨fun hbad => ?_, fun c hc => ⟨fun hon => ?_, fun hoff => ?_⟩⟩
  · exact exec_unchanged (.code .fieldRange) hidle hs
      (by simp only [serve, serveChannelOnline, withPayload, chanOf_of_two_le hbad])
  · exact exec_unchanged (.code .wrongState) hidle hs
      (by simp only [serve, serveChannelOnline, withPayload, hc, chanOf_chanCode, online_eq_true hon, if_true])
  · exact exec_request _ (.code .ok) hidle
      ((LinkKept.setChan s c { s.chan c with tracker := acquiringTracker (s.chan c).config.pnom }).trans
        (LinkKept.of_eq rfl rfl rfl rfl))
      (by rw [serve, serveChannelOnline_off hc hoff])

/-! ## UNPARK and CLEAR_FAULT -/

/-- A HEAD_STATE request on a defined head. -/
theorem withHeadState_fits {b : Byte} {h : Fin 24} (hb : b.toNat = h.val) (s : State) (act : Fin 24 → State × Reply) :
    withHeadState (.fits b) s act = act h := by
  simp only [withHeadState, indexOf_of_eq hb]

theorem withHeadState_undefined {b : Byte} (hb : 24 ≤ b.toNat) (s : State) (act : Fin 24 → State × Reply) :
    withHeadState (.fits b) s act = (s, .code .fieldRange) := by
  simp only [withHeadState, indexOf_of_le hb]

theorem isFault_iff (x : HeadState) : x.isFault = true ↔ ∃ k, x = .fault k := by
  cases x <;> simp [HeadState.isFault]

/-- Settles O33. -/
theorem unparkAndClearFaultReturnToReady : Obligations.UnparkAndClearFaultReturnToReady := by
  intro tag b s hidle hs
  refine ⟨fun hb => ⟨?_, ?_⟩, fun a => ⟨?_, ?_⟩, fun h hb => ⟨fun hp => ?_, fun hp => ?_, fun k hk => ?_, fun hk => ?_⟩⟩
  · exact exec_unchanged (.code .fieldRange) hidle hs (by rw [serve, serveUnpark, withHeadState_undefined hb])
  · exact exec_unchanged (.code .fieldRange) hidle hs (by rw [serve, serveClearFault, withHeadState_undefined hb])
  · exact exec_unchanged (.code .fieldRange) hidle hs rfl
  · exact exec_unchanged (.code .fieldRange) hidle hs rfl
  · exact exec_request_driven (s.setHead h { s.heads[h] with state := .ready }) (.headState .ok .ready 0) hidle
      (driven_with_head hs ..) (LinkKept.of_eq rfl rfl rfl rfl)
      (by rw [serve, serveUnpark, withHeadState_fits hb]; simp only [if_pos hp])
  · exact exec_unchanged (.headState .wrongState s.heads[h].state 0) hidle hs
      (by rw [serve, serveUnpark, withHeadState_fits hb]; simp only [if_neg hp]; rfl)
  · exact exec_request_driven (s.setHead h { s.heads[h] with state := .ready, strikes := 0 }) (.headState .ok .ready 0) hidle
      (driven_with_head hs ..) (LinkKept.of_eq rfl rfl rfl rfl)
      (by rw [serve, serveClearFault, withHeadState_fits hb]; simp only [if_pos ((isFault_iff _).2 ⟨k, hk⟩)])
  · have hnot : ¬ s.heads[h].state.isFault = true := fun hf => ((isFault_iff _).1 hf).elim hk
    exact exec_unchanged (.headState .wrongState s.heads[h].state 0) hidle hs
      (by rw [serve, serveClearFault, withHeadState_fits hb]; simp only [if_neg hnot]; rfl)

/-! ## RESUME -/

/-- A RESUME that is refused changes nothing (R162). -/
theorem serveResume_refused {s : State} (h : s.safe = none ∨ s.supflt = true) :
    serveResume (.fits ()) s = (s, .code .wrongState) := by
  simp only [serveResume, withPayload]
  obtain h | h := h
  · rw [h]
  · cases s.safe with
    | none => rfl
    | some k => simp only [h, if_true]

/-- An accepted RESUME clears Safe Dark, and starts the timer when a channel is online (R154, R162). -/
theorem serveResume_accepted {s : State} {cause : SafeCause} (h : s.safe = some cause) (hlow : s.supflt = false) :
    serveResume (.fits ()) s = (resumed s, .resume cause) := by
  simp only [serveResume, withPayload, h]
  rw [if_neg (by simp [hlow])]
  rfl

theorem resumed_eq (s : State) : resumed s =
    { s with
      safe := none
      safety := if s.ch0.tracker.state = .off ∧ s.ch1.tracker.state = .off then s.safety
        else { s.safety with state := .running, pointer := .a, restartedAt := s.now } } := by
  unfold resumed
  by_cases h : s.ch0.tracker.state = .off ∧ s.ch1.tracker.state = .off
  · rw [if_pos h]
    simp only [online_eq_false h.1, online_eq_false h.2, Bool.or_self, Bool.false_eq_true, if_false]
  · have hon : (s.ch0.online || s.ch1.online) = true := by
      simpa [Channel.online, imp_iff_not_or] using h
    rw [if_neg h]
    simp only [hon, if_true]
    rfl

/-- Settles O43. -/
theorem resumeClearsSafeDark : Obligations.ResumeClearsSafeDark := by
  intro tag s hidle
  refine ⟨fun hs h => ?_, fun cause hsafe hlow => ?_⟩
  · exact exec_unchanged (.code .wrongState) hidle hs (by rw [serve, serveResume_refused h])
  · rw [← resumed_eq]
    refine exec_request (resumed s) (.resume cause) hidle ?_ (by rw [serve, serveResume_accepted hsafe hlow])
    rw [resumed_eq]
    exact LinkKept.of_eq rfl rfl rfl rfl

end Sys2Proof.Machine
end

section
/-! PROOFS. The reset values and the laws right after a cold reset, the Heat Monitor, the heating arithmetic and the
classification (spec/02, spec/06, spec/07). -/

namespace Sys2Proof.Machine

/-! ## The reset state -/

/-- Settles O4: each of the values is one that the reset state writes. -/
theorem coldResetValues : Obligations.ColdResetValues := by
  refine ⟨fun c => ?_, fun h => ?_, fun i => ?_, fun i => ?_, fun i => ?_, fun i => ?_, ?_⟩
  · cases c <;> exact ⟨rfl, rfl, rfl, rfl, rfl, rfl, rfl⟩
  · exact Vector.getElem_replicate ..
  · exact Vector.getElem_replicate ..
  · exact Vector.getElem_replicate ..
  · exact Vector.getElem_replicate ..
  · exact Vector.getElem_replicate ..
  · exact ⟨rfl, rfl, rfl, rfl, rfl, rfl, rfl, rfl, rfl, rfl, rfl, rfl, rfl, rfl, rfl⟩

theorem reset_chan (c : Chan) : State.reset.chan c = coldChannel := by cases c <;> rfl

theorem reset_head (h : Fin 24) : State.reset.heads[h] = coldHead := Vector.getElem_replicate ..

/-- The ranges of the reset values of a head record. -/
theorem coldHead_range : HeadRange coldHead := by
  constructor <;> decide

/-- Settles O5: each law of a part whose channels are both in their cold-reset state. -/
theorem resetMeetsTheLaws : Obligations.ResetMeetsTheLaws := by
  have hchan : ∀ c, State.reset.chan c = coldChannel := reset_chan
  refine ⟨⟨rfl, fun h => by cases h⟩, ?veto, Nat.zero_le _, ⟨?capacity, ?spaced, ?unsynced⟩, List.nodup_nil, ?phase,
    ?commit, ?home, ?unlit, ?dark, ⟨Nat.zero_le _, fun p hp => (nomatch hp), ?fresh⟩, fun h => absurd rfl h, ?heads,
    ?timer⟩
  case heads => intro h; rw [reset_head]; exact coldHead_range
  case timer => constructor <;> simp [State.reset, coldSafety, coldChannel, offTracker, Channel.online]
  case veto => intro c; simp [hchan, coldChannel]
  case capacity | spaced | unsynced | fresh | unlit =>
    intro c; simp [hchan, coldChannel, Spaced]
  case phase | commit | home | dark =>
    intro c; simp [hchan, coldChannel, phaseMatches, darkSequencer, LaserState.lit]

/-! ## The Heat Monitor -/

/-- A charge of any units, up to the wear test, is the record of `heated`. -/
theorem charged_noticed_iff (r : Head) (u : Nat) : (r.charged u).wears ↔
    r.wearThreshold ≠ 0 ∧ r.wearNoticed = false ∧ r.wearThreshold ≤ min (r.lifetime + u) 4294967295 := Iff.rfl

theorem heated_of_wears {r : Head} {u : Nat} (hu : u ≠ 0) (hw : (r.charged u).wears) :
    r.heated u = { r.charged u with wearNoticed := true } := by
  obtain ⟨h0, h1, h2⟩ := (charged_noticed_iff r u).1 hw
  simp [Head.heated, Head.charged, hu, h0, h2, Config.max16, Config.max32]

theorem heated_of_not_wears {r : Head} {u : Nat} (hu : u ≠ 0) (hw : ¬ (r.charged u).wears) :
    r.heated u = r.charged u := by
  rw [charged_noticed_iff] at hw
  have hnot : (r.wearNoticed || (r.wearThreshold != 0 && decide (r.wearThreshold ≤ min (r.lifetime + u) 4294967295))) =
      r.wearNoticed := by
    cases hn : r.wearNoticed with
    | true => rfl
    | false => simpa [hn] using hw
  simp only [Head.heated, Head.charged, if_neg hu, hnot]
  rfl

/-- A charge that passes the wear test writes the heated record and places a WEAR notice (R149, R150). -/
theorem charge_of_wears {h : Fin 24} {u : Nat} {s : State} (hu : u ≠ 0) (hw : (s.heads[h].charged u).wears) :
    charge h u s = placeNotice (.wear h s.heads[h].channel (min (s.heads[h].lifetime + u) 4294967295)
      s.heads[h].wearThreshold) (s.setHead h (s.heads[h].heated u)) := by
  have hget : (s.setHead h (s.heads[h].charged u)).heads[h] = s.heads[h].charged u := heads_set_same ..
  rw [charge, if_neg hu, wearTest_of_wears (by rw [hget]; exact hw), hget, heated_of_wears hu hw]
  simp only [State.setHead, Vector.set_set]
  rfl

/-- A charge that does not pass the wear test writes the heated record alone. -/
theorem charge_of_not_wears {h : Fin 24} {u : Nat} {s : State} (hu : u ≠ 0) (hw : ¬ (s.heads[h].charged u).wears) :
    charge h u s = s.setHead h (s.heads[h].heated u) := by
  have hget : (s.setHead h (s.heads[h].charged u)).heads[h] = s.heads[h].charged u := heads_set_same ..
  rw [charge, if_neg hu, wearTest_of_not (by rw [hget]; exact hw), heated_of_not_wears hu hw]

/-- Settles O59: the cases of the Notice Queue, of the wear test and of a charge. -/
theorem placingAndCharging : Obligations.PlacingAndCharging := by
  refine ⟨fun n s => ⟨fun h => ?_, fun h => ?_⟩, fun h s r hr => ⟨fun h0 h1 h2 => ?_, fun hnot => ?_, fun u hu => ⟨fun h0 h1 h2 => ?_,
    fun hnot => ?_⟩, rfl⟩, fun q => ?_⟩
  · rw [placeNotice_eq, Link.noticed, if_neg (by simp only [Config.noticeCapacity]; omega)]
  · rw [placeNotice_eq, Link.noticed, if_pos (by simpa only [Config.noticeCapacity] using h)]
  · subst hr; exact wearTest_of_wears ⟨h0, h1, h2⟩
  · subst hr
    refine wearTest_of_not ?_
    rintro ⟨h0, h1, h2⟩
    obtain hnot | hnot | hnot := hnot
    · exact h0 hnot
    · rw [hnot] at h1; cases h1
    · omega
  · subst hr; exact charge_of_wears hu ((charged_noticed_iff _ _).2 ⟨h0, h1, h2⟩)
  · subst hr
    refine charge_of_not_wears hu fun hw => ?_
    obtain ⟨h0, h1, h2⟩ := (charged_noticed_iff _ _).1 hw
    obtain hnot | hnot | hnot := hnot
    · exact h0 hnot
    · rw [hnot] at h1; cases h1
    · omega
  · cases ho : q.overflow <;> simp [QueuedNotice.payload, bitAt, ho]

/-- An event that is listed when it is due. -/
theorem mem_whenDue (due : Bool) (i j : Instr) : i ∈ whenDue due j ↔ due = true ∧ i = j := by
  cases due <;> simp [whenDue]

/-- Settles O58: the two cases of the due test. -/
theorem leakInstantLowersEveryBucket : Obligations.LeakInstantLowersEveryBucket := by
  intro s hheld
  have hdue : leakDue s = decide ((s.leaksTaken + 1) * 1024 ≤ s.now) := rfl
  have hexec : ∀ t, (if leakDue s then leak s else s) = t → exec .leakInstant s = .next t.settled := by
    rintro t rfl
    simp only [exec, execLeakInstant, onEvent, hheld, Bool.false_eq_true, if_false, State.settled]
  have hmem : Instr.leakInstant ∈ dueEvents s ↔ leakDue s = true := by
    simp [dueEvents, channelDue, mem_whenDue, hheld]
  refine ⟨fun hlt => ⟨hexec s ?_, ?_⟩, fun hle => ⟨?_, mapAll Head.leaked s.heads, fun h => mapAll_get .., hexec _ ?_⟩⟩
  · rw [hdue, if_neg (by simpa using hlt)]
  · rw [hmem, hdue]; simpa using hlt
  · rw [hmem, hdue]; simpa using hle
  · rw [hdue, if_pos (by simpa using hle)]; rfl

end Sys2Proof.Machine
end

section
/-! PROOFS. The heating arithmetic (spec/02): the quantities of a plan as integers, the derate and the currents. -/

namespace Sys2Proof.Machine

/-! ## The plan -/

theorem clampTo_cast (lo hi : Nat) (x : Int) : (clampTo lo hi x : Int) = max (lo : Int) (min (hi : Int) x) :=
  Int.toNat_of_nonneg (by omega)

/-- The threshold current as an integer (R29). -/
theorem thresholdCurrent_cast (h : Head) (t : Int) : (thresholdCurrent h t : Int) =
    max 0 (min 1023 ((h.ith25 : Int) + Int.tdiv (h.ktemp * (t - 25)) 16)) := clampTo_cast ..

/-- The operating current as an integer (R30). -/
theorem operatingCurrent_cast (h : Head) (p : Profile) (dP : Int) : (operatingCurrent h p dP : Int) =
    max 0 (min 255 ((p.p : Int) + dP)) * (h.gain : Int) / 64 := by
  simp only [operatingCurrent, Nat.cast_ofNat, Int.natCast_ediv, Nat.cast_mul, clampTo_cast, Nat.cast_zero]

/-- The warm lead as an integer (R35). -/
theorem warmLead_cast (h : Head) (p : Profile) (t dL : Int) : (warmLead h p t dL : Int) =
    max 16 (min 8191 ((p.lb : Int) + (h.lightEst : Int) + Int.tdiv (h.lt * (t - 25)) 8 + dL)) := clampTo_cast ..

/-- The effective bias current as an integer (R34). -/
theorem biasCurrentFor_cast (h : Head) (ith : Nat) : (biasCurrentFor h ith : Int) =
    if (ith : Int) = 0 then 0 else min (h.ibias : Int) (min ((ith : Int) - 1) (h.imax : Int)) := by
  unfold biasCurrentFor
  by_cases h0 : ith = 0
  · simp [h0]
  · rw [if_neg h0, if_neg (by omega)]; omega

/-- The preheat current of a profile whose share is at most 16 sixteenths does not exceed the sustain current (R33). -/
theorem preheat_le (sustain fp : Nat) (h : fp ≤ 16) : sustain * fp / 16 ≤ sustain :=
  Nat.div_le_of_le_mul (by rw [Nat.mul_comm]; exact Nat.mul_le_mul_right _ h)

/-- The ten quantities of a plan (R29 to R36) with their law (R38). -/
theorem computePlan_quantities {h : Head} {p : Profile} {t dP dL : Int} {select trim : Option (Fin 64)} {policy : Policy}
    {q : Plan} {ith iop l : Int} (hr : HeadRange h) (hq : q = computePlan h p t dP dL select trim policy)
    (hith : ith = max 0 (min 1023 ((h.ith25 : Int) + Int.tdiv (h.ktemp * (t - 25)) 16)))
    (hiop : iop = max 0 (min 255 ((p.p : Int) + dP)) * (h.gain : Int) / 64)
    (hl : l = max 16 (min 8191 ((p.lb : Int) + (h.lightEst : Int) + Int.tdiv (h.lt * (t - 25)) 8 + dL))) :
    (q.ith : Int) = ith ∧ (q.sustain : Int) = min (ith + iop) (h.imax : Int) ∧
      (q.capped = true ↔ (h.imax : Int) < ith + iop) ∧ q.boost = min (q.sustain + p.db) h.imax ∧
      q.preheat = q.sustain * p.fp / 16 ∧
      (q.bias : Int) = (if ith = 0 then 0 else min (h.ibias : Int) (min (ith - 1) (h.imax : Int))) ∧
      q.boostLen = p.kb ∧ q.tailLen = p.tt ∧ (q.lead : Int) = l ∧
      (q.coldLead : Int) = min (l + (h.coldExtra : Int)) 8191 ∧ 16 ≤ q.lead ∧ q.lead ≤ q.coldLead ∧ q.coldLead ≤ 8191 ∧
      (q.ith < q.sustain → p.fp ≤ 16 →
        q.sustain ≤ q.boost ∧ q.boost ≤ h.imax ∧ h.imax ≤ 1023 ∧ q.preheat ≤ q.sustain ∧ 1 ≤ q.boost ∧
          q.bias ≤ h.imax ∧ (q.bias < q.ith ∨ q.bias = 0 ∧ q.ith = 0)) := by
  have eith : (thresholdCurrent h t : Int) = ith := by rw [thresholdCurrent_cast, hith]
  have eiop : (operatingCurrent h p dP : Int) = iop := by rw [operatingCurrent_cast, hiop]
  have el : (warmLead h p t dL : Int) = l := by rw [warmLead_cast, hl]
  have hl16 : 16 ≤ l ∧ l ≤ 8191 := by omega
  have ebias := biasCurrentFor_cast h (thresholdCurrent h t)
  have himax := hr.imax
  rw [eith] at ebias
  clear hith hiop hl
  subst hq
  simp only [computePlan, coldLeadFor, decide_eq_true_eq]
  refine ⟨eith, by omega, by omega, trivial, trivial, ebias, trivial, trivial, el, by omega, by omega, by omega, by omega, fun _ hfp => ?_⟩
  refine ⟨by omega, by omega, himax, preheat_le _ _ hfp, by omega, ?_, ?_⟩ <;> split at ebias <;> omega

/-! ## The derate -/

/-- A derate factor is below 256, and what it leaves of the boost current fits the headroom (R40). -/
theorem derateFactor_bounds {boost : Nat} {headroom : Int} (h : headroom < (boost : Int)) :
    derateFactor boost headroom ≤ 255 ∧
      ((0 : Int) ≤ headroom → ((deratedCurrent boost (derateFactor boost headroom) : Nat) : Int) ≤ headroom) := by
  unfold derateFactor deratedCurrent
  by_cases hpos : 0 < headroom
  · rw [if_pos hpos]
    have hlt : headroom.toNat < boost := by omega
    have hfactor : headroom.toNat * 256 / boost < 256 :=
      Nat.div_lt_of_lt_mul (by rw [Nat.mul_comm boost]; omega)
    have hfits : boost * (headroom.toNat * 256 / boost) / 256 ≤ headroom.toNat :=
      Nat.div_le_of_le_mul (by rw [Nat.mul_comm 256]; exact Nat.mul_div_le ..)
    exact ⟨by omega, fun _ => by omega⟩
  · rw [if_neg hpos]
    exact ⟨Nat.zero_le _, fun h0 => by simpa using h0⟩

theorem supplyCheck_clear {p : Plan} {headroom : Int} (h : (p.boost : Int) ≤ headroom) : supplyCheck p headroom = .clear :=
  if_pos h

theorem supplyCheck_short {p : Plan} {headroom : Int} (h : headroom < (p.boost : Int)) :
    supplyCheck p headroom =
      if deratedCurrent p.sustain (derateFactor p.boost headroom) ≤ p.ith then .starved (derateFactor p.boost headroom)
      else .derated (derateFactor p.boost headroom) := if_neg (by omega)

/-! ## The currents -/

theorem litCurrent_eq {b : Burst} {l : LaserState} {current : Nat}
    (h : (l = .preheat ∨ l = .hold ∨ l = .tail) ∧ current = b.currents.preheat ∨ l = .boost ∧ current = b.currents.boost ∨
      l = .sustain ∧ current = b.currents.sustain ∨ (l = .bias ∨ l = .dark) ∧ current = 0) : litCurrent l b = current := by
  obtain ⟨rfl | rfl | rfl, rfl⟩ | ⟨rfl, rfl⟩ | ⟨rfl, rfl⟩ | ⟨rfl | rfl, rfl⟩ := h <;> rfl

/-- Settles O60. -/
theorem heatingArithmetic : Obligations.HeatingArithmetic := by
  refine ⟨fun _ _ _ _ _ _ _ _ _ _ _ _ hr hq hith hiop hl => computePlan_quantities hr hq hith hiop hl,
    fun p headroom f hf => ⟨supplyCheck_clear, fun hlt => ?_⟩, fun b lead k hk => ?_, fun b f => ⟨fun h => ?_, fun h => ?_⟩,
    fun b l current ticks h => ?_⟩
  · have hfactor : f = derateFactor p.boost headroom := hf
    subst hfactor
    exact ⟨(derateFactor_bounds hlt).1, (derateFactor_bounds hlt).2, supplyCheck_short hlt⟩
  · subst hk; rfl
  · simp only [Burst.currents, h]
  · simp only [Burst.currents, h, deratedCurrent]
  · rw [Burst.litFor, litCurrent_eq h]
    exact ⟨rfl, by norm_num⟩

end Sys2Proof.Machine
end

section
/-! PROOFS. Classification (spec/06): the range bits of a key, the first rule of a stage that takes it, and the actions. -/

namespace Sys2Proof.Machine

/-! ## The key -/

/-- A bit of a byte with one place set. -/
theorem getLsbD_one_shiftLeft (i j : Fin 8) : (1#8 <<< i.val).getLsbD j.val = decide (i = j) := by
  revert i j; decide

/-- Setting the places that a test picks out of a list sets exactly those. -/
theorem foldl_places (test : Fin 8 → Bool) (l : List (Fin 8)) (acc : Byte) (j : Fin 8) :
    (l.foldl (fun acc i => if test i then acc ||| (1#8 <<< i.val) else acc) acc).getLsbD j.val =
      (acc.getLsbD j.val || decide (j ∈ l ∧ test j = true)) := by
  induction l generalizing acc with
  | nil => simp
  | cons i l ih =>
    rw [List.foldl_cons, ih]
    by_cases hi : test i = true
    · rw [if_pos hi, BitVec.getLsbD_or, getLsbD_one_shiftLeft]
      by_cases hij : i = j
      · subst hij; simp [hi]
      · simp [hij, Ne.symm hij]
    · rw [if_neg hi]
      by_cases hij : i = j
      · subst hij; simp [hi]
      · simp [Ne.symm hij]

theorem rangeBits_getLsbD (ks : Vector RangeChecker 8) (track offset : Nat) (temp : Int) (i : Fin 8) :
    (rangeBitsOf ks track offset temp).getLsbD i.val = ks[i].accepts track offset temp := by
  rw [rangeBitsOf, foldl_places (fun i => ks[i].accepts track offset temp)]
  simp

/-- A Range Checker accepts a value of its field within its bounds (R117). -/
theorem checker_accepts_iff (k : RangeChecker) (track offset : Nat) (temp : Int) :
    k.accepts track offset temp = true ↔
      (k.field = .track → k.low ≤ (track : Int) ∧ (track : Int) ≤ k.high) ∧
      (k.field = .temperature → k.low ≤ temp ∧ temp ≤ k.high) ∧
      (k.field = .offset → k.low ≤ (offset : Int) ∧ (offset : Int) ≤ k.high) := by
  unfold RangeChecker.accepts
  cases k.field <;> simp

/-! ## The lookups -/

theorem rule_accepts_iff (r : RuleEntry) (k : Key) : r.accepts k = true ↔ RuleMatches r k := by
  have hkind : r.kinds.getLsbD k.kind.code = r.kinds.toNat.testBit k.kind.byte.toNat := by
    cases k.kind <;> rfl
  have hchan : r.channel.accepts k.channel = true ↔ r.channel = .any ∨ r.channel = .only k.channel := by
    cases r.channel <;> simp [ChanMatch.accepts]
  simp only [RuleEntry.accepts, Bool.and_eq_true, beq_iff_eq, hkind, hchan]
  exact ⟨fun ⟨⟨⟨a, b⟩, c⟩, d⟩ => ⟨a, b, c, d⟩, fun ⟨a, b, c, d⟩ => ⟨⟨⟨a, b⟩, c⟩, d⟩⟩

theorem isSelect_iff (r : RuleEntry) : r.isSelect = true ↔ ∃ p u, r.action = .select p u := by
  unfold RuleEntry.isSelect
  cases r.action <;> simp

/-- The test of a lookup is that the rule takes the key (R121). -/
theorem lookup_test_iff (rules : Vector RuleEntry 64) (select : Bool) (k : Key) (i : Fin 64) :
    (rules[i].valid && rules[i].isSelect == select && rules[i].accepts k) = true ↔ RuleTakes rules select k i := by
  rw [Bool.and_eq_true, Bool.and_eq_true, rule_accepts_iff, beq_iff_eq, RuleTakes, ← isSelect_iff, and_assoc]
  refine and_congr_right fun _ => and_congr_left fun _ => ?_
  cases select <;> cases rules[i].isSelect <;> simp

/-- A lookup answers the first rule of its stage that takes the key (R122, R123). -/
theorem lookup_firstRule (rules : Vector RuleEntry 64) (select : Bool) (k : Key) :
    FirstRule rules select k (lookup rules select k) := by
  cases h : lookup rules select k with
  | none =>
    intro j hj
    have hnone := List.find?_eq_none.1 h j (List.mem_finRange j)
    exact hnone ((lookup_test_iff ..).2 hj)
  | some i =>
    obtain ⟨htake, before, after, hsplit, hbefore⟩ := List.find?_eq_some_iff_append.1 h
    refine ⟨(lookup_test_iff ..).1 htake, fun j hji hj => ?_⟩
    have hsorted : (before ++ i :: after).Pairwise (· < ·) := by
      rw [← hsplit]; exact List.pairwise_lt_finRange 64
    have hmem : j ∈ before ++ i :: after := by rw [← hsplit]; exact List.mem_finRange j
    obtain hmem | rfl | hmem := by simpa only [List.mem_append, List.mem_cons] using hmem
    · have hnot := hbefore j hmem
      rw [(lookup_test_iff ..).2 hj] at hnot
      cases hnot
    · exact lt_irrefl _ hji
    · have hij := (List.pairwise_cons.1 (List.pairwise_append.1 hsorted).2.1).1 j hmem
      exact lt_asymm hij hji

/-! ## The actions -/

/-- The action of a rule of the SELECT stage (R122). -/
theorem selectAction_of_takes {s : State} {c : Chan} {key : Key} {j : Fin 64} (h : RuleTakes s.rules true key j) :
    s.rules[j].action = .select (selectAction s c (some j)).1 (selectAction s c (some j)).2.1 ∧
      (selectAction s c (some j)).2.2 = s.rules[j].counter := by
  obtain ⟨p, u, hact⟩ := h.2.1.1 rfl
  simp only [selectAction, hact, and_self]

/-- The action of a rule of the TRIM stage (R123). -/
theorem trimAction_of_takes {s : State} {key : Key} {j : Fin 64} (h : RuleTakes s.rules false key j) :
    s.rules[j].action = .trim (trimAction s (some j)).1 (trimAction s (some j)).2.1 ∧
      (trimAction s (some j)).2.2 = s.rules[j].counter := by
  have hnot : ¬ ∃ p u, s.rules[j].action = .select p u := fun hsel => absurd (h.2.1.2 hsel) (by decide)
  cases hact : s.rules[j].action with
  | select p u => exact absurd ⟨p, u, hact⟩ hnot
  | trim a b => simp only [trimAction, hact, and_self]

/-- Settles O39. -/
theorem classificationTakesTheFirstMatch : Obligations.ClassificationTakesTheFirstMatch := by
  intro s h c kind track offset k hk
  subst hk
  have hselect := lookup_firstRule s.rules true (classify s h c kind track offset).key
  have htrim := lookup_firstRule s.rules false (classify s h c kind track offset).key
  refine ⟨rfl, rfl, rfl, fun i => ?_, hselect, htrim, fun hnone => ?_, fun j hj => ?_, fun hnone => ?_, fun j hj => ?_⟩
  · rw [show (classify s h c kind track offset).key.rangeBits = rangeBitsOf s.checkers track offset (s.chan c).temp from rfl,
      rangeBits_getLsbD, checker_accepts_iff]
  · have hact : selectAction s c (classify s h c kind track offset).selectRule = selectAction s c none := by rw [hnone]
    exact ⟨congrArg (fun a => a.1) hact, congrArg (fun a => a.2.1) hact, congrArg (fun a => a.2.2) hact⟩
  · have htakes : RuleTakes s.rules true (classify s h c kind track offset).key j := by
      have hfirst := hselect
      rw [show lookup s.rules true (classify s h c kind track offset).key = some j from hj] at hfirst
      exact hfirst.1
    have hact : selectAction s c (classify s h c kind track offset).selectRule = selectAction s c (some j) := by rw [hj]
    have hsel := selectAction_of_takes (c := c) htakes
    rw [← hact] at hsel
    exact hsel
  · have hact : trimAction s (classify s h c kind track offset).trimRule = trimAction s none := by rw [hnone]
    exact ⟨congrArg (fun a => a.1) hact, congrArg (fun a => a.2.1) hact, congrArg (fun a => a.2.2) hact⟩
  · have htakes : RuleTakes s.rules false (classify s h c kind track offset).key j := by
      have hfirst := htrim
      rw [show lookup s.rules false (classify s h c kind track offset).key = some j from hj] at hfirst
      exact hfirst.1
    have hact : trimAction s (classify s h c kind track offset).trimRule = trimAction s (some j) := by rw [hj]
    have htr := trimAction_of_takes htakes
    rw [← hact] at htr
    exact htr

end Sys2Proof.Machine
end

section
/-! PROOFS. The characters and the frames of the Plan Link (R165 to R168): the bits of PLTX, the receiver on a train of good
characters, and the arrival of the frame it completes. -/

namespace Sys2Proof.Machine

/-! ## The transmitter's bits -/

@[simp] theorem charLevels_length (w : Byte) : (charLevels w).length = 10 := by simp [charLevels]

@[simp] theorem frameBody_length (f : Frame) : (frameBody f).length = f.payload.length + 3 := by simp [frameBody]

@[simp] theorem frameWire_length (f : Frame) : (frameWire f).length = f.payload.length + 6 := by
  simp [frameWire]

theorem frameLevels_length (f : Frame) : (frameLevels f).length = 10 * (f.payload.length + 6) := by
  simp [frameLevels, List.length_flatMap, Nat.mul_comm]

/-- The levels of the byte at a place of a frame. -/
theorem flatMap_charLevels_getD {l : List Byte} {i : Nat} {w : Byte} (hw : l[i]? = some w) {j : Nat} (hj : j < 10) :
    (l.flatMap charLevels).getD (10 * i + j) true = (charLevels w).getD j true := by
  induction l generalizing i with
  | nil => simp at hw
  | cons b l ih =>
    rw [List.flatMap_cons]
    cases i with
    | zero =>
      simp only [List.getElem?_cons_zero, Option.some.injEq] at hw
      subst hw
      rw [Nat.mul_zero, Nat.zero_add, List.getD_append _ _ _ _ (by simpa using hj)]
    | succ i =>
      simp only [List.getElem?_cons_succ] at hw
      rw [List.getD_append_right _ _ _ _ (by simp; omega), charLevels_length, ← ih hw]
      congr 1
      omega

/-- A byte is sent as its good character's levels after a low start bit. -/
theorem charLevels_getD_zero (w : Byte) : (charLevels w).getD 0 true = false := rfl

theorem charLevels_getD_succ (t : Int) (w : Byte) {j : Nat} (hj : j < 9) :
    (charLevels w).getD (j + 1) true = (goodChar t w).levels.getLsbD j := by
  have hlevels : (charLevels w).getD (j + 1) true = ((List.range 8).map w.getLsbD ++ [true]).getD j true := rfl
  rw [hlevels, goodChar, BitVec.getLsbD_append]
  obtain hlt | rfl : j < 8 ∨ j = 8 := by omega
  · rw [List.getD_append _ _ _ _ (by simpa using hlt), if_pos hlt]
    simp [List.getD_eq_getElem?_getD, hlt]
  · rfl

/-- The level of PLTX in a bit of a byte (R165). -/
theorem pltx_in_byte {l : Link} {x : Sending} {start i j u : Nat} {w : Byte} (htx : l.tx = some x)
    (hend : x.endsAt = start + 50 * (x.frame.payload.length + 6)) (hw : (frameWire x.frame)[i]? = some w) (hj : j < 10)
    (hu : u < 5) : pltx l (start + 50 * i + 5 * j + u) = (charLevels w).getD j true := by
  have hplace : (start + 50 * i + 5 * j + u + frameTicks x.frame - x.endsAt) / Config.bitTicks = 10 * i + j := by
    simp only [frameTicks, Config.charTicks, Config.bitTicks, hend]
    omega
  simp only [pltx, htx, hplace]
  exact flatMap_charLevels_getD hw hj

/-- PLTX at and after the end of the frame that was sent. -/
theorem pltx_after {l : Link} {x : Sending} {now : Nat} (htx : l.tx = some x) (hend : x.endsAt ≤ now) :
    pltx l now = true := by
  simp only [pltx, htx]
  rw [List.getD_eq_default]
  rw [frameLevels_length]
  simp only [frameTicks, Config.charTicks, Config.bitTicks]
  omega

/-- Settles O14. -/
theorem pltxCarriesTheFrame : Obligations.PltxCarriesTheFrame := by
  refine ⟨fun l now h => by simp only [pltx, h], fun l x start i w htx hend hw => ⟨fun u hu => ?_, fun j u hj hu => ?_, ?_, ?_,
    fun now hnow => pltx_after htx hnow⟩⟩
  · rw [← charLevels_getD_zero w, ← pltx_in_byte (j := 0) htx hend hw (by decide) hu, Nat.mul_zero, Nat.add_zero]
  · rw [pltx_in_byte (j := j + 1) htx hend hw (by omega) hu]
    exact charLevels_getD_succ _ w hj
  · exact charData_good ..
  · exact charStop_good ..

/-! ## The receiver -/

/-- The state with the receiver in this state, and its last character ended at this moment. -/
def State.receiving (s : State) (x : Receiver) (e : Int) : State :=
  { s with link := { s.link with rx := x, rxEnd := e } }

@[simp] theorem receiving_receiving (s : State) (x y : Receiver) (d e : Int) :
    (s.receiving x d).receiving y e = s.receiving y e := rfl

theorem receiving_self {s : State} {x : Receiver} (h : s.link.rx = x) : s.receiving x s.link.rxEnd = s := by
  subst h; rfl

theorem not_endedBeforeReset {k : Character} {s : State} (h : (s.lineEpoch : Int) ≤ k.start + 50) :
    endedBeforeReset k s = false := by
  simp only [endedBeforeReset, Config.charTicks]; exact decide_eq_false (by omega)

/-- A character that completes no frame moves the receiver alone. -/
theorem takeChar_none {s : State} {k : Character} {y : Receiver} (h : (s.lineEpoch : Int) ≤ k.start + 50)
    (hr : receiveChar (s.link.rx.afterGap (k.start - s.link.rxEnd)) k = (y, none)) :
    takeChar s k = s.receiving y (k.start + 50) := by
  simp only [takeChar, not_endedBeforeReset h, hr]
  rfl

/-- A character that completes a frame is followed by the arrival of its request. -/
theorem takeChar_frame {s : State} {k : Character} {y : Receiver} {f : Frame} (h : (s.lineEpoch : Int) ≤ k.start + 50)
    (hr : receiveChar (s.link.rx.afterGap (k.start - s.link.rxEnd)) k = (y, some f)) :
    takeChar s k = arrived (requestOf f) (s.receiving y (k.start + 50)) := by
  simp only [takeChar, not_endedBeforeReset h, hr]
  rfl

/-- A gap within the limit makes no difference. -/
theorem afterGap_within {x : Receiver} {gap : Int} (h : gap ≤ 1000) : x.afterGap gap = x := by
  cases x with
  | hunting => rfl
  | assembling got => exact if_neg (by simp only [Config.gapLimit]; omega)

theorem afterGap_beyond {x : Receiver} {gap : Int} (h : 1000 < gap) : x.afterGap gap = .hunting := by
  cases x with
  | hunting => rfl
  | assembling got => exact if_pos (by simp only [Config.gapLimit]; omega)

@[simp] theorem afterGap_hunting (gap : Int) : Receiver.hunting.afterGap gap = .hunting := rfl

/-- A good start byte begins a frame. -/
theorem receiveChar_start (t : Int) : receiveChar .hunting (goodChar t 0xA6#8) = (.assembling [], none) := by
  simp [receiveChar]

/-- A good character inside a frame, with the length byte it has then. -/
theorem receiveChar_good (got : List Byte) (t : Int) (b : Byte) :
    receiveChar (.assembling got) (goodChar t b) =
      if (byteAt (got ++ [b]) 0).toNat < 2 ∨ 250 < (byteAt (got ++ [b]) 0).toNat then (.hunting, none)
      else if (got ++ [b]).length = (byteAt (got ++ [b]) 0).toNat + 3 then (.hunting, judgeFrame (got ++ [b]))
      else (.assembling (got ++ [b]), none) := by
  simp only [receiveChar, charStop_good, charData_good, Bool.not_true, Bool.false_eq_true, if_false]

theorem receiveChar_bad (got : List Byte) (t : Int) (b : Byte) :
    receiveChar (.assembling got) (badChar t b) = (.hunting, none) := by
  simp only [receiveChar, charStop_bad, Bool.not_false, if_true]

theorem byteAt_append_left (l m : List Byte) (h : l ≠ []) : byteAt (l ++ m) 0 = byteAt l 0 :=
  List.getD_append _ _ _ _ (List.length_pos_iff.2 h)

/-- Good characters back to back inside a frame, none of them its last, are assembled. -/
theorem takeChars_assembling (bs got : List Byte) (t : Int) (s : State) (hs : (s.lineEpoch : Int) ≤ t + 50)
    (h2 : 2 ≤ (byteAt (got ++ bs) 0).toNat) (h250 : (byteAt (got ++ bs) 0).toNat ≤ 250)
    (hlen : (got ++ bs).length < (byteAt (got ++ bs) 0).toNat + 3) :
    takeChars (trainAt t bs) (s.receiving (.assembling got) t) =
      s.receiving (.assembling (got ++ bs)) (t + 50 * bs.length) := by
  induction bs generalizing got t with
  | nil => simp [takeChars, trainAt]
  | cons b bs ih =>
    have happend : got ++ b :: bs = (got ++ [b]) ++ bs := by simp
    have hhead : byteAt (got ++ b :: bs) 0 = byteAt (got ++ [b]) 0 := by
      rw [happend, byteAt_append_left _ _ (by simp)]
    have hnot : ¬ ((byteAt (got ++ [b]) 0).toNat < 2 ∨ 250 < (byteAt (got ++ [b]) 0).toNat) := by
      rw [← hhead]; omega
    have hmore : (got ++ [b]).length ≠ (byteAt (got ++ [b]) 0).toNat + 3 := by
      rw [← hhead]; simp at hlen ⊢; omega
    have hchar : takeChar (s.receiving (.assembling got) t) (goodChar t b) =
        s.receiving (.assembling (got ++ [b])) (t + 50) := by
      refine takeChar_none (s := s.receiving (.assembling got) t) hs ?_
      show receiveChar (Receiver.afterGap (.assembling got) (t - t)) (goodChar t b) = _
      rw [afterGap_within (by omega), receiveChar_good, if_neg hnot, if_neg hmore]
    rw [happend] at h2 h250 hlen ⊢
    have hrest := ih (got ++ [b]) (t + 50) (by omega) h2 h250 hlen
    rw [trainAt, takeChars, List.foldl_cons, hchar]
    refine hrest.trans (congrArg _ ?_)
    simp only [List.length_cons]
    push_cast
    ring

theorem trainAt_append (t : Int) (a b : List Byte) : trainAt t (a ++ b) = trainAt t a ++ trainAt (t + 50 * a.length) b := by
  induction a generalizing t with
  | nil => simp [trainAt]
  | cons x a ih =>
    simp only [List.cons_append, trainAt, ih, List.length_cons]
    congr 3
    push_cast
    ring

theorem takeChars_append (a b : List Character) (s : State) : takeChars (a ++ b) s = takeChars b (takeChars a s) :=
  List.foldl_append ..

/-- A start byte and good characters that do not end their frame, sent to a hunting receiver, are assembled. -/
theorem takeChars_from_start {bs : List Byte} {t : Int} {s : State} (hrx : s.link.rx = .hunting)
    (hs : (s.lineEpoch : Int) ≤ t + 50) (h2 : 2 ≤ (byteAt bs 0).toNat) (h250 : (byteAt bs 0).toNat ≤ 250)
    (hlen : bs.length < (byteAt bs 0).toNat + 3) :
    takeChars (trainAt t (0xA6#8 :: bs)) s = s.receiving (.assembling bs) (t + 50 * (bs.length + 1)) := by
  have hstart : takeChar s (goodChar t 0xA6#8) = s.receiving (.assembling []) (t + 50) :=
    takeChar_none hs (by rw [hrx]; exact receiveChar_start t)
  rw [trainAt, takeChars, List.foldl_cons, hstart]
  refine (takeChars_assembling bs [] (t + 50) s (by omega) h2 h250 hlen).trans (congrArg _ ?_)
  ring

/-- The length byte of a frame's body counts kind, tag and payload. -/
theorem frameBody_head (f : Frame) (h : f.payload.length ≤ 248) (l : List Byte) :
    (byteAt (frameBody f ++ l) 0).toNat = f.payload.length + 2 := by
  simp only [byteAt, frameBody, List.cons_append, List.getD_cons_zero, BitVec.toNat_ofNat]
  omega

/-- A whole frame with the check bytes `hi` and `lo`, up to its last character. -/
theorem takeChars_frame {f : Frame} {t : Int} {s : State} {hi lo : Byte} (hf : f.payload.length ≤ 248)
    (hrx : s.link.rx = .hunting) (hs : (s.lineEpoch : Int) ≤ t + 50) :
    takeChars (trainAt t (0xA6#8 :: (frameBody f ++ [hi, lo]))) s =
      match judgeFrame (frameBody f ++ [hi, lo]) with
      | none => s.receiving .hunting (t + 50 * (f.payload.length + 6))
      | some g => arrived (requestOf g) (s.receiving .hunting (t + 50 * (f.payload.length + 6))) := by
  have hsplit : (0xA6#8 :: (frameBody f ++ [hi, lo])) = (0xA6#8 :: (frameBody f ++ [hi])) ++ [lo] := by simp
  have hall : frameBody f ++ [hi] ++ [lo] = frameBody f ++ [hi, lo] := by simp
  have hhead := frameBody_head f hf
  have hbody := takeChars_from_start (bs := frameBody f ++ [hi]) hrx hs (by rw [hhead]; omega) (by rw [hhead]; omega)
    (by rw [hhead]; simp)
  have hend : t + 50 * ((0xA6#8 :: (frameBody f ++ [hi])).length : Int) + 50 = t + 50 * ((f.payload.length : Int) + 6) := by
    simp only [List.length_cons, List.length_append, frameBody_length, List.length_nil]
    push_cast
    ring
  have hgap : t + 50 * ((0xA6#8 :: (frameBody f ++ [hi])).length : Int) -
      (t + 50 * (((frameBody f ++ [hi]).length : Int) + 1)) ≤ 1000 := by
    simp only [List.length_cons]
    push_cast
    omega
  have hlast : receiveChar (Receiver.afterGap (.assembling (frameBody f ++ [hi]))
        (t + 50 * ((0xA6#8 :: (frameBody f ++ [hi])).length : Int) - (t + 50 * (((frameBody f ++ [hi]).length : Int) + 1))))
        (goodChar (t + 50 * ((0xA6#8 :: (frameBody f ++ [hi])).length : Int)) lo) =
      (.hunting, judgeFrame (frameBody f ++ [hi, lo])) := by
    rw [afterGap_within hgap, receiveChar_good, hall, if_neg (by rw [hhead]; omega), if_pos (by rw [hhead]; simp)]
  have hepoch : (s.lineEpoch : Int) ≤ t + 50 * ((0xA6#8 :: (frameBody f ++ [hi])).length : Int) + 50 := by omega
  rw [hsplit, trainAt_append, takeChars_append, hbody]
  cases hj : judgeFrame (frameBody f ++ [hi, lo]) with
  | none =>
    rw [hj] at hlast
    have htake := takeChar_none (s := s.receiving (.assembling (frameBody f ++ [hi])) _) (k := goodChar _ lo) hepoch hlast
    refine htake.trans ?_
    rw [goodChar_start, hend]
    rfl
  | some g =>
    rw [hj] at hlast
    have htake := takeChar_frame (s := s.receiving (.assembling (frameBody f ++ [hi])) _) (k := goodChar _ lo) hepoch hlast
    refine htake.trans ?_
    rw [goodChar_start, hend]
    rfl

/-! ## The check -/

theorem judgeFrame_eq (f : Frame) (hi lo : Byte) :
    judgeFrame (frameBody f ++ [hi, lo]) = if crc (frameBody f) = hi ++ lo then some f else none := by
  have hn : (frameBody f ++ [hi, lo]).length - 2 = (frameBody f).length := by simp
  have htake : (frameBody f ++ [hi, lo]).take (frameBody f).length = frameBody f := List.take_left
  have hhi : byteAt (frameBody f ++ [hi, lo]) (frameBody f).length = hi := by
    rw [byteAt, List.getD_append_right _ _ _ _ le_rfl, Nat.sub_self]; rfl
  have hlo : byteAt (frameBody f ++ [hi, lo]) ((frameBody f).length + 1) = lo := by
    rw [byteAt, List.getD_append_right _ _ _ _ (Nat.le_add_right _ 1), Nat.add_sub_cancel_left]; rfl
  simp only [judgeFrame, hn, htake, hhi, hlo]
  rfl

theorem word_of_bytes (x : U16) : (x >>> 8).setWidth 8 ++ x.setWidth 8 = x := by
  apply BitVec.eq_of_getLsbD_eq
  intro i hi
  rw [BitVec.getLsbD_append]
  by_cases h : i < 8
  · simp [h]
  · have h8 : i - 8 < 8 := by omega
    have hadd : 8 + (i - 8) = i := by omega
    simp [h, h8, hadd]

/-- A frame as it is sent passes its check. -/
theorem judgeFrame_wire (f : Frame) :
    judgeFrame (frameBody f ++ [(crc (frameBody f) >>> 8).setWidth 8, (crc (frameBody f)).setWidth 8]) = some f := by
  rw [judgeFrame_eq, word_of_bytes, if_pos rfl]

/-! ## The arrival -/

/-- A command that is the arrival of a request. -/
def IsArrival (i : Instr) : Prop := ∀ s, exec i s = .next (onLink (arrive i) s)

theorem resetRequest_isArrival (tag : Byte) (p : List Byte) : IsArrival (resetRequest tag p) := by
  unfold resetRequest
  repeat' refine iteInduction (motive := IsArrival) (fun _ => ?_) (fun _ => ?_)
  all_goals exact fun s => rfl

theorem headStateRequest_isArrival (tag : Byte) (p : List Byte) : IsArrival (headStateRequest tag p) := by
  unfold headStateRequest
  repeat' refine iteInduction (motive := IsArrival) (fun _ => ?_) (fun _ => ?_)
  all_goals exact fun s => rfl

/-- The command of a frame is an arrival on the link (R169, R170). -/
theorem requestOf_isArrival (f : Frame) : IsArrival (requestOf f) := by
  unfold requestOf
  dsimp only
  iterate 2 refine iteInduction (motive := IsArrival) (fun _ s => rfl) (fun _ => ?_)
  refine iteInduction (motive := IsArrival) (fun _ => resetRequest_isArrival f.tag f.payload) (fun _ => ?_)
  iterate 6 refine iteInduction (motive := IsArrival) (fun _ s => rfl) (fun _ => ?_)
  refine iteInduction (motive := IsArrival) (fun _ => headStateRequest_isArrival f.tag f.payload) (fun _ => ?_)
  iterate 11 refine iteInduction (motive := IsArrival) (fun _ s => rfl) (fun _ => ?_)
  exact fun s => rfl

/-- On a part that is not held, the command of a frame does what follows the arrival of its request. -/
theorem exec_requestOf (f : Frame) {s : State} (h : s.held = false) :
    exec (requestOf f) s = .next (arrived (requestOf f) s) := by
  rw [requestOf_isArrival f s, onLink, if_neg (by simp [h])]
  rfl

end Sys2Proof.Machine
end

section
/-! PROOFS. The link at work (R168 to R173): what every service leaves of the link, and the frames that arrive or are
discarded. -/

namespace Sys2Proof.Machine

/-! ## The transmitter -/

/-- A busy transmitter takes nothing. -/
theorem startNotice_busy {s : State} (h : s.link.tx ≠ none) : startNotice s = s := by
  unfold startNotice
  split
  · contradiction
  · rfl

theorem pump_busy {s : State} (h : s.link.tx ≠ none) : pump s = s := by
  unfold pump
  split
  · contradiction
  · exact startNotice_busy h

/-- With no reply waiting the transmitter can take a notice alone. -/
theorem pump_no_reply {s : State} (h : s.link.replies = []) : pump s = startNotice s := by
  unfold pump
  split
  · simp_all
  · rfl

theorem startNotice_held (s : State) : (startNotice s).held = s.held := by
  unfold startNotice
  split <;> rfl

theorem releasePlace_held (s : State) : (releasePlace s).held = s.held := by
  unfold releasePlace
  split
  · rfl
  · split
    · rfl
    · exact (serve_linkServed ..).held

theorem pump_held (s : State) : (pump s).held = s.held := by
  unfold pump
  split
  · dsimp only
    split
    · rfl
    · exact releasePlace_held _
  · exact startNotice_held s

theorem arrive_held (r : Instr) (s : State) : (arrive r s).held = s.held := by
  unfold arrive
  split
  · rfl
  · split
    · exact (serve_linkServed ..).held
    · rfl
    · exact (serve_linkServed ..).held
    · split <;> rfl

theorem arrived_held (r : Instr) (s : State) : (arrived r s).held = s.held := (pump_held _).trans (arrive_held r s)

/-! ## Frames that arrive -/

theorem exec_frameArrival {s : State} (h : s.held = false) (cs : List Character) :
    exec (.frameArrival cs) s = .next (takeChars cs s) := by
  have hexec : exec (.frameArrival cs) s = .next (if s.held then s else takeChars cs s) := rfl
  rw [hexec, if_neg (by simp [h])]

/-- Settles O13: the receiver assembles the frame's bytes, the check passes, and the request arrives. -/
theorem frameIsReceivedAsItsRequest : Obligations.FrameIsReceivedAsItsRequest := by
  intro f t s s1 hf hheld hrx hepoch hs1
  have hs1' : s1 = s.receiving .hunting (t + 50 * (f.payload.length + 6)) := by
    rw [hs1, State.receiving, ← hrx]
  have hheld1 : s1.held = false := by rw [hs1]; exact hheld
  have htrain : takeChars (trainAt t (frameWire f)) s = arrived (requestOf f) s1 := by
    have hframe := takeChars_frame (hi := (crc (frameBody f) >>> 8).setWidth 8) (lo := (crc (frameBody f)).setWidth 8)
      hf hrx hepoch
    rw [judgeFrame_wire] at hframe
    rw [hs1']
    exact hframe
  refine ⟨?_, fun u more hu => ?_⟩
  · rw [exec_frameArrival hheld, exec_requestOf f hheld1, htrain]
  · rw [exec_requestOf f hheld1] at hu
    cases hu
    rw [exec_frameArrival hheld, takeChars_append, htrain,
      exec_frameArrival ((arrived_held _ _).trans hheld1)]

/-! ## Characters and frames that are discarded -/

/-- A whole frame whose check fails is discarded. -/
theorem takeChars_badCheck {f : Frame} {t : Int} {s : State} {hi lo : Byte} (hf : f.payload.length ≤ 248)
    (hrx : s.link.rx = .hunting) (hs : (s.lineEpoch : Int) ≤ t + 50) (hcrc : crc (frameBody f) ≠ hi ++ lo) :
    takeChars (trainAt t (0xA6#8 :: (frameBody f ++ [hi, lo]))) s =
      s.receiving .hunting (t + 50 * (f.payload.length + 6)) := by
  rw [takeChars_frame hf hrx hs, judgeFrame_eq, if_neg hcrc]

/-- The characters of a frame up to a place before its end. -/
theorem takeChars_partial {f : Frame} {t : Int} {s : State} (hf : f.payload.length ≤ 248) (hrx : s.link.rx = .hunting)
    (hs : (s.lineEpoch : Int) ≤ t + 50) (n : Nat) (hn : n ≤ f.payload.length + 3) :
    takeChars (trainAt t (0xA6#8 :: (frameBody f).take n)) s =
      s.receiving (.assembling ((frameBody f).take n)) (t + 50 * (n + 1)) := by
  have hlen : ((frameBody f).take n).length = n := by simp [hn]
  cases n with
  | zero =>
    have hstart := takeChar_none (k := goodChar t 0xA6#8) hs (by rw [hrx]; exact receiveChar_start t)
    simpa [takeChars, trainAt] using hstart
  | succ n =>
    have hhead : (byteAt ((frameBody f).take (n + 1)) 0).toNat = f.payload.length + 2 := by
      simp only [byteAt, frameBody, List.take_succ_cons, List.getD_cons_zero, BitVec.toNat_ofNat]
      omega
    have htake := takeChars_from_start (bs := (frameBody f).take (n + 1)) hrx hs (by omega) (by omega) (by omega)
    rw [htake, hlen]

/-- A bad character inside a frame discards it. -/
theorem takeChar_bad {got : List Byte} {e t : Int} {s : State} (hs : (s.lineEpoch : Int) ≤ t + 50) (hgap : t - e ≤ 1000)
    (b : Byte) : takeChar (s.receiving (.assembling got) e) (badChar t b) = s.receiving .hunting (t + 50) :=
  takeChar_none (s := s.receiving (.assembling got) e) (k := badChar t b) hs
    (by
      show receiveChar (Receiver.afterGap (.assembling got) (t - e)) (badChar t b) = _
      rw [afterGap_within hgap, receiveChar_bad])

/-- A length byte out of range discards the frame. -/
theorem takeChars_badLength {t : Int} {n : Byte} {s : State} (hrx : s.link.rx = .hunting)
    (hs : (s.lineEpoch : Int) ≤ t + 50) (hn : n.toNat < 2 ∨ 250 < n.toNat) :
    takeChars (trainAt t [0xA6#8, n]) s = s.receiving .hunting (t + 100) := by
  have hstart := takeChar_none (k := goodChar t 0xA6#8) hs (by rw [hrx]; exact receiveChar_start t)
  have hnext := takeChar_none (s := s.receiving (.assembling []) (t + 50)) (k := goodChar (t + 50) n) (y := .hunting)
    (show (s.lineEpoch : Int) ≤ t + 50 + 50 by omega)
    (by
      show receiveChar (Receiver.afterGap (.assembling []) (t + 50 - (t + 50))) (goodChar (t + 50) n) = _
      rw [afterGap_within (by omega), receiveChar_good, if_pos (by simpa [byteAt] using hn)])
  simp only [takeChars, trainAt, List.foldl_cons, List.foldl_nil]
  rw [hstart, goodChar_start, hnext, goodChar_start]
  simp only [receiving_receiving, add_assoc]
  rfl

/-- A character that had ended when the last reset acted has no effect. -/
theorem takeChar_ended {s : State} {k : Character} (h : k.start + 50 < (s.lineEpoch : Int)) : takeChar s k = s := by
  have hended : endedBeforeReset k s = true := decide_eq_true h
  rw [takeChar, if_pos hended]

/-- While hunting, every character but a good start byte is skipped. -/
theorem receiveChar_hunting (k : Character) : receiveChar .hunting k =
    (if charStop k = true ∧ charData k = 0xA6 then .assembling [] else .hunting, none) := by
  simp [receiveChar]

/-- What a character does depends on the receiver as the gap before it leaves it. -/
theorem takeChar_congr {s t : State} {k : Character} (hepoch : t.lineEpoch = s.lineEpoch) {x : Receiver} {e : Int}
    (ht : t = s.receiving x e)
    (hrx : x.afterGap (k.start - e) = s.link.rx.afterGap (k.start - s.link.rxEnd))
    (hs : (s.lineEpoch : Int) ≤ k.start + 50) : takeChar t k = takeChar s k := by
  subst ht
  have hrx' : (s.receiving x e).link.rx.afterGap (k.start - (s.receiving x e).link.rxEnd) =
      s.link.rx.afterGap (k.start - s.link.rxEnd) := hrx
  cases hr : receiveChar (s.link.rx.afterGap (k.start - s.link.rxEnd)) k with
  | mk y f =>
    cases f with
    | none =>
      rw [takeChar_none hs hr, takeChar_none (s := s.receiving x e) hs (hrx'.symm ▸ hr)]; rfl
    | some f =>
      rw [takeChar_frame hs hr, takeChar_frame (s := s.receiving x e) hs (hrx'.symm ▸ hr)]; rfl

/-- A good character continues a frame that it does not end. -/
theorem receiveChar_continues {got : List Byte} {k : Character} {n : Byte} (hstop : charStop k = true)
    (hn : (got ++ [charData k]).head? = some n) (h2 : 2 ≤ n.toNat) (h250 : n.toNat ≤ 250)
    (hlen : got.length ≠ n.toNat + 2) :
    receiveChar (.assembling got) k = (.assembling (got ++ [charData k]), none) := by
  have hbyte : byteAt (got ++ [charData k]) 0 = n := by
    rw [byteAt, List.getD_eq_getElem?_getD, ← List.head?_eq_getElem?, hn]; rfl
  have hmore : ¬ (got ++ [charData k]).length = n.toNat + 3 := by simp; omega
  simp only [receiveChar, hstop, hbyte, Bool.not_true, Bool.false_eq_true, if_false]
  rw [if_neg (by omega), if_neg hmore]

/-- Settles O15: each clause is one character at the receiver, or a train of them. -/
theorem partialAndBadFramesAreDiscarded : Obligations.PartialAndBadFramesAreDiscarded := by
  intro s hheld
  simp only [exec_frameArrival hheld]
  refine ⟨fun f t hf hrx hs => ⟨fun hi lo hcrc => ?_, fun n b hn => ?_⟩, fun t n hrx hs hn => ?_, fun k more hk => ?_,
    fun k hrx hs => ⟨fun hskip => ?_, fun hstop hdata => ?_⟩, fun k more got hrx hs hgap => ?_,
    fun k more got hrx hs hgap => ⟨?_, fun n hstop hn h2 h250 hlen => ?_⟩, fun got htx hdriven hrx => ⟨fun hgap => ?_, fun hgap => ?_⟩⟩
  · rw [takeChars_badCheck hf hrx hs hcrc, State.receiving, ← hrx]
  · rw [takeChars_append, takeChars_partial hf hrx hs n hn]
    have hbad := takeChar_bad (s := s) (got := (frameBody f).take n) (e := t + 50 * ((n : Int) + 1))
      (t := t + 50 * ((n : Int) + 1)) (by omega) (by omega) b
    simp only [takeChars, List.foldl_cons, List.foldl_nil]
    have hend : t + 50 * ((n : Int) + 1) + 50 = t + 50 * ((n : Int) + 2) := by ring
    rw [hbad, hend, State.receiving, ← hrx]
  · rw [takeChars_badLength hrx hs hn, State.receiving, ← hrx]
  · simp only [takeChars, List.foldl_cons, List.foldl_nil, takeChar_ended hk, and_self]
  · have hr : receiveChar (s.link.rx.afterGap (k.start - s.link.rxEnd)) k = (.hunting, none) := by
      rw [hrx, afterGap_hunting, receiveChar_hunting, if_neg (by rintro ⟨ha, hb⟩; rcases hskip with h | h <;> simp_all)]
    simp only [takeChars, List.foldl_cons, List.foldl_nil, takeChar_none hs hr]
    rw [State.receiving, ← hrx]
  · have hr : receiveChar (s.link.rx.afterGap (k.start - s.link.rxEnd)) k = (.assembling [], none) := by
      rw [hrx, afterGap_hunting, receiveChar_hunting, if_pos ⟨hstop, hdata⟩]
    simp only [takeChars, List.foldl_cons, List.foldl_nil, takeChar_none hs hr]
    rfl
  · have hhunt : takeChar (s.receiving .hunting s.link.rxEnd) k = takeChar s k :=
      takeChar_congr rfl rfl (by rw [hrx, afterGap_beyond (x := .assembling got) (by omega), afterGap_hunting]) hs
    have hexec := exec_frameArrival (s := s.receiving .hunting s.link.rxEnd) hheld (k :: more)
    rw [takeChars, List.foldl_cons, hhunt] at hexec
    exact hexec.symm
  · have hwithin : takeChar (s.receiving (.assembling got) k.start) k = takeChar s k :=
      takeChar_congr rfl rfl (by rw [hrx, afterGap_within (by omega), afterGap_within (by omega)]) hs
    have hstate : ({ s with link := { s.link with rxEnd := k.start } } : State) =
        s.receiving (.assembling got) k.start := by
      rw [State.receiving, ← hrx]
    rw [hstate, exec_frameArrival (s := s.receiving (.assembling got) k.start) hheld]
    simp only [takeChars, List.foldl_cons, hwithin]
  · have hr : receiveChar (s.link.rx.afterGap (k.start - s.link.rxEnd)) k = (.assembling (got ++ [charData k]), none) := by
      rw [hrx, afterGap_within (by omega), receiveChar_continues hstop hn h2 h250 hlen]
    simp only [takeChars, List.foldl_cons, List.foldl_nil, takeChar_none hs hr]
    rfl
  · have hdue : gapDue s.link s.now = true := by simp [gapDue, hrx, Config.gapLimit, hgap]
    have hexec : exec .gapLimitDiscard s = .next (onLink (fun s => if gapDue s.link s.now then
        s.modLink fun l => { l with rx := .hunting } else s) s) := rfl
    rw [hexec, onLink, if_neg (by simp [hheld])]
    simp only [hdue, if_true]
    rw [pump_busy (by exact htx)]
    exact congrArg _ (driven_with_link hdriven _)
  · have hdue : gapDue s.link s.now = false := by 
      simp only [gapDue, hrx, Config.gapLimit]
      exact decide_eq_false (by omega)
    have hexec : exec .gapLimitDiscard s = .next (onLink (fun s => if gapDue s.link s.now then
        s.modLink fun l => { l with rx := .hunting } else s) s) := rfl
    rw [hexec, onLink, if_neg (by simp [hheld])]
    simp only [hdue, Bool.false_eq_true, if_false]
    rw [pump_busy (by exact htx), hdriven]

end Sys2Proof.Machine
end

section
/-! PROOFS. What every operation of the Laser Sequencers keeps (`Steady`): the bursts it leaves are bursts that were held,
in their order and with their tags, heads and positions; the trackers and the configurations stay; a head keeps its channel
and its ranges; and the Supply Arbiter's law holds on, with a committed sum within what it was or the limit in force. One
lemma for each operation; the laws of queues, tags, heads and supply follow from it. -/

namespace Sys2Proof.Machine

/-! ## Queues -/

/-- What no event changes of a held burst: its tag, head, nominal position and length (R3). -/
def Burst.core (b : Burst) : U16 × Fin 24 × Nat × Nat := (b.tag, b.head, b.position, b.length)

/-- A burst that may still be armed carries no derate factor (R3). -/
def Burst.fresh (b : Burst) : Prop := b.state = .queued → b.decidedBar = none → b.derate = none

/-- The queue `r` holds bursts of `q` in their order; it carries no derate that `q` did not, and no burst behind its front
has left QUEUED. -/
structure QueueAges (q r : List Burst) : Prop where
  cores : (r.map Burst.core).Sublist (q.map Burst.core)
  fresh : (∀ b ∈ q, b.fresh) → ∀ b ∈ r, b.fresh
  rest : (∀ b ∈ q.tail, b.state = .queued) → ∀ b ∈ r.tail, b.state = .queued

theorem QueueAges.refl (q : List Burst) : QueueAges q q := ⟨List.Sublist.refl _, id, id⟩

theorem QueueAges.trans {q r u : List Burst} (a : QueueAges q r) (b : QueueAges r u) : QueueAges q u :=
  ⟨b.cores.trans a.cores, fun h => b.fresh (a.fresh h), fun h => b.rest (a.rest h)⟩

theorem QueueAges.nil (q : List Burst) : QueueAges q [] := 
  ⟨List.nil_sublist _, fun _ _ hb => (nomatch hb), fun _ _ hb => (nomatch hb)⟩

/-- Some of the bursts leave the queue. -/
theorem QueueAges.of_sublist {q r : List Burst} (h : r.Sublist q) : QueueAges q r where
  cores := h.map _
  fresh hq b hb := hq b (h.subset hb)
  rest hq b hb := hq b (h.tail.subset hb)

/-- The front burst changes, but for its core. -/
theorem QueueAges.modFirst {q : List Burst} {f : Burst → Burst} (hf : ∀ b ∈ q.head?, (f b).core = b.core)
    (hfresh : ∀ b ∈ q.head?, b.fresh → (f b).fresh) : QueueAges q (modFirst f q) := by
  cases q with
  | nil => exact .refl _
  | cons b q =>
    refine ⟨?_, fun h => ?_, id⟩
    · rw [Machine.modFirst, List.map_cons, List.map_cons, hf b rfl]
    · obtain ⟨hb, hq⟩ := List.forall_mem_cons.1 h
      exact List.forall_mem_cons.2 ⟨hfresh b rfl hb, hq⟩

/-- The front burst takes its place, and enters the bar it carries. -/
theorem QueueAges.asFront (q : List Burst) : QueueAges q (asFront q) := by
  rw [asFront_eq]
  refine .modFirst (fun b _ => ?_) fun b _ h => ?_ <;> unfold Burst.enterDecidedBar
  · split <;> rfl
  · split
    · intro hs; cases hs
    · exact h

/-- The heads of the bursts that are left are heads of bursts that were held. -/
theorem QueueAges.heads {q r : List Burst} (a : QueueAges q r) {b : Burst} (hb : b ∈ r) : ∃ d ∈ q, d.head = b.head := by
  have hmem := a.cores.subset (List.mem_map_of_mem hb)
  obtain ⟨d, hd, heq⟩ := List.mem_map.1 hmem
  exact ⟨d, hd, congrArg (fun p => p.2.1) heq⟩

/-! ## Channels -/

/-- A channel after an event of its Sequencer. -/
structure Ages (x y : Channel) : Prop where
  queue : QueueAges x.queue y.queue
  tracker : y.tracker = x.tracker
  config : y.config = x.config
  detached : ∀ b, y.seq.active = .detached b →
    (∃ d ∈ x.queue, d.head = b.head) ∨ ∃ d, x.seq.active = .detached d ∧ d.head = b.head

theorem Ages.refl (x : Channel) : Ages x x := ⟨.refl _, rfl, rfl, fun b hb => .inr ⟨b, hb, rfl⟩⟩

theorem Ages.trans {x y z : Channel} (a : Ages x y) (b : Ages y z) : Ages x z where
  queue := a.queue.trans b.queue
  tracker := b.tracker.trans a.tracker
  config := b.config.trans a.config
  detached d hd := by
    obtain ⟨e, he, heq⟩ | ⟨e, he, heq⟩ := b.detached d hd
    · obtain ⟨f, hf, hfe⟩ := a.queue.heads he
      exact .inl ⟨f, hf, hfe.trans heq⟩
    · obtain ⟨f, hf, hfe⟩ | ⟨f, hf, hfe⟩ := a.detached e he
      · exact .inl ⟨f, hf, hfe.trans heq⟩
      · exact .inr ⟨f, hf, hfe.trans heq⟩

/-- The queue ages, and the Sequencer runs a detached tail only when it did before. -/
theorem Ages.of_queue {x y : Channel} (hq : QueueAges x.queue y.queue) (ht : y.tracker = x.tracker)
    (hc : y.config = x.config) (ha : ∀ b, y.seq.active = .detached b → x.seq.active = .detached b) : Ages x y :=
  ⟨hq, ht, hc, fun b hb => .inr ⟨b, ha b hb, rfl⟩⟩

/-- Nothing of the queue or of the active burst changes. -/
theorem Ages.of_seq (x : Channel) (q : Sequencer) (ha : q.active = x.seq.active ∨ q.active = .idle ∨ q.active = .front) :
    Ages x { x with seq := q } := by
  refine .of_queue (.refl _) rfl rfl fun b hb => ?_
  obtain h | h | h := ha
  · rw [← h]; exact hb
  all_goals exact absurd (h.symm.trans hb) (by simp)

theorem Ages.phaseEnded (x : Channel) (n : Nat) : Ages x (x.phaseEnded n) := by
  have hlit : ∀ b, (x.litUpTo b n).core = b.core ∧ (b.fresh → (x.litUpTo b n).fresh) := by
    intro b
    unfold Channel.litUpTo
    split
    · exact ⟨rfl, id⟩
    · exact ⟨rfl, id⟩
  unfold Channel.phaseEnded
  split
  · exact .of_seq _ _ (.inl rfl)
  · exact .of_queue (.modFirst (fun b _ => (hlit b).1) fun b _ => (hlit b).2) rfl rfl fun b hb => hb
  · rename_i b hb
    refine ⟨.refl _, rfl, rfl, fun d hd => .inr ⟨b, hb, ?_⟩⟩
    cases hd
    exact (congrArg (fun p => p.2.1) (hlit b).1).symm

theorem Ages.tailed (x : Channel) (n : Nat) : Ages x (x.tailed n) := by
  unfold Channel.tailed
  split
  · exact .phaseEnded x n
  · exact (Ages.phaseEnded x n).trans (.of_seq _ _ (.inl rfl))

theorem Ages.without (x : Channel) (out : Burst → Bool) : Ages x (x.without out) := by
  have hkept : QueueAges x.queue (x.queue.filter fun b => !out b) := .of_sublist List.filter_sublist
  unfold Channel.without
  dsimp only
  split
  · exact .of_queue (hkept.trans (.asFront _)) rfl rfl fun _ hb => hb
  · exact .of_queue hkept rfl rfl fun b hb => hb

theorem Ages.advanced (x : Channel) : Ages x x.advanced :=
  .of_queue ((QueueAges.of_sublist (List.tail_sublist _)).trans (.asFront _)) rfl rfl fun _ hb => hb

/-! ## Heads -/

/-- A head record keeps its channel and the ranges of its fields. -/
structure HeadKept (r r' : Head) : Prop where
  channel : r'.channel = r.channel
  range : HeadRange r → HeadRange r'

theorem HeadKept.refl (r : Head) : HeadKept r r := ⟨rfl, id⟩

theorem HeadKept.trans {r r' r'' : Head} (a : HeadKept r r') (b : HeadKept r' r'') : HeadKept r r'' :=
  ⟨b.channel.trans a.channel, fun h => b.range (a.range h)⟩

theorem HeadKept.charged (r : Head) (u : Nat) : HeadKept r (r.charged u) :=
  ⟨rfl, fun h => { h with bucket := Nat.min_le_right .., lifetime := Nat.min_le_right .. }⟩

theorem HeadKept.noticed (r : Head) (v : Bool) : HeadKept r { r with wearNoticed := v } := ⟨rfl, fun h => { h with }⟩

theorem HeadKept.state (r : Head) (k : HeadState) : HeadKept r { r with state := k } := ⟨rfl, fun h => { h with }⟩

theorem HeadKept.strikes (r : Head) {n : Nat} (hn : n ≤ 7) : HeadKept r { r with strikes := n } :=
  ⟨rfl, fun h => { h with strikes := hn }⟩

theorem HeadKept.leaked (r : Head) : HeadKept r r.leaked :=
  ⟨rfl, fun h => { h with bucket := (Nat.sub_le ..).trans h.bucket }⟩

theorem HeadKept.clearedIf (r : Head) (p : Prop) [Decidable p] :
    HeadKept r (if p then { r with strikes := 0 } else r) := by
  split
  · exact .strikes _ (Nat.zero_le _)
  · exact .refl r

theorem HeadKept.afterCompletion (r : Head) (b : Burst) (v : Verdict) : HeadKept r (r.afterCompletion b v) := by
  unfold Head.afterCompletion
  dsimp only
  refine HeadKept.trans ?_ (.clearedIf _ _)
  split
  · refine ⟨rfl, fun h => { h with lightEst := ?_, countdown := le_rfl }⟩
    simp only [updatedLightEst, clampTo]
    omega
  · split
    · exact ⟨rfl, fun h => { h with countdown := (Nat.sub_le ..).trans h.countdown }⟩
    · exact .refl r

/-! ## The part -/

/-- What an event of the Laser Sequencers keeps. -/
structure Steady (s t : State) : Prop where
  ages : ∀ d, Ages (s.chan d) (t.chan d)
  heads : ∀ h : Fin 24, HeadKept s.heads[h] t.heads[h]
  effective : t.supply.effective = s.supply.effective
  supply : SupplyLaw s → SupplyLaw t ∧ t.committedSum ≤ max s.committedSum s.supply.effective

theorem Steady.refl (s : State) : Steady s s :=
  ⟨fun _ => .refl _, fun _ => .refl _, rfl, fun h => ⟨h, le_max_left ..⟩⟩

theorem Steady.trans {s t u : State} (a : Steady s t) (b : Steady t u) : Steady s u where
  ages d := (a.ages d).trans (b.ages d)
  heads h := (a.heads h).trans (b.heads h)
  effective := b.effective.trans a.effective
  supply h := by
    obtain ⟨ht, hst⟩ := a.supply h
    obtain ⟨hu, htu⟩ := b.supply ht
    rw [a.effective] at htu
    exact ⟨hu, htu.trans (max_le hst (le_max_right ..))⟩

theorem Steady.fresh {s t : State} (a : Steady s t)
    (h : ∀ c : Chan, ∀ b ∈ (s.chan c).queue, b.fresh) : ∀ c : Chan, ∀ b ∈ (t.chan c).queue, b.fresh :=
  fun c => (a.ages c).queue.fresh (h c)

/-- A change of the heads and the link alone. -/
theorem Steady.of_heads {s t : State} (hc : ∀ d, t.chan d = s.chan d) (hu : t.supply = s.supply)
    (hh : ∀ h : Fin 24, HeadKept s.heads[h] t.heads[h]) : Steady s t where
  ages d := by rw [hc]; exact .refl _
  heads := hh
  effective := by rw [hu]
  supply h := by
    have hsum : t.committedSum = s.committedSum := by
      rw [committedSum_eq _ .c0, committedSum_eq _ .c0, hc, hc]
    exact ⟨⟨by rw [hsum, hu]; exact h.within, by rw [hsum, hu]; exact h.waits, by simpa only [hc] using h.fresh⟩,
      hsum.le.trans (le_max_left ..)⟩

theorem Steady.setHead (s : State) (h : Fin 24) (r : Head) (hr : HeadKept s.heads[h] r) : Steady s (s.setHead h r) := by
  refine .of_heads (fun d => State.setHead_chan ..) rfl fun k => ?_
  by_cases hk : k = h
  · subst hk
    rw [State.setHead_heads, heads_set_same]
    exact hr
  · rw [State.setHead_heads, heads_set_ne _ _ _ _ hk]
    exact .refl _

theorem Steady.placeNotice (n : Notice) (s : State) : Steady s (placeNotice n s) :=
  .of_heads (fun _ => placeNotice_chan ..) rfl fun _ => .refl _

theorem Steady.wearTest (h : Fin 24) (s : State) : Steady s (wearTest h s) := by
  by_cases hw : s.heads[h].wears
  · rw [wearTest_of_wears hw]
    exact (Steady.setHead s h _ (.noticed _ true)).trans (.placeNotice ..)
  · rw [wearTest_of_not hw]
    exact .refl s

theorem Steady.charge (h : Fin 24) (u : Nat) (s : State) : Steady s (charge h u s) := by
  unfold Machine.charge
  split
  · exact .refl s
  · exact (Steady.setHead s h _ (.charged _ u)).trans (.wearTest ..)

theorem Steady.chargeBurst (b : Burst) (s : State) : Steady s (chargeBurst b s) := .charge ..

/-- One channel ages, and its commitment becomes `y.seq.committed`, with the limits as R144 leaves them: a commitment that
is no higher than the old one or fits the headroom keeps the law (R139, R144). -/
theorem Steady.commit {s : State} {c : Chan} {y : Channel} (hy : Ages (s.chan c) y)
    (hv : SupplyLaw s → y.seq.committed ≤ (s.chan c).seq.committed ∨ (y.seq.committed : Int) ≤ headroom c s) :
    Steady s ((s.setChan c y).setSupply (supplyAfter s.supply (y.seq.committed + (s.chan c.other).seq.committed))) where
  ages d := by
    obtain rfl | rfl := Chan.eq_or_other c d
    · rw [setSupply_chan, State.setChan_chan]; exact hy
    · rw [setSupply_chan, State.setChan_other]; exact .refl _
  heads h := by rw [setSupply_heads, State.setChan_heads]; exact .refl _
  effective := supplyAfter_effective ..
  supply h := by
    have hsum : ((s.setChan c y).setSupply
        (supplyAfter s.supply (y.seq.committed + (s.chan c.other).seq.committed))).committedSum =
        y.seq.committed + (s.chan c.other).seq.committed := by
      rw [committedSum_eq _ c, setSupply_chan, setSupply_chan, State.setChan_chan, State.setChan_other]
    have hold := committedSum_eq s c
    have hwithin := h.within
    have hwaits := h.waits
    have hbound : y.seq.committed + (s.chan c.other).seq.committed ≤ s.committedSum ∨
        y.seq.committed + (s.chan c.other).seq.committed ≤ s.supply.effective := by
      obtain hv | hv := hv h
      · exact .inl (by omega)
      · exact .inr (by unfold headroom at hv; omega)
    refine ⟨⟨?_, ?_, fun d => ?_⟩, ?_⟩
    · rw [hsum, setSupply_supply]
      unfold supplyAfter Supply.effective at *
      cases hp : s.supply.pending with
      | none => simp only [hp, Option.getD_none] at hbound ⊢; omega
      | some p =>
        simp only [hp, Option.getD_some] at hbound ⊢
        have hlt := hwaits p hp
        split
        · assumption
        · omega
    · rw [hsum, setSupply_supply]
      intro q hq
      unfold supplyAfter at hq
      cases hp : s.supply.pending with
      | none => simp [hp] at hq
      | some p =>
        simp only [hp] at hq
        split at hq
        · cases hq
        · rw [hp] at hq; cases hq; omega
    · obtain rfl | rfl := Chan.eq_or_other c d
      · rw [setSupply_chan, State.setChan_chan]; exact hy.queue.fresh (h.fresh d)
      · rw [setSupply_chan, State.setChan_other]; exact h.fresh _
    · rw [hsum]; exact hbound.elim (fun hb => hb.trans (le_max_left ..)) fun hb => hb.trans (le_max_right ..)

/-- One channel ages with its commitment as it is. -/
theorem Steady.setChan {s : State} {c : Chan} {y : Channel} (hy : Ages (s.chan c) y)
    (hv : y.seq.committed = (s.chan c).seq.committed) : Steady s (s.setChan c y) where
  ages d := by
    obtain rfl | rfl := Chan.eq_or_other c d
    · rw [State.setChan_chan]; exact hy
    · rw [State.setChan_other]; exact .refl _
  heads h := by rw [State.setChan_heads]; exact .refl _
  effective := by rw [State.setChan_supply]
  supply h := by
    have hsum : (s.setChan c y).committedSum = s.committedSum := by
      rw [committedSum_eq _ c, committedSum_eq _ c, State.setChan_chan, State.setChan_other, hv]
    refine ⟨⟨by rw [hsum, State.setChan_supply]; exact h.within, by rw [hsum, State.setChan_supply]; exact h.waits,
      fun d => ?_⟩, hsum.le.trans (le_max_left ..)⟩
    obtain rfl | rfl := Chan.eq_or_other c d
    · rw [State.setChan_chan]; exact hy.queue.fresh (h.fresh d)
    · rw [State.setChan_other]; exact h.fresh _

theorem Steady.modSeq (s : State) (c : Chan) (f : Sequencer → Sequencer)
    (hf : (f (s.chan c).seq).committed = (s.chan c).seq.committed)
    (ha : (f (s.chan c).seq).active = (s.chan c).seq.active ∨ (f (s.chan c).seq).active = .idle ∨
      (f (s.chan c).seq).active = .front) : Steady s (s.modSeq c f) := by
  rw [modSeq_eq]
  exact .setChan (.of_seq _ _ ha) hf

/-- A commitment, with a change of the Sequencer beside it that leaves the commitment alone. -/
theorem Steady.setCommit {s : State} {c : Chan} {v : Nat} 
    (hv : SupplyLaw s → v ≤ (s.chan c).seq.committed ∨ (v : Int) ≤ headroom c s) : Steady s (setCommit c v s) := by
  rw [setCommit_eq]
  exact .commit (y := { s.chan c with seq := { (s.chan c).seq with committed := v } }) (.of_seq _ _ (.inl rfl)) hv

theorem Steady.modFront {s : State} {c : Chan} {f : Burst → Burst} (hf : ∀ b, s.front c = some b → (f b).core = b.core)
    (hfresh : ∀ b, s.front c = some b → b.fresh → (f b).fresh) : Steady s (modFront c f s) := by
  rw [modFront_eq]
  exact .setChan (.of_queue (.modFirst hf hfresh) rfl rfl fun b hb => hb) rfl

theorem phaseEnded_committed (x : Channel) (n : Nat) : (x.phaseEnded n).seq.committed = x.seq.committed := by
  obtain ⟨a, ha, _⟩ := phaseEnded_seq x n
  rw [ha]

theorem tailed_committed (x : Channel) (n : Nat) : (x.tailed n).seq.committed = x.seq.committed := by
  unfold Channel.tailed
  split <;> exact phaseEnded_committed x n

theorem Steady.endPhase (c : Chan) (s : State) : Steady s (endPhase c s) := by
  rw [endPhase_eq]
  exact .setChan (.phaseEnded ..) (phaseEnded_committed ..)

theorem Steady.enterTail (c : Chan) (s : State) : Steady s (enterTail c s) := by
  rw [enterTail_eq]
  exact .setChan (.tailed ..) (tailed_committed ..)

theorem Steady.goDark (c : Chan) (s : State) : Steady s (goDark c s) := by
  rw [goDark_eq]
  have h := Steady.commit (s := s) (c := c) (y := { s.chan c with seq := (s.chan c).seq.dark })
    (.of_seq _ _ (.inr (.inl rfl))) fun _ => .inl (Nat.zero_le _)
  rwa [show ({ s.chan c with seq := (s.chan c).seq.dark } : Channel).seq.committed = 0 from rfl, Nat.zero_add] at h

theorem Steady.refreshFront (c : Chan) (s : State) : Steady s (refreshFront c s) := by
  rw [refreshFront_eq]
  exact .setChan (.of_queue (.asFront _) rfl rfl fun b hb => hb) rfl

theorem without_seq (x : Channel) (out : Burst → Bool) : (x.without out).seq = x.seq := by
  unfold Channel.without
  dsimp only
  split <;> rfl

theorem Steady.removeWhere (c : Chan) (out : Burst → Bool) (s : State) : Steady s (removeWhere c out s) := by
  rw [removeWhere_eq]
  exact .setChan (.without ..) (by rw [without_seq])

theorem Steady.detachFront (c : Chan) (s : State) : Steady s (detachFront c s) := by
  unfold Machine.detachFront
  split
  · exact .refl s
  · rename_i b hb
    rw [modSeq_eq]
    refine .setChan ⟨.refl _, rfl, rfl, fun d hd => .inl ⟨b, List.mem_of_mem_head? hb, ?_⟩⟩ rfl
    cases hd
    rfl

theorem Steady.completeFront (c : Chan) (v : Verdict) (s : State) : Steady s (completeFront c v s) := by
  cases hf : s.front c with
  | none => rw [completeFront_none v hf]; exact .refl s
  | some b =>
    rw [completeFront_eq v hf]
    dsimp only
    have h : Steady s (Machine.chargeBurst b (s.setChan c (s.chan c).advanced)) :=
      (Steady.setChan (.advanced _) rfl).trans (.chargeBurst ..)
    split
    · exact h.trans ((Steady.setHead _ _ _ (.afterCompletion ..)).trans (.placeNotice ..))
    · exact h.trans (Steady.setHead _ _ _ (.afterCompletion ..))

theorem Steady.completeBarred (c : Chan) (s : State) : Steady s (completeBarred c s) := by
  unfold Machine.completeBarred
  split
  · exact .refl s
  · split
    · split
      · exact .completeFront ..
      · exact .refl s
    all_goals exact .refl s

/-! ## Arming -/

theorem withSupply_core (b : Burst) (r : SupplyResult) : (b.withSupply r).core = b.core := by cases r <;> rfl

/-- A derated burst commits what fits the headroom (R40, R139). -/
theorem withSupply_fits {b : Burst} (hb : b.derate = none) (h : Int) (hr : ∀ f, supplyCheck b.plan h ≠ .starved f) :
    ((b.withSupply (supplyCheck b.plan h)).currents.boost : Int) ≤ h := by
  by_cases hclear : (b.plan.boost : Int) ≤ h
  · rw [supplyCheck_clear hclear]
    simpa [Burst.withSupply, Burst.currents, hb] using hclear
  · have hshort := supplyCheck_short (p := b.plan) (headroom := h) (by omega)
    rw [hshort] at hr ⊢
    split at hr
    · exact absurd rfl (hr _)
    · rename_i hlow
      rw [if_neg hlow]
      have hpos : 0 ≤ h := by
        by_contra hneg
        have hzero : derateFactor b.plan.boost h = 0 := if_neg (by omega)
        rw [hzero] at hlow
        simp [deratedCurrent] at hlow
      show ((deratedCurrent b.plan.boost (derateFactor b.plan.boost h) : Nat) : Int) ≤ h
      exact (derateFactor_bounds (by omega)).2 hpos

theorem Steady.barAtArming {c : Chan} {b d : Burst} {s : State} (hd : s.front c = some d) (hb : b.core = d.core)
    (r : Reason) : Steady s (barAtArming c b r s) := by
  unfold Machine.barAtArming
  refine (Steady.modFront (fun e he => ?_) fun _ _ _ => ?_).trans (.modSeq _ _ _ rfl (.inl rfl))
  · rw [hd] at he; cases he; exact hb
  · intro hs; cases hs

/-- A start commits the burst's boost current (R73, R139). -/
theorem startBurst_eq (c : Chan) (b : Burst) (l : LeadUsed) (s : State) : startBurst c b l s =
    (s.setChan c
      { s.chan c with
        queue := modFirst
          (fun _ => { b with state := .heating, leadUsed := some l, sampledArming := samples s.heads[b.head] l })
          (s.chan c).queue
        seq := { (s.chan c).seq with
          laser := .preheat, selected := some b.head, active := .front, committed := b.currents.boost, biasCurrent := 0
          biasCount := 0, light := lightAtStart (s.chan c) s.now l.ticks, phaseEnd := some (s.now + l.ticks)
          overrunAt := none, phaseStart := s.now, litSince := s.now } }).setSupply
      (supplyAfter s.supply (b.currents.boost + (s.chan c.other).seq.committed)) := by
  rw [startBurst, setCommit_eq]
  simp only [modFront_eq, modSeq_eq, setChan_setChan, State.setChan_chan, State.setChan_other, State.setChan_supply]

theorem Steady.startBurst {c : Chan} {b d : Burst} {l : LeadUsed} {s : State} (hd : s.front c = some d)
    (hb : b.core = d.core) (hv : SupplyLaw s → (b.currents.boost : Int) ≤ headroom c s) :
    Steady s (startBurst c b l s) := by
  rw [startBurst_eq]
  refine .commit ?_ fun h => .inr (hv h)
  refine .of_queue (.modFirst (fun e he => ?_) fun _ _ _ => ?_) rfl rfl fun e he => (nomatch he)
  · have hed : d = e := Option.some.inj (hd.symm.trans he)
    subst hed
    exact hb
  · intro hs; cases hs

/-- The front burst is QUEUED and carries no bar when its arming is due. -/
theorem armDue_front {c : Chan} {s : State} (h : armDue c s = true) :
    ∃ b g, s.front c = some b ∧ (s.chan c).gate = some g ∧ b.state = .queued ∧ b.decidedBar = none ∧
      (s.chan c).seq.laser.lit = false ∧ g.time - ((leadNow (s.chan c) b).ticks : Int) ≤ (s.now : Int) := by
  unfold armDue scheduledStart at h
  simp only [Bool.and_eq_true, Bool.not_eq_true'] at h
  obtain ⟨hlit, h⟩ := h
  split at h
  · rename_i b g hb hg
    split at h
    · rename_i hq
      exact ⟨b, g, hb, hg, hq.1, hq.2, hlit, by simpa using h⟩
    · cases h
  · cases h

/-- An arming of a front burst that is fresh (R72). -/
theorem Steady.arm {c : Chan} {s : State} (h : armDue c s = true) : Steady s (arm c s) := by
  obtain ⟨b, g, hb, -, hq, hbar, -, -⟩ := armDue_front h
  have hfits : (∀ f, supplyCheck b.plan (headroom c s) ≠ .starved f) → SupplyLaw s →
      ((b.withSupply (supplyCheck b.plan (headroom c s))).currents.boost : Int) ≤ headroom c s := fun hr hlaw =>
    withSupply_fits (hlaw.fresh c b (List.mem_of_mem_head? hb) hq hbar) _ hr
  have hcore := withSupply_core b (supplyCheck b.plan (headroom c s))
  unfold Machine.arm
  dsimp only
  rw [show (s.chan c).queue.head? = some b from hb]
  dsimp only
  split
  · exact .barAtArming hb rfl _
  · split
    · exact .barAtArming hb hcore _
    all_goals
      rename_i hr
      split
      · exact .startBurst hb hcore (hfits (by simp [hr]))
      · exact .barAtArming hb hcore _

/-! ## The end of a tail -/

theorem Steady.settleRest (c : Chan) (b : Burst) (s : State) : Steady s (settleRest c b s) := by
  unfold Machine.settleRest
  split
  · rename_i h
    refine (Steady.modSeq s c _ rfl (.inr (.inl rfl))).trans (.setCommit fun _ => .inr ?_)
    simpa [headroom] using h.2
  · exact .goDark ..

theorem Steady.endTailBurst (c : Chan) (s : State) : Steady s (endTailBurst c s) := by
  have h : Steady s (s.modSeq c fun q => { q with active := .idle }) := .modSeq _ _ _ rfl (.inr (.inl rfl))
  unfold Machine.endTailBurst
  dsimp only
  split
  · exact h
  · exact h.trans (.chargeBurst ..)
  · split
    · exact h
    · split
      · exact h.trans (.completeFront ..)
      · exact h.trans (.completeBarred ..)
      all_goals exact h

theorem Steady.endTail (c : Chan) (s : State) : Steady s (endTail c s) := by
  unfold Machine.endTail
  dsimp only
  split
  · exact (Steady.endPhase c s).trans (.goDark ..)
  · rename_i b _
    have h := (Steady.endPhase c s).trans ((Steady.endTailBurst c _).trans (Steady.settleRest c b _))
    split
    · rename_i hdue; exact h.trans (.arm hdue)
    · exact h

/-! ## The gate window -/

theorem Steady.modChan_gate (s : State) (c : Chan) (g : Option GateTime) :
    Steady s (s.modChan c fun x => { x with gate := g }) := by
  rw [modChan_eq]
  exact .setChan (.of_queue (.refl _) rfl rfl fun b hb => hb) rfl

/-- The front burst leaves QUEUED. -/
theorem Steady.modFront_state (c : Chan) (s : State) {k : BurstState} (hk : k ≠ .queued) :
    Steady s (Machine.modFront c (fun d => { d with state := k }) s) :=
  .modFront (fun _ _ => rfl) fun _ _ _ h => absurd h hk

theorem Steady.closeWindow (c : Chan) (s : State) : Steady s (closeWindow c s) := by
  have hmark : Steady s (markClosed c s) := Steady.modChan_gate s c _
  unfold Machine.closeWindow
  split
  · exact .refl s
  · split
    · exact (Steady.modFront_state c s (by simp)).trans (.enterTail ..)
    · exact (Steady.modFront_state c s (by simp)).trans (.enterTail ..)
    · split
      · exact hmark
      · exact hmark.trans <| Steady.trans (Steady.modFront (f := fun d => { d with barOver := true }) (fun _ _ => rfl)
          fun _ _ h => h) (.completeBarred ..)
    all_goals exact .refl s

theorem Steady.atOnceRounds (n : Nat) (c : Chan) (own : Option U16) (s : State) : Steady s (atOnceRounds n c own s) := by
  induction n generalizing s with
  | zero => exact .refl s
  | succ n ih =>
    unfold Machine.atOnceRounds
    split
    · exact (Steady.endTail c s).trans (ih _)
    · split
      · exact .refl s
      · exact (Steady.closeWindow c s).trans (ih _)

theorem Steady.runAtOnce (c : Chan) (own : Option U16) (s : State) : Steady s (runAtOnce c own s) := .atOnceRounds ..

theorem Steady.tailOver (c : Chan) (s : State) : Steady s (tailOver c s) := (Steady.endTail c s).trans (.runAtOnce ..)

theorem Steady.atOnce {c : Chan} {f : State → State} {s : State} (h : Steady s (f s)) : Steady s (atOnce c f s) :=
  h.trans (.runAtOnce ..)

theorem Steady.tailAtOnce (c : Chan) (s : State) : Steady s (tailAtOnce c s) := by
  unfold Machine.tailAtOnce
  split
  · exact .tailOver ..
  · exact .refl s

/-! ## The write gate -/

theorem Steady.acceptGate (c : Chan) (u : Bool) (s : State) : Steady s (acceptGate c u s) := by
  unfold Machine.acceptGate
  dsimp only
  split
  · rename_i b g hb _
    refine (Steady.endPhase c s).trans ((Steady.modFront (fun d hd => ?_) fun _ _ _ => ?_).trans (.modSeq _ _ _ rfl (.inl rfl)))
    · rw [hb] at hd; cases hd; rfl
    · intro h; cases h
  · exact .endPhase ..

theorem Steady.gateRise (c : Chan) (s : State) : Steady s (gateRise c s) := by
  have hunplanned : Steady s (unplannedGate c s) := .placeNotice ..
  unfold Machine.gateRise
  split
  · exact hunplanned
  · split
    · split
      · exact .acceptGate ..
      · split
        · exact .acceptGate ..
        · exact (Steady.modFront_state c s (by simp)).trans (.enterTail ..)
      · exact .modFront (fun _ _ => rfl) fun _ _ h => h
      all_goals exact hunplanned
    · exact hunplanned

theorem Steady.writtenTail (c : Chan) (s : State) : Steady s (writtenTail c s) :=
  (Steady.modFront_state c s (by simp)).trans (.enterTail ..)

/-- The condition of a hot chain (R83). -/
theorem chainable_second {t : Tracker} {now : Nat} {b1 b2 : Burst} (h : chainable t now b1 b2 = true) :
    b2.state = .queued ∧ b2.decidedBar = none ∧ b2.head = b1.head ∧
      ∃ g, expectedGate t b2 = some g ∧ g.time - (b2.plan.lead : Int) ≤ (now : Int) + (b1.plan.tailLen : Int) := by
  simp only [chainable, Bool.and_eq_true, beq_iff_eq, Option.any_eq_true_iff_get, decide_eq_true_eq, gateFrom_eq] at h
  obtain ⟨⟨⟨hq, hbar⟩, hhead⟩, hsome, hg⟩ := h
  exact ⟨hq, hbar, hhead, _, (Option.some_get hsome).symm, hg⟩

theorem enterDecidedBar_core (b : Burst) : b.enterDecidedBar.core = b.core := by
  unfold Burst.enterDecidedBar
  split <;> rfl

theorem enterDecidedBar_none {b : Burst} (h : b.decidedBar = none) : b.enterDecidedBar = b := by
  simp [Burst.enterDecidedBar, h]

theorem completeFront_second {c : Chan} (v : Verdict) {s : State} {b1 b2 : Burst} {rest : List Burst}
    (hq : (s.chan c).queue = b1 :: b2 :: rest) :
    ((completeFront c v s).chan c).queue = b2.enterDecidedBar :: rest := by
  rw [completeFront_chan, if_neg (by simp [hq])]
  simp [Channel.advanced, hq, asFront_eq, Machine.modFirst]

/-- A handover whose burst fits the headroom (R83, R139). -/
theorem Steady.handOver {c : Chan} {s : State} {b1 b2 : Burst} {rest : List Burst}
    (hq : (s.chan c).queue = b1 :: b2 :: rest) (hst : b2.state = .queued) (hbar : b2.decidedBar = none)
    (hr : ∀ f, supplyCheck b2.plan (headroom c s) ≠ .starved f) :
    Steady s (handOver c (b2.withSupply (supplyCheck b2.plan (headroom c s))) s) := by
  have hqueue := completeFront_second ⟨.written, .none⟩ hq
  rw [enterDecidedBar_none hbar] at hqueue
  have hsame : headroom c (Machine.completeFront c ⟨.written, .none⟩ s) = headroom c s := by simp [headroom]
  refine (Steady.completeFront c ⟨.written, .none⟩ s).trans ?_
  unfold Machine.handOver
  dsimp only
  rw [setCommit_eq]
  simp only [modFront_eq, modSeq_eq, setChan_setChan, State.setChan_chan, State.setChan_other, State.setChan_supply]
  refine .commit ?_ fun hlaw => .inr ?_
  · refine .of_queue (.modFirst (fun e he => ?_) fun _ _ _ => ?_) rfl rfl fun e he => (nomatch he)
    · rw [hqueue] at he
      cases he
      exact withSupply_core ..
    · intro hs; cases hs
  · rw [hsame]
    exact withSupply_fits (hlaw.fresh c b2 (by rw [hqueue]; exact List.mem_cons_self) hst hbar) _ hr

/-- A handover that fails decides a bar on the second burst (R84). -/
theorem Steady.failHandOver {c : Chan} {s : State} {b1 b2 d : Burst} {rest : List Burst}
    (hq : (s.chan c).queue = b1 :: b2 :: rest) (hd : d.core = b2.core) (hst : d.state = b2.state) (r : Reason) :
    Steady s (failHandOver c d r s) := by
  refine Steady.trans ?_ (.writtenTail ..)
  rw [modChan_eq]
  refine .setChan (.of_queue ⟨?_, fun h => ?_, fun h => ?_⟩ rfl rfl fun e he => he) rfl
  all_goals simp only [hq, List.take_succ_cons, List.take_zero, List.drop_succ_cons, List.drop_zero, List.singleton_append,
    List.tail_cons] at *
  · rw [List.map_cons, List.map_cons, List.map_cons, List.map_cons, ← hd]
    exact .refl _
  · simp only [List.forall_mem_cons] at h ⊢
    exact ⟨h.1, fun _ hnone => (nomatch hnone), h.2.2⟩
  · simp only [List.forall_mem_cons] at h ⊢
    exact ⟨hst.trans h.1, h.2⟩

theorem Steady.stopGate (c : Chan) (n : Nat) (s : State) : Steady s (Machine.modFront c (Burst.stopGate n) s) :=
  .modFront (fun _ _ => rfl) fun _ _ h => h

theorem withSupply_state (b : Burst) (r : SupplyResult) : (b.withSupply r).state = b.state := by cases r <;> rfl

theorem Steady.endWrite (c : Chan) (s : State) : Steady s (endWrite c s) := by
  have h : Steady s (Machine.modFront c (Burst.stopGate s.now) (Machine.endPhase c s)) :=
    (Steady.endPhase c s).trans (.stopGate ..)
  unfold Machine.endWrite
  dsimp only
  generalize Machine.modFront c (Burst.stopGate s.now) (Machine.endPhase c s) = s1 at h ⊢
  refine h.trans ?_
  split
  · rename_i b1 b2 rest hq
    split
    · rename_i hchain
      obtain ⟨hst, hbar, -, -⟩ := chainable_second hchain
      have hcore := withSupply_core b2 (supplyCheck b2.plan (headroom c s1))
      have hstate := withSupply_state b2 (supplyCheck b2.plan (headroom c s1))
      split
      · exact .failHandOver hq hcore hstate _
      all_goals
        rename_i hr
        split
        · exact .handOver hq hst hbar (by simp [hr])
        · exact .failHandOver hq hcore hstate _
    · exact .writtenTail ..
  · exact .writtenTail ..

theorem Steady.gateFall (c : Chan) (s : State) : Steady s (gateFall c s) := by
  unfold Machine.gateFall
  split
  · exact .atOnce (.endWrite ..)
  · split
    · exact .refl s
    · split
      · exact .atOnce <| Steady.trans (Steady.modFront (f := fun d => { d with gateVetoed := false, barOver := true })
          (fun _ _ => rfl) fun _ _ h => h) (.completeBarred ..)
      · exact .refl s

/-! ## Bars, aborts, flushes and faults -/

theorem Steady.barLit (c : Chan) (r : Reason) (s : State) : Steady s (barLit c r s) :=
  (Steady.modFront_state c s (by simp)).trans (.enterTail ..)

theorem Steady.abortWrite (c : Chan) (r : Reason) (n : Nat) (s : State) : Steady s (abortWrite c r n s) :=
  Steady.trans (Steady.modFront (f := fun b => { b.stopGate n with state := .cooling ⟨.aborted, r⟩ }) (fun _ _ => rfl)
    fun _ _ _ h => by cases h) (.enterTail ..)

theorem Steady.strikeLaser (c : Chan) (r : Reason) (s : State) : Steady s (strikeLaser c r s) := by
  unfold Machine.strikeLaser
  split
  · exact .barLit ..
  · exact .barLit ..
  · exact .abortWrite ..
  · exact .abortWrite ..
  all_goals exact .refl s

theorem Steady.chargeDetached (c : Chan) (s : State) : Steady s (chargeDetached c s) := by
  unfold Machine.chargeDetached
  split
  · exact .chargeBurst ..
  all_goals exact .refl s

theorem Steady.chargeFront (c : Chan) (s : State) : Steady s (chargeFront c s) := by
  unfold Machine.chargeFront
  split
  · exact .chargeBurst ..
  · exact .refl s

theorem Steady.emptyQueue (c : Chan) (s : State) : Steady s (emptyQueue c s) := by
  rw [Machine.emptyQueue, modChan_eq]
  exact .setChan (.of_queue (.nil _) rfl rfl fun _ hb => hb) rfl

theorem Steady.keepSpan (c : Chan) (s : State) : Steady s (keepSpan c s) := .modSeq _ _ _ rfl (.inl rfl)

theorem Steady.dropSpan (c : Chan) (s : State) : Steady s (dropSpan c s) := .modSeq _ _ _ rfl (.inl rfl)

theorem Steady.flushAll (c : Chan) (s : State) : Steady s (flushAll c s).1 :=
  (Steady.keepSpan c s).trans <| (Steady.endPhase c _).trans <| (Steady.chargeDetached c _).trans <|
    (Steady.chargeFront c _).trans <| (Steady.emptyQueue c _).trans (.goDark ..)

theorem Steady.releaseFront (c : Chan) (s : State) : Steady s (releaseFront c s) := by
  unfold Machine.releaseFront
  split
  · exact .detachFront ..
  · exact .refl s

theorem Steady.chargeEnded (c : Chan) (s : State) : Steady s (chargeEnded c s) := by
  unfold Machine.chargeEnded
  split
  · exact .refl s
  · exact .chargeFront ..

theorem Steady.flushHead (h : Fin 24) (s : State) : Steady s (flushHead h s).1 := by
  unfold Machine.flushHead
  dsimp only
  refine Steady.trans ?_ (.removeWhere ..)
  split
  · exact .releaseFront ..
  · exact .refl s

theorem Steady.endBiasOn (c : Chan) (h : Fin 24) (s : State) : Steady s (endBiasOn c h s) := by
  unfold Machine.endBiasOn
  dsimp only
  split
  · exact .goDark ..
  · exact .refl s

theorem Steady.chargeFlushed (h : Fin 24) (s : State) : Steady s (chargeFlushed h s) := by
  unfold Machine.chargeFlushed
  dsimp only
  split
  · exact .chargeEnded ..
  · exact .refl s

theorem Steady.enterFault (h : Fin 24) (k : FaultCause) (s : State) : Steady s (enterFault h k s) := by
  unfold Machine.enterFault
  dsimp only
  split
  · exact (Steady.setHead s h _ (.state _ _)).trans <| (Steady.chargeFlushed h _).trans <|
      (Steady.flushHead h _).trans <| (Steady.endBiasOn ..).trans (.placeNotice ..)
  · exact .refl s

theorem Steady.addStrike (h : Fin 24) (s : State) : Steady s (addStrike h s) := by
  have hstrike := Steady.setHead s h _ (.strikes s.heads[h] (min_le_right (s.heads[h].strikes + 1) 7))
  unfold Machine.addStrike
  dsimp only
  split
  · exact hstrike.trans (.enterFault ..)
  · exact hstrike

theorem Steady.lightAbsent (c : Chan) (s : State) : Steady s (lightAbsent c s) := by
  unfold Machine.lightAbsent
  dsimp only
  split
  · exact (Steady.endPhase c s).trans (.goDark ..)
  · refine (Steady.endPhase c s).trans <| (Steady.goDark c _).trans <| Steady.trans ?_ (.enterFault ..)
    split
    · exact .refl _
    · exact .chargeBurst ..
    · split
      · exact .completeFront ..
      · exact .completeFront ..
      · exact (Steady.stopGate c _ _).trans (.completeFront ..)
      · exact .completeFront ..
      all_goals exact .refl _

theorem Steady.darkenHeadOn (h : Fin 24) (c : Chan) (s : State) : Steady s (darkenHeadOn h c s) := by
  unfold Machine.darkenHeadOn
  split
  · exact (Steady.endPhase c s).trans <| (Steady.chargeDetached c _).trans (.goDark ..)
  · exact .refl s

theorem Steady.darkenHead (h : Fin 24) (s : State) : Steady s (darkenHead h s) :=
  (Steady.darkenHeadOn h .c0 s).trans (.darkenHeadOn ..)

/-! ## Light -/

theorem Steady.seeLight (c : Chan) (n : Nat) (s : State) : Steady s (seeLight c n s) := by
  have hseen : Steady s (s.modSeq c fun p => { p with light := .seen }) := .modSeq _ _ _ rfl (.inl rfl)
  have hcore : ∀ b : Burst, ∀ v, (if b.sampledArming then { b with latency := v } else b).core = b.core := by
    intro b v; split <;> rfl
  unfold Machine.seeLight
  dsimp only
  split
  · refine hseen.trans ?_
    unfold modActive
    split
    · exact .refl _
    · refine .modFront (fun b _ => hcore b _) fun b _ hb => ?_
      split
      · exact hb
      · exact hb
    · rename_i b hb
      rw [modSeq_eq]
      refine .setChan ⟨.refl _, rfl, rfl, fun d hd => .inr ⟨b, hb, ?_⟩⟩ rfl
      cases hd
      exact (congrArg (fun p => p.2.1) (hcore b _)).symm
  · exact hseen

theorem Steady.dropout (c : Chan) (s : State) : Steady s (dropout c s) := by
  unfold Machine.dropout
  dsimp only
  split
  · exact .strikeLaser ..
  · exact (Steady.strikeLaser c _ s).trans (.addStrike ..)

theorem Steady.owedDropout (c : Chan) (n : Nat) (s : State) : Steady s (owedDropout c n s) := by
  unfold Machine.owedDropout
  split
  · exact .refl s
  · dsimp only
    split
    · exact (Steady.dropSpan c s).trans (.addStrike ..)
    · exact .dropSpan ..

theorem Steady.lightRecognised (c : Chan) (n : Nat) (s : State) : Steady s (lightRecognised c n s) := by
  unfold Machine.lightRecognised
  split
  · exact .seeLight ..
  all_goals exact .refl s

theorem Steady.lightLost (c : Chan) (n : Nat) (s : State) : Steady s (lightLost c n s) := by
  unfold Machine.lightLost
  split
  · exact .atOnce (.dropout ..)
  · exact .owedDropout ..

theorem Steady.owedAbsent (c : Chan) (s : State) : Steady s (owedAbsent c s) := by
  unfold Machine.owedAbsent
  split
  · exact .refl s
  · exact .atOnce ((Steady.dropSpan c s).trans (.enterFault ..))

/-! ## The ends of phases, anchors and the requests -/

theorem Steady.endPreheat (c : Chan) (s : State) : Steady s (endPreheat c s) :=
  (Steady.endPhase c s).trans ((Steady.modFront_state c _ (by simp)).trans (.modSeq _ _ _ rfl (.inl rfl)))

theorem Steady.endBoost (c : Chan) (s : State) : Steady s (endBoost c s) :=
  (Steady.endPhase c s).trans (.modSeq _ _ _ rfl (.inl rfl))

theorem Steady.anchorEvent (c : Chan) (a : Anchor) (s : State) : Steady s (anchorEvent c a s) := by
  have hcount : ∀ s : State, Steady s (if (s.chan c).seq.laser = .bias ∧ (s.chan c).config.biasHold ≠ 0 then
      s.modSeq c fun q => { q with biasCount := min (q.biasCount + 1) Config.max16 } else s) := by
    intro s
    split
    · exact .modSeq _ _ _ rfl (.inl rfl)
    · exact .refl s
  have h := (Steady.modChan_gate s c (regate (s.chan c) a)).trans (hcount _)
  unfold Machine.anchorEvent
  dsimp only
  split
  · exact h.trans (.runAtOnce ..)
  · exact h

theorem Steady.cancelFront (c : Chan) (s : State) : Steady s (cancelFront c s) := by
  unfold Machine.cancelFront
  split
  · exact .refl s
  · split
    · exact (Steady.enterTail c s).trans (.detachFront ..)
    · exact (Steady.enterTail c s).trans (.detachFront ..)
    · exact (Steady.chargeEnded c s).trans (.releaseFront ..)
    all_goals exact .refl s

theorem Steady.cancelOn (c : Chan) (sel : Burst → Bool) (s : State) : Steady s (cancelOn c sel s).1 := by
  unfold Machine.cancelOn
  dsimp only
  split
  · exact .atOnce ((Steady.cancelFront c s).trans (.removeWhere ..))
  · exact .removeWhere ..

theorem Steady.park (b : Byte) (s : State) : Steady s (servePark (.fits b) s).1 := by
  simp only [servePark, withHeadState]
  split
  · exact .refl s
  · rename_i h _
    split
    · have hact : Steady s (Machine.endBiasOn s.heads[h].channel h
          (Machine.flushHead h (s.setHead h { s.heads[h] with state := .parked })).1) :=
        (Steady.setHead s h _ (.state _ _)).trans ((Steady.flushHead h _).trans (.endBiasOn ..))
      dsimp only
      split
      · exact .atOnce hact
      · exact hact
    · exact .refl s

/-- What an event of a channel keeps. -/
theorem ChanEvent.steady {c : Chan} {s t : State} (h : ChanEvent c s t) : Steady s t := by
  cases h with
  | guard s => exact (Steady.strikeLaser c _ s).trans (.tailAtOnce ..)
  | light n s => exact .lightRecognised ..
  | lightLost n s => exact .lightLost ..
  | gateRise s => exact (Steady.gateRise c s).trans (.tailAtOnce ..)
  | gateFall s => exact .gateFall ..
  | arming s due => exact .atOnce (.arm due)
  | preheatEnd s due => exact .endPreheat ..
  | windowClose s due => exact .atOnce (.closeWindow ..)
  | boostEnd s due => exact .endBoost ..
  | overrun n s due => exact .atOnce (.abortWrite ..)
  | tailEnd s due => exact .tailOver ..
  | lightAbsent s due => exact .atOnce (.lightAbsent ..)
  | owedAbsent s => exact .owedAbsent ..
  | biasHold s due => exact .goDark ..
  | cancel sel s blind => exact .cancelOn ..
  | park b s => exact .park ..
  | anchor a s => exact .anchorEvent ..

end Sys2Proof.Machine
end

section
/-! PROOFS. Admission: where a new burst stands in a spaced queue, and what an admission leaves (R5, R15, R17, R19). -/

namespace Sys2Proof.Machine

/-! ## Spaced queues -/

/-- `a` ends the spacing before `b` begins (R5). -/
def Clears (smin : Nat) (a b : Burst) : Prop := a.position < b.position ∧ a.position + a.length + smin ≤ b.position

theorem spaced_iff {smin : Nat} {q : List Burst} : Spaced smin q ↔ q.Pairwise (Clears smin) := by
  have htrans : IsTrans Burst (Clears smin) :=
    ⟨fun a b c ⟨hab, hab'⟩ ⟨hbc, hbc'⟩ => ⟨by omega, by omega⟩⟩
  rw [← List.isChain_iff_pairwise (R := Clears smin)]
  constructor
  · rintro ⟨hp, hc⟩
    induction q with
    | nil => exact .nil
    | cons b q ih =>
      obtain ⟨hb, hp⟩ := List.pairwise_cons.1 hp
      obtain ⟨hnext, hc⟩ := List.isChain_cons.1 hc
      exact (ih hp hc).cons fun d hd => ⟨hb d (List.mem_of_mem_head? hd), hnext d hd⟩
  · intro h
    exact ⟨(List.isChain_iff_pairwise.1 h).imp fun h => h.1, h.imp fun _ _ h => h.2⟩

/-- The bursts of a queue below a position, and those at it or above (R19). -/
def below (q : List Burst) (p : Nat) : List Burst := q.filter fun d => d.position < p
def above (q : List Burst) (p : Nat) : List Burst := q.filter fun d => p ≤ d.position

theorem mem_below {q : List Burst} {p : Nat} {b : Burst} : b ∈ below q p ↔ b ∈ q ∧ b.position < p := by simp [below]
theorem mem_above {q : List Burst} {p : Nat} {b : Burst} : b ∈ above q p ↔ b ∈ q ∧ p ≤ b.position := by simp [above]

/-- An ascending queue is its bursts below a position, and then the others. -/
theorem below_append_above {smin : Nat} {q : List Burst} (h : q.Pairwise (Clears smin)) (p : Nat) :
    below q p ++ above q p = q := by
  induction q with
  | nil => rfl
  | cons b q ih =>
    obtain ⟨hb, hq⟩ := List.pairwise_cons.1 h
    by_cases hlow : b.position < p
    · rw [below, above, List.filter_cons_of_pos (by simpa using hlow), List.filter_cons_of_neg (by simpa using hlow)]
      exact congrArg (b :: ·) (ih hq)
    · have hnone : below (b :: q) p = [] := by
        refine List.filter_eq_nil_iff.2 fun d hd => ?_
        obtain rfl | hd := List.mem_cons.1 hd
        · simpa using hlow
        · have := (hb d hd).1
          simp only [decide_eq_true_eq]
          omega
      have hall : above (b :: q) p = b :: q := by
        refine List.filter_eq_self.2 fun d hd => ?_
        obtain rfl | hd := List.mem_cons.1 hd
        · simpa using hlow
        · have := (hb d hd).1
          simp only [decide_eq_true_eq]
          omega
      rw [hnone, hall, List.nil_append]

/-- The spacing check of R17, against the neighbours alone, finds every conflict. -/
theorem overlaps_iff {q : List Burst} {smin p n : Nat} (h : Spaced smin q) :
    overlaps q smin p n = true ↔
      (∃ b ∈ q, conflicts smin p n b) ∨ ∃ b ∈ q.head?, p < b.position ∧ b.state ≠ .queued := by
  rw [spaced_iff] at h
  have hlower : ((below q p).getLast?.any fun b => p < b.position + b.length + smin) = true ↔
      ∃ b ∈ q, b.position < p ∧ p < b.position + b.length + smin := by
    rw [Option.any_eq_true]
    constructor
    · rintro ⟨b, hb, hlt⟩
      obtain ⟨hmem, hpos⟩ := mem_below.1 (List.mem_of_getLast? hb)
      exact ⟨b, hmem, hpos, by simpa using hlt⟩
    · rintro ⟨b, hmem, hpos, hlt⟩
      have hb : b ∈ below q p := mem_below.2 ⟨hmem, hpos⟩
      obtain ⟨l, u, hlu⟩ := List.eq_nil_or_concat (below q p) |>.resolve_left (List.ne_nil_of_mem hb)
      have hpw : (l ++ [u]).Pairwise (Clears smin) := by
        rw [← List.concat_eq_append, ← hlu]; exact h.filter _
      rw [List.concat_eq_append] at hlu
      rw [hlu] at hb ⊢
      obtain hb | hb := List.mem_append.1 hb
      · have hu : u.position < p := (mem_below.1 (by rw [hlu]; simp)).2
        have := ((List.pairwise_append.1 hpw).2.2 b hb u (by simp)).2
        omega
      · exact ⟨u, by simp, by simpa [List.mem_singleton.1 hb] using hlt⟩
  have hupper : ((above q p).head?.any fun b => b.position < p + n + smin) = true ↔
      ∃ b ∈ q, p ≤ b.position ∧ b.position < p + n + smin := by
    rw [Option.any_eq_true]
    constructor
    · rintro ⟨b, hb, hlt⟩
      obtain ⟨hmem, hpos⟩ := mem_above.1 (List.mem_of_mem_head? hb)
      exact ⟨b, hmem, hpos, by simpa using hlt⟩
    · rintro ⟨b, hmem, hpos, hlt⟩
      have hb : b ∈ above q p := mem_above.2 ⟨hmem, hpos⟩
      have hpw : (above q p).Pairwise (Clears smin) := h.filter _
      cases habove : above q p with
      | nil => rw [habove] at hb; cases hb
      | cons u l =>
        rw [habove] at hb hpw
        refine ⟨u, rfl, ?_⟩
        obtain rfl | hb := List.mem_cons.1 hb
        · simpa using hlt
        · have := ((List.pairwise_cons.1 hpw).1 b hb).1
          simp only [decide_eq_true_eq]
          omega
  have hfront : (q.head?.any fun b => decide (p < b.position) && b.state != .queued) = true ↔
      ∃ b ∈ q.head?, p < b.position ∧ b.state ≠ .queued := by
    rw [Option.any_eq_true]
    simp
  unfold overlaps
  simp only [Bool.or_eq_true]
  rw [hfront, show (List.filter (fun b => decide (b.position < p)) q) = below q p from rfl,
    show (List.filter (fun b => decide (p ≤ b.position)) q) = above q p from rfl, hlower, hupper]
  simp only [conflicts, and_or_left, exists_or]

/-- A queue with a new burst at its place (R5). -/
def inserted (b : Burst) (q : List Burst) : List Burst := below q b.position ++ b :: above q b.position

/-- A burst that conflicts with none keeps the queue spaced. -/
theorem spaced_inserted {q : List Burst} {smin : Nat} {b : Burst} (h : Spaced smin q) (hlen : 0 < b.length)
    (hfree : ∀ d ∈ q, ¬ conflicts smin b.position b.length d) : Spaced smin (inserted b q) := by
  rw [spaced_iff] at h ⊢
  refine List.pairwise_append.2 ⟨h.filter _, List.pairwise_cons.2 ⟨fun u hu => ?_, h.filter _⟩, fun d hd u hu => ?_⟩
  · obtain ⟨hu, hpos⟩ := mem_above.1 hu
    have := hfree u hu
    unfold conflicts at this
    exact ⟨by omega, by omega⟩
  · obtain ⟨hd, hpos⟩ := mem_below.1 hd
    have hno := hfree d hd
    unfold conflicts at hno
    obtain rfl | hu := List.mem_cons.1 hu
    · exact ⟨hpos, by omega⟩
    · have := (mem_above.1 hu).2
      exact ⟨by omega, by omega⟩

theorem perm_inserted (b : Burst) (q : List Burst) : (inserted b q).Perm (b :: q) := by
  have hsplit : (below q b.position ++ above q b.position).Perm q := by
    have h := List.filter_append_perm (fun d => decide (d.position < b.position)) q
    simpa only [below, above, ← decide_not, not_lt] using h
  exact List.perm_middle.trans (hsplit.cons b)

theorem mem_inserted {b d : Burst} {q : List Burst} : d ∈ inserted b q → d = b ∨ d ∈ q := by
  unfold inserted
  simp only [List.mem_append, List.mem_cons, mem_below, mem_above]
  tauto

/-! ## The admission -/

/-- A channel with a new burst in its queue; the expected gate time is formed when the burst is the front one (R19, R69). -/
def Channel.admitted (x : Channel) (b : Burst) : Channel :=
  { x with
    queue := inserted b x.queue
    gate := if below x.queue b.position = [] then expectedGate x.tracker b else x.gate }

/-- The record of an admitted burst carries its capture mark (R128). -/
def Burst.marked (b : Burst) (m : Option CaptureMark) : Burst := { b with plan := { b.plan with capture := m } }

theorem insertBurst_eq (c : Chan) {b : Burst} (hbar : b.decidedBar = none) (s : State) :
    insertBurst c b s = s.setChan c ((s.chan c).admitted b) := by
  unfold insertBurst Channel.admitted
  dsimp only
  change (if (below (s.chan c).queue b.position).isEmpty = true then _ else _) = _
  by_cases hempty : below (s.chan c).queue b.position = []
  · rw [if_pos (by simp [hempty]), if_pos hempty, refreshFront_eq, modChan_eq, setChan_setChan, State.setChan_chan]
    have hqueue : List.filter (fun d => decide (d.position < b.position)) (s.chan c).queue = [] := hempty
    simp only [hqueue, List.nil_append, asFront_eq, modFirst, inserted, hempty, enterDecidedBar_none hbar,
      List.head?_cons, Option.bind_some]
    rfl
  · rw [if_neg (by simpa using hempty), if_neg hempty]
    rfl

/-- What an admission leaves of the channels, the heads and the arbiter (R19). -/
theorem admitBurst_chan {b : Burst} (hbar : b.decidedBar = none) (k : Classified) (s : State) (c : Chan) :
    (admitBurst b k s).chan c =
      (s.setChan b.channel ((s.chan b.channel).admitted (b.marked (captureMarkOf s k)))).chan c := by
  have hinsert := insertBurst_eq b.channel (b := b.marked (captureMarkOf s k)) hbar s
  unfold admitBurst
  dsimp only
  rw [← hinsert]
  split
  · cases c <;> rfl
  · rw [placeNotice_chan]
    cases c <;> rfl

theorem admitBurst_rest {b : Burst} (hbar : b.decidedBar = none) (k : Classified) (s : State) :
    (admitBurst b k s).heads = s.heads ∧ (admitBurst b k s).supply = s.supply ∧ (admitBurst b k s).safety = s.safety ∧
      (admitBurst b k s).safe = s.safe := by
  have hinsert := insertBurst_eq b.channel (b := b.marked (captureMarkOf s k)) hbar s
  have hrest : ∀ x : Channel, (s.setChan b.channel x).heads = s.heads ∧ (s.setChan b.channel x).supply = s.supply ∧
      (s.setChan b.channel x).safety = s.safety ∧ (s.setChan b.channel x).safe = s.safe := by
    intro x; cases b.channel <;> exact ⟨rfl, rfl, rfl, rfl⟩
  unfold admitBurst
  dsimp only
  rw [show ({ b with plan := { b.plan with capture := captureMarkOf s k } } : Burst) =
    b.marked (captureMarkOf s k) from rfl, hinsert]
  split
  · exact hrest _
  · exact hrest _

/-- The channel of an entry is that of its head's record, and its length is at least 16 ticks (R16, R98). -/
theorem checkFields_home {e : PlanEntry} {s : State} {j : Judged} (h : checkFields e s = some j) :
    j.channel = s.heads[j.head].channel ∧ 16 ≤ j.length := by
  unfold checkFields at h
  split at h
  · dsimp only at h
    split at h
    · rename_i hfit
      cases h
      exact ⟨rfl, hfit.2.1⟩
    · cases h
  · cases h

/-- The new burst conflicts with no held one, and does not come before a front burst that has left QUEUED (R17). -/
theorem Admits.conflicts {s : State} {e : PlanEntry} {j : Judged} {a : Anchor} (h : Admits s e j a)
    (hq : Spaced (s.chan j.channel).config.spacing (s.chan j.channel).queue) (p : Plan) :
    (∀ d ∈ (s.chan j.channel).queue,
      ¬ Machine.conflicts (s.chan j.channel).config.spacing (entryBurst s e j a p).position
        (entryBurst s e j a p).length d) ∧
    ∀ d ∈ (s.chan j.channel).queue.head?, (entryBurst s e j a p).position < d.position → d.state = .queued := by
  have hfree := h.free
  rw [← Bool.not_eq_true, overlaps_iff hq] at hfree
  push Not at hfree
  exact hfree

end Sys2Proof.Machine
end

section
/-! PROOFS. The flush of a whole queue (R22, R23, R92) as one replacement of the channel, and the parts of a command that keep
less than `Steady` says (`Rare`). -/

namespace Sys2Proof.Machine

/-! ## Charges of a burst that may be there -/

/-- A burst, if there is one, is charged. -/
def chargeSome : Option Burst → State → State
  | some b, s => chargeBurst b s
  | none, s => s

theorem chargeSome_frame (b : Option Burst) (s : State) :
    chargeSome b s = { s with heads := (chargeSome b s).heads, link := (chargeSome b s).link } := by
  cases b with
  | none => rfl
  | some b => exact charge_frame ..

@[simp] theorem chargeSome_chan (b : Option Burst) (s : State) (c : Chan) : (chargeSome b s).chan c = s.chan c := by
  rw [chargeSome_frame]; cases c <;> rfl
@[simp] theorem chargeSome_supply (b : Option Burst) (s : State) : (chargeSome b s).supply = s.supply := by
  rw [chargeSome_frame]
@[simp] theorem chargeSome_now (b : Option Burst) (s : State) : (chargeSome b s).now = s.now := by rw [chargeSome_frame]
@[simp] theorem chargeSome_safe (b : Option Burst) (s : State) : (chargeSome b s).safe = s.safe := by
  rw [chargeSome_frame]
@[simp] theorem chargeSome_safety (b : Option Burst) (s : State) : (chargeSome b s).safety = s.safety := by
  rw [chargeSome_frame]

theorem chargeSome_setChan (b : Option Burst) (s : State) (c : Chan) (x : Channel) :
    chargeSome b (s.setChan c x) = (chargeSome b s).setChan c x := by
  cases b with
  | none => rfl
  | some b => exact chargeBurst_setChan ..

theorem chargeSome_setSupply (b : Option Burst) (s : State) (u : Supply) :
    chargeSome b (s.setSupply u) = (chargeSome b s).setSupply u := by
  cases b with
  | none => rfl
  | some b => exact charge_setSupply ..

/-- The burst whose detached tail the Sequencer runs (R93). -/
def Sequencer.tailBurst (q : Sequencer) : Option Burst :=
  match q.active with
  | .detached b => some b
  | .idle | .front => none

theorem tailBurst_eq_some {q : Sequencer} {b : Burst} : q.tailBurst = some b ↔ q.active = .detached b := by
  unfold Sequencer.tailBurst
  split <;> simp_all

theorem chargeDetached_eq (c : Chan) (s : State) : chargeDetached c s = chargeSome (s.chan c).seq.tailBurst s := by
  unfold chargeDetached Sequencer.tailBurst
  cases (s.chan c).seq.active <;> rfl

theorem chargeFront_eq (c : Chan) (s : State) : chargeFront c s = chargeSome (s.front c) s := by
  unfold chargeFront
  split
  · rename_i b hb; rw [hb]; rfl
  · rename_i hb; rw [hb]; rfl

/-! ## Flushes of a whole queue -/

/-- A channel whose queue is flushed and whose laser is darkened at `now` (R22, R92). -/
def Channel.flushed (x : Channel) (now : Nat) : Channel :=
  { x with
    queue := []
    gate := none
    seq := { x.seq with phaseStart := now, darkened := (darkenedSpan x.seq now).or x.seq.darkened }.dark }

/-- The flush of the channel `x`, whose running phase has ended, charges a detached tail and the front burst (R23, R146). -/
def flushCharges (x : Channel) (s : State) : State := chargeSome x.queue.head? (chargeSome x.seq.tailBurst s)

/-- A Sequencer's record of darkened spans plays no part in the end of its phase. -/
theorem phaseEnded_darkened (x : Channel) (k : Option DarkenedSpan) (n : Nat) :
    Channel.phaseEnded { x with seq := { x.seq with darkened := k } } n =
      { x.phaseEnded n with seq := { (x.phaseEnded n).seq with darkened := k } } := by
  unfold Channel.phaseEnded
  cases ha : x.seq.active <;> simp only [ha] <;> rfl

/-- A flush charges what was lit and replaces the channel by its flushed one. -/
theorem flushAll_eq (c : Chan) (s : State) :
    (flushAll c s).1 =
      ((flushCharges ((s.chan c).phaseEnded s.now) s).setChan c ((s.chan c).flushed s.now)).setSupply
        (supplyAfter s.supply (s.chan c.other).seq.committed) := by
  have hend : endPhase c (keepSpan c s) = s.setChan c
      { (s.chan c).phaseEnded s.now with
        seq := { ((s.chan c).phaseEnded s.now).seq with
          darkened := (darkenedSpan (s.chan c).seq s.now).or (s.chan c).seq.darkened } } := by
    rw [keepSpan, endPhase_eq, modSeq_eq, setChan_setChan, State.setChan_chan, State.setChan_now, phaseEnded_darkened]
  obtain ⟨a, hseq, -⟩ := phaseEnded_seq (s.chan c) s.now
  have hdark : ({ ((s.chan c).phaseEnded s.now).seq with
      darkened := (darkenedSpan (s.chan c).seq s.now).or (s.chan c).seq.darkened } : Sequencer).dark =
      ((s.chan c).flushed s.now).seq := by rw [hseq]; rfl
  rw [flushAll, hend]
  rw [chargeDetached_eq, chargeSome_setChan, chargeFront_eq]
  simp only [State.front, State.setChan_chan, chargeSome_setChan, emptyQueue, modChan_eq, goDark_eq, setChan_setChan,
    State.setChan_other, State.setChan_supply, chargeSome_supply, chargeSome_chan, hdark]
  have hparts : (s.chan c).flushed s.now =
      { (s.chan c).phaseEnded s.now with queue := [], gate := none, seq := ((s.chan c).flushed s.now).seq } := by
    unfold Channel.phaseEnded Channel.flushed
    split <;> rfl
  rw [hparts]
  rfl

@[simp] theorem flushAll_chan (c : Chan) (s : State) : ((flushAll c s).1).chan c = (s.chan c).flushed s.now := by
  rw [flushAll_eq, setSupply_chan, State.setChan_chan]
@[simp] theorem flushAll_other (c : Chan) (s : State) : ((flushAll c s).1).chan c.other = s.chan c.other := by
  rw [flushAll_eq, setSupply_chan, State.setChan_other, flushCharges, chargeSome_chan, chargeSome_chan]
@[simp] theorem flushAll_supply (c : Chan) (s : State) :
    ((flushAll c s).1).supply = supplyAfter s.supply (s.chan c.other).seq.committed := by
  rw [flushAll_eq, setSupply_supply]
@[simp] theorem flushAll_now (c : Chan) (s : State) : ((flushAll c s).1).now = s.now := (Calm.flushAll c s).tables.now
@[simp] theorem flushAll_count (c : Chan) (s : State) : (flushAll c s).2 = (s.chan c).queue.length := rfl

/-- A flush empties the queue of its channel and leaves the other one. -/
theorem flushAll_queue (c d : Chan) (s : State) (h : d = c ∨ (s.chan d).queue = []) :
    (((flushAll c s).1).chan d).queue = [] := by
  obtain rfl | rfl := Chan.eq_or_other c d
  · rw [flushAll_chan]; rfl
  · rw [flushAll_other]
    exact h.resolve_left (by cases c <;> decide)

/-! ## The parts that keep less -/

/-- The parts of a command that move a tracker or a configuration, apply a limit, write a head's channel, take a burst in or reset
the part. -/
inductive Rare (gr : Grants) : State → State → Prop
  | tracker (c : Chan) (t : Tracker) (s : State) (old : (s.chan c).tracker.state ≠ .off) (new : t.state ≠ .off)
      (synced : (s.chan c).tracker.synced = true → t.synced = true) : Rare gr s (setTracker c t s)
  | lost (c : Chan) (k : SyncCause) (t : Tracker) (s : State) (old : (s.chan c).tracker.synced = true)
      (new : t.state = .acquiring) : Rare gr s (loseReference c k t s)
  | config (c : Chan) (g : ChanConfig) (s : State) (off : (s.chan c).online = false) :
      Rare gr s (s.modChan c fun x => { x with config := g })
  | online (c : Chan) (s : State) (off : (s.chan c).online = false) : Rare gr s (bringOnline c s)
  | offline (c : Chan) (s : State) (on : (s.chan c).online = true) : Rare gr s (takeOffline c s)
  | limit (v : Nat) (s : State) (granted : gr.limit) : Rare gr s (applyLimit v s)
  | headSet (h : Fin 24) (f : HeadSetFields) (c : Chan) (s : State) (free : s.headBusy h = false) :
      Rare gr s (darkenHead h (s.setHead h (s.heads[h].set f c)))
  | judged (e : PlanEntry) (s : State) : Rare gr s (judgeEntry e s).1
  | cold (s : State) (granted : gr.reset) : Rare gr s (coldState s)
  | run (s : State) (granted : gr.reset) : Rare gr s (runState s)

theorem SameCore.steady {s t : State} (h : SameCore s t) : Steady s t where
  ages d := by
    obtain ⟨hconfig, htracker, hqueue, -, v, l, hseq⟩ := h.seats d
    refine ⟨by rw [hqueue]; exact .refl _, htracker, hconfig, fun b hb => .inr ⟨b, ?_, rfl⟩⟩
    rwa [hseq] at hb
  heads k := by rw [h.heads]; exact .refl _
  effective := by rw [h.supply]
  supply hlaw := by
    have hcommit : ∀ d, (t.chan d).seq.committed = (s.chan d).seq.committed := fun d => by
      obtain ⟨v, l, hseq⟩ := (h.seats d).seq
      rw [hseq]
    have hsum : t.committedSum = s.committedSum := by
      rw [committedSum_eq _ .c0, committedSum_eq _ .c0, hcommit, hcommit]
    refine ⟨⟨by rw [hsum, h.supply]; exact hlaw.within, by rw [hsum, h.supply]; exact hlaw.waits, fun d => ?_⟩,
      hsum.le.trans (le_max_left ..)⟩
    rw [(h.seats d).queue]
    exact hlaw.fresh d

/-- A change of none of the channels, the heads and the arbiter. -/
theorem Steady.of_eq {s t : State} (hc : ∀ d, t.chan d = s.chan d) (hu : t.supply = s.supply) (hh : t.heads = s.heads) :
    Steady s t := .of_heads hc hu fun _ => by rw [hh]; exact .refl _

theorem Steady.resumed (s : State) : Steady s (resumed s) := by
  unfold Machine.resumed
  dsimp only
  split
  · exact .of_eq (fun d => by cases d <;> rfl) rfl rfl
  · exact .of_eq (fun d => by cases d <;> rfl) rfl rfl

theorem Steady.enterSafeDark (k : SafeCause) (s : State) : Steady s (enterSafeDark k s) := by
  unfold Machine.enterSafeDark
  split
  · exact .refl s
  · have hflag : Steady s { s with safe := some k } := .of_eq (fun d => by cases d <;> rfl) rfl rfl
    refine hflag.trans <| (Steady.flushAll .c0 _).trans <| (Steady.flushAll .c1 _).trans <|
      Steady.trans ?_ (.placeNotice ..)
    exact .of_eq (fun d => by cases d <;> rfl) rfl rfl

theorem Steady.leak (s : State) : Steady s (leak s) := by
  refine .of_heads (fun d => ?_) (by simp only [Machine.leak]) fun h => ?_
  · cases d <;> simp only [State.chan_c0, State.chan_c1, Machine.leak]
  · simp only [Machine.leak]
    rw [mapAll_get]
    exact .leaked _

/-- Every part keeps what `Steady` says, or is one of the few that do not. -/
theorem Part.steady_or_rare {gr : Grants} {s t : State} (h : Part gr s t) : Steady s t ∨ Rare gr s t := by
  cases h with
  | core same => exact .inl same.steady
  | event c h => exact .inl h.steady
  | tracker c t s old new synced => exact .inr (.tracker c t s old new synced)
  | lost c k t s old new => exact .inr (.lost c k t s old new)
  | config c g s off => exact .inr (.config c g s off)
  | online c s off => exact .inr (.online c s off)
  | offline c s on => exact .inr (.offline c s on)
  | limit v s granted => exact .inr (.limit v s granted)
  | headSet h f c s free => exact .inr (.headSet h f c s free)
  | retire h s free =>
    exact .inl (Steady.trans (.setHead s h { s.heads[h] with state := .absent, strikes := 0 }
      ((HeadKept.state _ .absent).trans (.strikes _ (Nat.zero_le _)))) (.darkenHead ..))
  | wear h s => exact .inl (.wearTest h s)
  | ready h n s le => exact .inl (.setHead s h _ ⟨rfl, fun hr => { hr with strikes := le.trans hr.strikes }⟩)
  | leak s => exact .inl (.leak s)
  | timer t s moved => exact .inl (.of_eq (fun d => by cases d <;> rfl) rfl rfl)
  | safeDark k s => exact .inl (.enterSafeDark k s)
  | resume s flagged low granted => exact .inl (.resumed s)
  | supflt v s granted => exact .inl (.of_eq (fun d => by cases d <;> rfl) rfl rfl)
  | judged e s => exact .inr (.judged e s)
  | cold s granted => exact .inr (.cold s granted)
  | run s granted => exact .inr (.run s granted)

end Sys2Proof.Machine
end

section
/-! PROOFS. The laws of the queues, the tags, the notices and the heads (R5, R6, R95, R174), part by part: what `Steady` keeps,
and what the few other parts do. -/

namespace Sys2Proof.Machine

/-! ## The channels after the parts that `Steady` does not cover -/

@[simp] theorem setTracker_chan (c : Chan) (t : Tracker) (s : State) :
    (setTracker c t s).chan c = { s.chan c with tracker := t } := State.modChan_chan ..
@[simp] theorem setTracker_other (c : Chan) (t : Tracker) (s : State) :
    (setTracker c t s).chan c.other = s.chan c.other := State.modChan_other ..
@[simp] theorem setTracker_supply (c : Chan) (t : Tracker) (s : State) : (setTracker c t s).supply = s.supply :=
  State.modChan_supply ..

theorem loseReference_chan (c : Chan) (k : SyncCause) (t : Tracker) (s : State) :
    (loseReference c k t s).chan c =
      Channel.flushed { s.chan c with tracker := t } (setTracker c t s).now := by
  rw [loseReference, placeNotice_chan, flushAll_chan, setTracker_chan]

theorem loseReference_other (c : Chan) (k : SyncCause) (t : Tracker) (s : State) :
    (loseReference c k t s).chan c.other = s.chan c.other := by
  rw [loseReference, placeNotice_chan, flushAll_other, setTracker_other]

theorem bringOnline_chan (c d : Chan) (s : State) :
    (bringOnline c s).chan d = (setTracker c (acquiringTracker (s.chan c).config.pnom) s).chan d := by
  unfold bringOnline
  dsimp only
  split
  · cases d <;> rfl
  · rfl

theorem takeOffline_chan (c d : Chan) (s : State) :
    (takeOffline c s).chan d = (flushAll c (setTracker c (offTracker (s.chan c).config.pnom) s)).1.chan d := by
  unfold takeOffline
  dsimp only
  split
  · rfl
  · cases d <;> rfl

theorem applyLimit_chan (v : Nat) (s : State) (d : Chan) : (applyLimit v s).chan d = s.chan d := by
  rw [applyLimit_eq]; cases d <;> rfl

theorem runState_queue (s : State) (d : Chan) : ((runState s).chan d).queue = [] := by
  have h0 := flushAll_queue .c0 .c0 { s with supply := ⟨s.supply.limit, none⟩ } (.inl rfl)
  have h1 := flushAll_queue .c1 d (flushAll .c0 { s with supply := ⟨s.supply.limit, none⟩ }).1
  cases d with
  | c0 => exact h1 (.inr h0)
  | c1 => exact h1 (.inl rfl)

theorem coldState_queue (s : State) (d : Chan) : ((coldState s).chan d).queue = [] := by cases d <;> rfl

theorem offline_unsynced {x : Channel} (h : x.online = false) : x.tracker.synced = false := by
  have hoff : x.tracker.state = .off := by simpa [Channel.online] using h
  simp [Tracker.synced, hoff]

/-! ## The queues -/

/-- What `QueueLaw` says of one channel. -/
structure QueueOk (x : Channel) : Prop where
  capacity : x.queue.length ≤ 20
  spaced : Spaced x.config.spacing x.queue
  unsynced : x.tracker.synced = false → x.queue = []

theorem queueLaw_iff {s : State} : QueueLaw s ↔ ∀ c, QueueOk (s.chan c) :=
  ⟨fun h c => ⟨h.capacity c, h.spaced c, h.unsynced c⟩,
    fun h => ⟨fun c => (h c).capacity, fun c => (h c).spaced, fun c => (h c).unsynced⟩⟩

theorem QueueOk.of_nil {x : Channel} (h : x.queue = []) : QueueOk x :=
  ⟨by simp [h], by rw [h, spaced_iff]; exact .nil, fun _ => h⟩

/-- Whether a queue is spaced depends on the cores of its bursts alone. -/
theorem spaced_iff_cores {smin : Nat} {q : List Burst} :
    Spaced smin q ↔ (q.map Burst.core).Pairwise fun a b =>
      a.2.2.1 < b.2.2.1 ∧ a.2.2.1 + a.2.2.2 + smin ≤ b.2.2.1 := by
  rw [spaced_iff, List.pairwise_map]
  rfl

theorem QueueOk.ages {x y : Channel} (a : Ages x y) (h : QueueOk x) : QueueOk y where
  capacity := by
    have hlen := a.queue.cores.length_le
    rw [List.length_map, List.length_map] at hlen
    exact hlen.trans h.capacity
  spaced := by
    rw [a.config, spaced_iff_cores]
    exact (spaced_iff_cores.1 h.spaced).sublist a.queue.cores
  unsynced hs := by
    rw [a.tracker] at hs
    have hnil := a.queue.cores
    rw [h.unsynced hs] at hnil
    exact List.map_eq_nil_iff.1 (List.sublist_nil.1 hnil)

theorem Steady.queueLaw {s t : State} (a : Steady s t) (h : QueueLaw s) : QueueLaw t :=
  queueLaw_iff.2 fun c => (queueLaw_iff.1 h c).ages (a.ages c)

/-- A state whose channel `c` is in order and whose other channel is as it was. -/
theorem QueueLaw.of_chan {s t : State} (c : Chan) (h : QueueLaw s) (hc : QueueOk (t.chan c))
    (ho : t.chan c.other = s.chan c.other) : QueueLaw t := queueLaw_iff.2 fun d => by
  obtain rfl | rfl := Chan.eq_or_other c d
  · exact hc
  · rw [ho]; exact queueLaw_iff.1 h _

theorem QueueLaw.setTracker {s : State} (c : Chan) (t : Tracker) (h : QueueLaw s)
    (ht : t.synced = false → (s.chan c).queue = []) : QueueLaw (Machine.setTracker c t s) :=
  h.of_chan c (by rw [setTracker_chan]; exact ⟨h.capacity c, h.spaced c, ht⟩) (setTracker_other ..)

/-- An admission keeps the queues in order (R5, R17). -/
theorem QueueLaw.judgeEntry {s : State} (e : PlanEntry) (h : QueueLaw s) : QueueLaw (judgeEntry e s).1 := by
  obtain heq | ⟨j, a, p, k, hadmits, heq⟩ := judgeEntry_cases e s
  · rw [heq]; exact h
  · rw [heq]
    obtain ⟨hfree, -⟩ := hadmits.conflicts (h.spaced j.channel) p
    have hchan : ∀ d, _ = _ := admitBurst_chan (b := entryBurst s e j a p) rfl k s
    refine h.of_chan j.channel ?_ ?_
    · rw [hchan, show (entryBurst s e j a p).channel = j.channel from rfl, State.setChan_chan]
      refine ⟨?_, ?_, fun hs => absurd (hs.symm.trans hadmits.synced) (by simp)⟩
      · have hlen := (perm_inserted ((entryBurst s e j a p).marked (captureMarkOf s k)) (s.chan j.channel).queue).length_eq
        have hroom := hadmits.room
        rw [List.length_cons] at hlen
        exact hlen.le.trans hroom
      · exact spaced_inserted (h.spaced _) (Nat.lt_of_lt_of_le (by omega) (checkFields_home hadmits.fields).2) hfree
    · rw [hchan, show (entryBurst s e j a p).channel = j.channel from rfl, State.setChan_other]

theorem Rare.queueLaw {gr : Grants} {s t : State} (r : Rare gr s t) (h : QueueLaw s) : QueueLaw t := by
  cases r with
  | tracker c t s old new synced =>
    refine h.setTracker c t fun ht => h.unsynced c ?_
    by_contra hs
    rw [Bool.not_eq_false] at hs
    exact absurd (ht.symm.trans (synced hs)) (by simp)
  | lost c k t s old new =>
    exact h.of_chan c (.of_nil (by rw [loseReference_chan]; rfl)) (loseReference_other ..)
  | config c g s off =>
    refine h.of_chan c (.of_nil ?_) (State.modChan_other ..)
    rw [State.modChan_chan]
    exact h.unsynced c (offline_unsynced off)
  | online c s off =>
    have hset := h.setTracker c (acquiringTracker (s.chan c).config.pnom) fun _ => h.unsynced c (offline_unsynced off)
    exact queueLaw_iff.2 fun d => by rw [bringOnline_chan]; exact queueLaw_iff.1 hset d
  | offline c s on =>
    refine h.of_chan c (.of_nil ?_) ?_
    · rw [takeOffline_chan, flushAll_chan]; rfl
    · rw [takeOffline_chan, flushAll_other, setTracker_other]
  | limit v s granted => exact queueLaw_iff.2 fun d => by rw [applyLimit_chan]; exact queueLaw_iff.1 h d
  | headSet k f c s free =>
    refine (Steady.darkenHead k _).queueLaw (queueLaw_iff.2 fun d => ?_)
    rw [State.setHead_chan]; exact queueLaw_iff.1 h d
  | judged e s => exact h.judgeEntry e
  | cold s granted => exact queueLaw_iff.2 fun d => .of_nil (coldState_queue s d)
  | run s granted => exact queueLaw_iff.2 fun d => .of_nil (runState_queue s d)

/-- Settles O7: every part keeps the queues in order. -/
theorem stepKeepsTheQueueLaw : Obligations.StepKeepsTheQueueLaw := by
  intro s t hlaw hstep
  refine step_keeps (P := QueueLaw) (fun u v hpart h => ?_) (fun u p n h => ⟨h.capacity, h.spaced, h.unsynced⟩) hstep hlaw
  exact hpart.steady_or_rare.elim (fun a => a.queueLaw h) fun r => r.queueLaw h

/-! ## Tags and notices -/

/-- The tags of the held bursts, channel 0 first. -/
def heldTags (s : State) : List U16 := ((s.chan .c0).queue ++ (s.chan .c1).queue).map Burst.tag

theorem tagLaw_iff {s : State} : TagLaw s ↔ (heldTags s).Nodup := Iff.rfl

/-- Bursts that leave free their tags. -/
theorem TagLaw.of_sublist {s t : State} (h : TagLaw s)
    (hq : ∀ c, ((t.chan c).queue.map Burst.tag).Sublist ((s.chan c).queue.map Burst.tag)) : TagLaw t := by
  rw [tagLaw_iff] at h ⊢
  refine h.sublist ?_
  unfold heldTags
  rw [List.map_append, List.map_append]
  exact (hq .c0).append (hq .c1)

theorem TagLaw.of_queue {s t : State} (h : TagLaw s) (hq : ∀ c, (t.chan c).queue = (s.chan c).queue ∨ (t.chan c).queue = []) :
    TagLaw t := h.of_sublist fun c => by
  obtain hc | hc := hq c
  · rw [hc]
  · rw [hc]; exact List.nil_sublist _

theorem QueueAges.tags {q r : List Burst} (a : QueueAges q r) : (r.map Burst.tag).Sublist (q.map Burst.tag) := by
  have h := a.cores.map Prod.fst
  rwa [List.map_map, List.map_map] at h

theorem Steady.tagLaw {s t : State} (a : Steady s t) (h : TagLaw s) : TagLaw t :=
  h.of_sublist fun c => (a.ages c).queue.tags

/-- A new burst's tag is held by no other burst (R6, R15). -/
theorem TagLaw.judgeEntry {s : State} (e : PlanEntry) (h : TagLaw s) : TagLaw (judgeEntry e s).1 := by
  obtain heq | ⟨j, a, p, k, hadmits, heq⟩ := judgeEntry_cases e s
  · rw [heq]; exact h
  · rw [heq]
    have hchan : ∀ d, _ = _ := admitBurst_chan (b := entryBurst s e j a p) rfl k s
    rw [show (entryBurst s e j a p).channel = j.channel from rfl] at hchan
    have hnew := hadmits.newTag
    simp only [State.tagHeld, Bool.or_eq_false_iff, List.any_eq_false, beq_iff_eq] at hnew
    obtain ⟨hnew0, hnew1⟩ := hnew
    have hperm : (heldTags (admitBurst (entryBurst s e j a p) k s)).Perm (e.tag :: heldTags s) := by
      have hin := (perm_inserted ((entryBurst s e j a p).marked (captureMarkOf s k)) (s.chan j.channel).queue).map Burst.tag
      unfold heldTags
      rw [hchan, hchan, List.map_append, List.map_append]
      cases hj : j.channel with
      | c0 =>
        rw [hj] at hin
        exact hin.append_right _
      | c1 =>
        rw [hj] at hin
        exact (hin.append_left _).trans List.perm_middle
    rw [tagLaw_iff, hperm.nodup_iff, List.nodup_cons]
    refine ⟨fun hmem => ?_, h⟩
    obtain ⟨b, hb, htag⟩ := List.mem_map.1 hmem
    obtain hb | hb := List.mem_append.1 hb
    · exact hnew0 b hb htag
    · exact hnew1 b hb htag

theorem Rare.tagLaw {gr : Grants} {s t : State} (r : Rare gr s t) (h : TagLaw s) : TagLaw t := by
  cases r with
  | tracker c t s =>
    refine h.of_queue fun d => .inl ?_
    obtain rfl | rfl := Chan.eq_or_other c d <;> simp
  | lost c k t s =>
    refine h.of_queue fun d => ?_
    obtain rfl | rfl := Chan.eq_or_other c d
    · exact .inr (by rw [loseReference_chan]; rfl)
    · exact .inl (by rw [loseReference_other])
  | config c g s =>
    refine h.of_queue fun d => .inl ?_
    obtain rfl | rfl := Chan.eq_or_other c d <;> simp
  | online c s =>
    refine h.of_queue fun d => .inl ?_
    rw [bringOnline_chan]
    obtain rfl | rfl := Chan.eq_or_other c d <;> simp
  | offline c s =>
    refine h.of_queue fun d => ?_
    rw [takeOffline_chan]
    obtain rfl | rfl := Chan.eq_or_other c d
    · exact .inr (by rw [flushAll_chan]; rfl)
    · exact .inl (by rw [flushAll_other, setTracker_other])
  | limit v s => exact h.of_queue fun d => .inl (by rw [applyLimit_chan])
  | headSet k f c s =>
    exact (Steady.darkenHead k _).tagLaw (h.of_queue fun d => .inl (by rw [State.setHead_chan]))
  | judged e s => exact h.judgeEntry e
  | cold s => exact h.of_queue fun d => .inr (coldState_queue s d)
  | run s => exact h.of_queue fun d => .inr (runState_queue s d)

/-- What every part keeps of the link. -/
theorem Part.linkOk {gr : Grants} {s t : State} (h : Part gr s t) : LinkOk s.link t.link := by
  have hidle : LinkOk s.link idleLink := ⟨fun _ => Nat.zero_le _, fun _ hw => absurd rfl hw⟩
  cases h with
  | core same => exact same.link
  | event c h => exact h.calm.kept.linkOk
  | tracker c t s => exact (Calm.setTracker c t s).kept.linkOk
  | lost c k t s => exact (Calm.loseReference c k t s).kept.linkOk
  | config c g s => exact (LinkKept.modChan ..).linkOk
  | online c s =>
    have h1 := (Calm.setTracker c (acquiringTracker (s.chan c).config.pnom) s).kept.linkOk
    unfold bringOnline
    dsimp only
    split <;> exact h1
  | offline c s =>
    have h1 := ((Calm.setTracker c (offTracker (s.chan c).config.pnom) s).trans (Calm.flushAll c _)).kept.linkOk
    unfold takeOffline
    dsimp only
    split <;> exact h1
  | limit v s => rw [applyLimit_eq]; exact .refl _
  | headSet h f c s => exact ((Calm.setHead s h _).trans (Calm.darkenHead h _)).kept.linkOk
  | retire h s => exact ((Calm.setHead s h _).trans (Calm.darkenHead h _)).kept.linkOk
  | wear h s => exact (Calm.wearTest h s).kept.linkOk
  | ready => exact .refl _
  | leak => simp only [Machine.leak]; exact .refl _
  | timer => exact .refl _
  | safeDark k s => exact (enterSafeDark_kept k s).linkOk
  | resume s => unfold resumed; dsimp only; split <;> exact .refl _
  | supflt => exact .refl _
  | judged e s => exact (judgeEntry_kept e s).linkOk
  | cold => exact hidle
  | run s => exact hidle

/-- Settles O8: every part keeps the tags distinct and the Notice Queue within its places. -/
theorem stepKeepsTagsDistinctAndNoticesBounded : Obligations.StepKeepsTagsDistinctAndNoticesBounded := by
  refine fun s t hstep => ⟨fun hlaw => ?_, fun hlaw => ?_⟩
  · exact step_keeps (P := TagLaw) (fun u v hpart h =>
      hpart.steady_or_rare.elim (fun a => a.tagLaw h) fun r => r.tagLaw h) (fun u p n h => h) hstep hlaw
  · exact step_keeps (P := NoticeLaw) (fun u v hpart h => hpart.linkOk.notices h) (fun u p n h => h) hstep hlaw

/-! ## Heads -/

/-- The fields that HEAD_SET writes are clamped to their ranges (R95, R98). -/
theorem HeadRange.set {r : Head} (h : HeadRange r) (f : HeadSetFields) (c : Chan) : HeadRange (r.set f c) where
  ith25 := by simp only [Head.set, writeHeadFields, clampNat]; omega
  ktemp := by
    have hlt := BitVec.toInt_lt (x := f.ktemp)
    have hle := BitVec.le_toInt f.ktemp
    simp only [Head.set, writeHeadFields]
    norm_num at hlt hle
    omega
  gain := by simp only [Head.set, writeHeadFields, clampNat]; omega
  imax := by simp only [Head.set, writeHeadFields, clampNat]; omega
  ibias := by simp only [Head.set, writeHeadFields, clampNat]; omega
  lightEst := by simp only [Head.set, writeHeadFields, clampNat]; omega
  coldExtra := by simp only [Head.set, writeHeadFields, clampNat]; omega
  lt := by simp only [Head.set, writeHeadFields, clampInt]; omega
  strikeLimit := by simp only [Head.set, writeHeadFields, clampNat]; omega
  strikes := h.strikes
  ceiling := by simp only [Head.set, writeHeadFields, clampNat]; omega
  samplePeriod := by have := f.samplePeriod.isLt; simp only [Head.set, writeHeadFields]; omega
  countdown := le_rfl
  leak := by have := f.leak.isLt; simp only [Head.set, writeHeadFields]; omega
  bucket := h.bucket
  lifetime := h.lifetime
  wearThreshold := by have := f.wearThreshold.isLt; simp only [Head.set, writeHeadFields]; omega

theorem Steady.headLaw {s t : State} (a : Steady s t) (h : HeadLaw s) : HeadLaw t := fun k => (a.heads k).range (h k)

theorem judgeEntry_heads (e : PlanEntry) (s : State) : (judgeEntry e s).1.heads = s.heads := by
  obtain heq | ⟨j, a, p, k, -, heq⟩ := judgeEntry_cases e s
  · rw [heq]
  · rw [heq]; exact (admitBurst_rest rfl k s).1

theorem coldState_heads (s : State) : (coldState s).heads = State.reset.heads := rfl

theorem Rare.headLaw {gr : Grants} {s t : State} (r : Rare gr s t) (h : HeadLaw s) : HeadLaw t := by
  have hset : ∀ c t, HeadLaw (setTracker c t s) := fun c t k => by
    rw [setTracker, State.modChan_heads]; exact h k
  cases r with
  | tracker c t s => exact hset c t
  | lost c k t s => exact ((Steady.flushAll c _).trans (.placeNotice ..)).headLaw (hset c t)
  | config c g s => intro k; rw [State.modChan_heads]; exact h k
  | online c s =>
    unfold bringOnline
    dsimp only
    split
    · exact hset c _
    · exact hset c _
  | offline c s =>
    have hflush := (Steady.flushAll c _).headLaw (hset c (offTracker (s.chan c).config.pnom))
    unfold takeOffline
    dsimp only
    split
    · exact hflush
    · exact hflush
  | limit v s => rw [applyLimit_eq]; exact h
  | headSet k f c s =>
    refine (Steady.darkenHead k _).headLaw fun l => ?_
    by_cases hl : l = k
    · subst hl
      rw [State.setHead_heads, heads_set_same]
      exact (h l).set f c
    · rw [State.setHead_heads, heads_set_ne _ _ _ _ hl]
      exact h l
  | judged e s => intro k; rw [judgeEntry_heads]; exact h k
  | cold s => intro k; rw [coldState_heads]; exact resetMeetsTheLaws.2.2.2.2.2.2.2.2.2.2.2.2.1 k
  | run s =>
    have hflush : HeadLaw (flushAll .c1 (flushAll .c0 { s with supply := ⟨s.supply.limit, none⟩ }).1).1 :=
      ((Steady.flushAll .c0 _).trans (.flushAll .c1 _)).headLaw h
    intro k
    rw [show (runState s).heads = mapAll (fun r : Head => { r with strikes := 0 })
      (flushAll .c1 (flushAll .c0 { s with supply := ⟨s.supply.limit, none⟩ }).1).1.heads from rfl, mapAll_get]
    exact { hflush k with strikes := Nat.zero_le _ }

/-- Settles O11: every part keeps the fields of the heads in their ranges. -/
theorem stepKeepsTheHeadRanges : Obligations.StepKeepsTheHeadRanges := by
  intro s t hlaw hstep
  refine step_keeps (P := HeadLaw) (fun u v hpart h => ?_) (fun u p n h => h) hstep hlaw
  exact hpart.steady_or_rare.elim (fun a => a.headLaw h) fun r => r.headLaw h

end Sys2Proof.Machine
end

section
/-! PROOFS. The law of the laser supply (R139, R144): what every part keeps of it, and that the committed sum does not rise over a
command that begins and ends with a limit pending. A command serves two requests at most, so at most one CONDITIONS can
raise the limit before the last service, which leaves a pending limit only as another CONDITIONS, under which the sum stays. -/

namespace Sys2Proof.Machine

/-! ## The law, part by part -/

/-- The law reads the bursts, the commitments and the limits alone. -/
theorem SupplyLaw.of_same {s t : State} (h : SupplyLaw s) (hq : ∀ c, (t.chan c).queue = (s.chan c).queue)
    (hc : ∀ c, (t.chan c).seq.committed = (s.chan c).seq.committed) (hu : t.supply = s.supply) : SupplyLaw t := by
  have hsum : t.committedSum = s.committedSum := by
    rw [committedSum_eq _ .c0, committedSum_eq _ .c0, hc, hc]
  exact ⟨by rw [hsum, hu]; exact h.within, by rw [hsum, hu]; exact h.waits, fun c => by rw [hq]; exact h.fresh c⟩

theorem committedSum_of_same {s t : State} (hc : ∀ c, (t.chan c).seq.committed = (s.chan c).seq.committed) :
    t.committedSum = s.committedSum := by
  rw [committedSum_eq _ .c0, committedSum_eq _ .c0, hc, hc]

theorem setTracker_queue (c d : Chan) (t : Tracker) (s : State) :
    ((setTracker c t s).chan d).queue = (s.chan d).queue := by
  obtain rfl | rfl := Chan.eq_or_other c d <;> simp

theorem setTracker_seq (c d : Chan) (t : Tracker) (s : State) : ((setTracker c t s).chan d).seq = (s.chan d).seq := by
  obtain rfl | rfl := Chan.eq_or_other c d <;> simp

/-- What no part does to the arbiter but CONDITIONS and a reset: it keeps the law, the limit in force, and a committed sum within
what it was or that limit. -/
structure Supplied (s t : State) : Prop where
  effective : t.supply.effective = s.supply.effective
  supply : SupplyLaw s → SupplyLaw t ∧ t.committedSum ≤ max s.committedSum s.supply.effective

theorem Steady.supplied {s t : State} (a : Steady s t) : Supplied s t := ⟨a.effective, a.supply⟩

theorem Supplied.trans {s t u : State} (a : Supplied s t) (b : Supplied t u) : Supplied s u where
  effective := b.effective.trans a.effective
  supply h := by
    obtain ⟨ht, hst⟩ := a.supply h
    obtain ⟨hu, htu⟩ := b.supply ht
    rw [a.effective] at htu
    exact ⟨hu, htu.trans (max_le hst (le_max_right ..))⟩

theorem Supplied.of_same {s t : State} (hq : ∀ c, (t.chan c).queue = (s.chan c).queue)
    (hc : ∀ c, (t.chan c).seq.committed = (s.chan c).seq.committed) (hu : t.supply = s.supply) : Supplied s t :=
  ⟨by rw [hu], fun h => ⟨h.of_same hq hc hu, (committedSum_of_same hc).le.trans (le_max_left ..)⟩⟩

theorem Supplied.setTracker (c : Chan) (t : Tracker) (s : State) : Supplied s (setTracker c t s) :=
  .of_same (fun d => setTracker_queue c d t s) (fun d => by rw [setTracker_seq]) (State.modChan_supply ..)

/-- An admitted burst carries no derate. -/
theorem Supplied.judgeEntry (e : PlanEntry) (s : State) : Supplied s (judgeEntry e s).1 := by
  obtain heq | ⟨j, a, p, k, hadmits, heq⟩ := judgeEntry_cases e s
  · rw [heq]; exact .of_same (fun _ => rfl) (fun _ => rfl) rfl
  · rw [heq]
    have hchan := fun d => admitBurst_chan (b := entryBurst s e j a p) rfl k s d
    have hsupply := (admitBurst_rest (b := entryBurst s e j a p) rfl k s).2.1
    have hcommit : ∀ d, ((admitBurst (entryBurst s e j a p) k s).chan d).seq.committed = (s.chan d).seq.committed := by
      intro d
      rw [hchan]
      obtain hd | hd := Chan.eq_or_other (entryBurst s e j a p).channel d
      · rw [hd, State.setChan_chan]; rfl
      · rw [hd, State.setChan_other]
    have hsum := committedSum_of_same hcommit
    refine ⟨by rw [hsupply], fun h => ⟨⟨by rw [hsum, hsupply]; exact h.within, by rw [hsum, hsupply]; exact h.waits,
      fun d b hb => ?_⟩, hsum.le.trans (le_max_left ..)⟩⟩
    rw [hchan] at hb
    obtain hd | hd := Chan.eq_or_other (entryBurst s e j a p).channel d
    · rw [hd, State.setChan_chan] at hb
      obtain rfl | hb := mem_inserted hb
      · exact fun _ _ => rfl
      · exact h.fresh _ b hb
    · rw [hd, State.setChan_other] at hb
      exact h.fresh _ b hb

/-- A reset leaves no commitment and no pending limit (R138, R178). -/
structure Cleared (t : State) : Prop where
  commits : ∀ c, (t.chan c).seq.committed = 0
  queues : ∀ c, (t.chan c).queue = []
  pending : t.supply.pending = none

theorem Cleared.sum {t : State} (h : Cleared t) : t.committedSum = 0 := by
  rw [committedSum_eq _ .c0, h.commits, h.commits]

theorem Cleared.supplyLaw {t : State} (h : Cleared t) : SupplyLaw t :=
  ⟨by rw [h.sum]; exact Nat.zero_le _, fun p hp => absurd (hp.symm.trans h.pending) (by simp),
    fun c b hb => by rw [h.queues] at hb; cases hb⟩

theorem supplyAfter_none {u : Supply} (h : u.pending = none) (n : Nat) : supplyAfter u n = u := by
  unfold supplyAfter
  split
  · rfl
  · rename_i p hp; rw [h] at hp; cases hp

theorem cleared_coldState (s : State) : Cleared (coldState s) :=
  ⟨fun c => by cases c <;> rfl, coldState_queue s, rfl⟩

theorem cleared_runState (s : State) : Cleared (runState s) where
  commits c := by cases c <;> rfl
  queues := runState_queue s
  pending := by
    show (flushAll .c1 (flushAll .c0 { s with supply := ⟨s.supply.limit, none⟩ }).1).1.supply.pending = none
    rw [flushAll_supply, flushAll_supply, supplyAfter_none (h := rfl), supplyAfter_none (h := rfl)]

theorem Cleared.of_supplied {s t : State} (h : SupplyLaw s) (hp : s.supply.pending = none) (a : Supplied s t) :
    t.supply.pending = none := by
  obtain ⟨ht, hsum⟩ := a.supply h
  have heff := a.effective
  cases hq : t.supply.pending with
  | none => rfl
  | some q =>
    have hlt := ht.waits q hq
    have hwithin := h.within
    simp only [Supply.effective, hp, hq, Option.getD_none, Option.getD_some] at heff hsum
    omega

theorem SupplyLaw.applyLimit {s : State} (h : SupplyLaw s) (v : Nat) : SupplyLaw (applyLimit v s) := by
  rw [applyLimit_eq]
  refine ⟨?_, ?_, fun d => h.fresh d⟩
  · show s.committedSum ≤ (s.supply.limitedTo s.committedSum v).limit
    unfold Supply.limitedTo
    split
    · assumption
    · exact h.within
  · show ∀ p, (s.supply.limitedTo s.committedSum v).pending = some p → p < s.committedSum
    unfold Supply.limitedTo
    split
    · intro p hp; cases hp
    · intro p hp; cases hp; omega

/-- Every part but CONDITIONS and a reset is `Supplied`. -/
theorem Part.supplied {gr : Grants} {s t : State} (h : Part gr s t) :
    Supplied s t ∨ (gr.reset ∧ Cleared t) ∨ gr.limit ∧ ∃ v, t = Machine.applyLimit v s := by
  obtain a | r := h.steady_or_rare
  · exact .inl a.supplied
  · cases r with
    | tracker c t s => exact .inl (.setTracker c t s)
    | lost c k t s =>
      exact .inl ((Supplied.setTracker c t s).trans ((Steady.flushAll c _).trans (.placeNotice ..)).supplied)
    | config c g s =>
      refine .inl (.of_same (fun d => ?_) (fun d => ?_) (State.modChan_supply ..))
      all_goals obtain rfl | rfl := Chan.eq_or_other c d <;> simp
    | online c s =>
      refine .inl (.trans (.setTracker c (acquiringTracker (s.chan c).config.pnom) s)
        (.of_same (fun d => ?_) (fun d => ?_) ?_))
      · rw [bringOnline_chan]
      · rw [bringOnline_chan]
      · unfold bringOnline
        dsimp only
        split <;> rfl
    | offline c s =>
      refine .inl (.trans (.setTracker c (offTracker (s.chan c).config.pnom) s)
        (.trans (Steady.flushAll c _).supplied (.of_same (fun d => ?_) (fun d => ?_) ?_)))
      · rw [takeOffline_chan]
      · rw [takeOffline_chan]
      · unfold takeOffline
        dsimp only
        split <;> rfl
    | limit v s granted => exact .inr (.inr ⟨granted, v, rfl⟩)
    | headSet k f c s =>
      refine .inl (.trans (t := s.setHead k (s.heads[k].set f c)) (.of_same (fun d => ?_) (fun d => ?_) rfl)
        (Steady.darkenHead k _).supplied)
      · rw [State.setHead_chan]
      · rw [State.setHead_chan]
    | judged e s => exact .inl (.judgeEntry e s)
    | cold s granted => exact .inr (.inl ⟨granted, cleared_coldState s⟩)
    | run s granted => exact .inr (.inl ⟨granted, cleared_runState s⟩)

theorem Part.supplyLaw {gr : Grants} {s t : State} (h : Part gr s t) (hs : SupplyLaw s) : SupplyLaw t := by
  obtain a | ⟨-, a⟩ | ⟨-, v, rfl⟩ := h.supplied
  · exact (a.supply hs).1
  · exact a.supplyLaw
  · exact hs.applyLimit v

/-- Parts without a limit and a reset are `Supplied`. -/
theorem Parts.supplied {gr : Grants} {s t : State} (h : Parts gr s t) (limit : ¬ gr.limit) (reset : ¬ gr.reset) :
    Supplied s t := by
  induction h with
  | refl => exact .of_same (fun _ => rfl) (fun _ => rfl) rfl
  | tail _ hpart ih =>
    obtain a | ⟨hr, -⟩ | ⟨hl, -⟩ := hpart.supplied
    · exact ih.trans a
    · exact absurd hr reset
    · exact absurd hl limit

/-! ## The services of a command -/

/-- How far the committed sum has been held to `n` while `k` services may still come: after the last one a pending limit means
that it has not risen. -/
structure Level (n k : Nat) (s : State) : Prop where
  law : SupplyLaw s
  last : s.supply.pending = none ∨ s.committedSum ≤ n
  one : 1 ≤ k → s.committedSum ≤ n ∧ (s.supply.pending = none ∨ s.supply.effective ≤ n)
  two : 2 ≤ k → s.supply.effective ≤ n

theorem Level.mono {n k l : Nat} {s : State} (h : Level n k s) (hl : l ≤ k) : Level n l s :=
  ⟨h.law, h.last, fun h1 => h.one (h1.trans hl), fun h2 => h.two (h2.trans hl)⟩

theorem Level.of_same {n k : Nat} {s t : State} (h : Level n k s) (ht : SupplyLaw t)
    (hsum : t.committedSum = s.committedSum) (hu : t.supply = s.supply) : Level n k t :=
  ⟨ht, by rw [hsum, hu]; exact h.last, by rw [hsum, hu]; exact h.one, by rw [hu]; exact h.two⟩

/-- A change of the link or of the output lines. -/
theorem Level.core {n k : Nat} {s t : State} (h : Level n k s) (a : SameCore s t) : Level n k t := by
  have hcommit : ∀ d, (t.chan d).seq.committed = (s.chan d).seq.committed := fun d => by
    obtain ⟨v, l, hseq⟩ := (a.seats d).seq
    rw [hseq]
  exact h.of_same (a.steady.supply h.law).1 (committedSum_of_same hcommit) a.supply

/-- The step of a request that is not CONDITIONS. -/
theorem Level.supplied {n k : Nat} {s t : State} (h : Level n (k + 1) s) (hk : k ≤ 1) (a : Supplied s t) : Level n k t := by
  obtain ⟨ht, hsum⟩ := a.supply h.law
  have heff := a.effective
  have hnone := Cleared.of_supplied h.law (a := a)
  obtain ⟨hone, hor⟩ := h.one (by omega)
  refine ⟨ht, ?_, fun h1 => ⟨?_, .inr ?_⟩, fun h2 => by omega⟩
  · obtain hp | hp := hor
    · exact .inl (hnone hp)
    · exact .inr (by omega)
  · have := h.two (by omega); omega
  · have := h.two (by omega); omega

/-- A part that is no CONDITIONS keeps a state in which no service is to come. -/
theorem Level.last_supplied {n : Nat} {s t : State} (h : Level n 0 s) (a : Supplied s t) : Level n 0 t := by
  obtain ⟨ht, hsum⟩ := a.supply h.law
  refine ⟨ht, ?_, fun h1 => by omega, fun h2 => by omega⟩
  obtain hp | hp := h.last
  · exact .inl (Cleared.of_supplied h.law hp a)
  · cases hq : s.supply.pending with
    | none => exact .inl (Cleared.of_supplied h.law hq a)
    | some q =>
      have hlt := h.law.waits q hq
      simp only [Supply.effective, hq, Option.getD_some] at hsum
      exact .inr (by omega)

theorem Level.cleared {n : Nat} {t : State} (a : Cleared t) : Level n 0 t :=
  ⟨a.supplyLaw, .inl a.pending, fun h1 => by omega, fun h2 => by omega⟩

/-- CONDITIONS leaves the committed sum as it is. -/
theorem Level.limited {n k : Nat} {s : State} (h : Level n (k + 1) s) (hk : k ≤ 1) (v : Nat) :
    Level n k (Machine.applyLimit v s) := by
  have hsum : (Machine.applyLimit v s).committedSum = s.committedSum :=
    committedSum_of_same fun d => by rw [applyLimit_chan]
  obtain ⟨hone, -⟩ := h.one (by omega)
  refine ⟨h.law.applyLimit v, .inr (hsum.le.trans hone), fun _ => ⟨hsum.le.trans hone, ?_⟩, fun h2 => by omega⟩
  rw [applyLimit_eq]
  show (s.supply.limitedTo s.committedSum v).pending = none ∨ (s.supply.limitedTo s.committedSum v).effective ≤ n
  unfold Supply.limitedTo
  split
  · exact .inl rfl
  · refine .inr ?_
    show v ≤ n
    omega

theorem SameCore.answer (r : Instr) (v : Service) (p : State × Reply) : SameCore p.1 (answer r v p) :=
  SameCore.modLink _ _ ⟨id, fun _ _ => by simp⟩

/-- The parts of a request's service: those of CONDITIONS end in its limit. -/
theorem serve_level {n k : Nat} {s : State} (r : Instr) (h : Level n (k + 1) s) (hk : k ≤ 1) : Level n k (serve r s) := by
  by_cases hr : ∃ tag p, r = .conditions tag p
  · obtain ⟨tag, p, rfl⟩ := hr
    cases p with
    | unfit => exact (h.core (SameCore.answer _ _ (s, .code .badLength))).mono (Nat.le_succ k)
    | fits f =>
      refine Level.core (Level.limited (Level.core (Level.core h (SameCore.modChan s .c0 _ ?_)) (SameCore.modChan _ .c1 _ ?_))
        hk _) (SameCore.answer _ _ (serveConditions (.fits f) s))
      all_goals exact ⟨rfl, rfl, rfl, rfl, _, _, rfl⟩
  · have hparts : Parts ⟨False, True, False, False⟩ s (serve r s) :=
      serve_parts r s ⟨fun hc => hr hc, fun _ _ => trivial⟩
    exact h.supplied hk (hparts.supplied id id)

/-! ## The services that may still come -/

/-- At most so many services may still come within one command: one while no request is in service, and one when the free
transmitter begins a reply. -/
def Link.potential (l : Link) : Nat := (if l.served = none then 1 else 0) + (if l.tx = none then 1 else 0)

/-- `Level`, with as many services to come as the link allows. -/
def LinkLevel (n : Nat) (s : State) : Prop := Level n s.link.potential s

theorem potential_le (l : Link) : l.potential ≤ 2 := by
  unfold Link.potential
  split <;> split <;> omega

theorem LinkLevel.modLink {n : Nat} {s : State} (h : LinkLevel n s) (f : Link → Link) (hl : LinkOk s.link (f s.link))
    (hp : (f s.link).potential ≤ s.link.potential) : LinkLevel n (s.modLink f) :=
  (Level.core h (SameCore.modLink s f hl)).mono hp

/-- A request is taken into service where none is in service. -/
theorem LinkLevel.serve {n : Nat} {s : State} (h : LinkLevel n s) (hnone : s.link.served = none) (r : Instr) :
    LinkLevel n (serve r s) := by
  have htx := (serve_linkServed r s).tx
  have hdone : (Machine.serve r s).link.served ≠ none → LinkLevel n (Machine.serve r s) := by
    intro hserved
    have hpot : s.link.potential = (Machine.serve r s).link.potential + 1 := by
      unfold Link.potential
      rw [htx, if_pos hnone, if_neg hserved]
      omega
    have hle := potential_le s.link
    unfold LinkLevel at h ⊢
    rw [hpot] at h
    exact serve_level r h (by omega)
  cases serve_case r s with
  | answered p kept eq => exact hdone (by rw [eq]; simp [answer])
  | resetting sc kind eq => exact hdone (by rw [eq]; simp [answer])
  | planning tag es kind count eq => exact hdone (by rw [eq]; simp [State.modLink])
  | noRequest eq => rw [eq]; exact h

theorem LinkLevel.arrive {n : Nat} {s : State} (h : LinkLevel n s) (hp : PlaceLaw s) (r : Instr) :
    LinkLevel n (arrive r s) := by
  unfold Machine.arrive
  split
  · exact h
  · split
    · rename_i hnone _
      exact h.serve hnone r
    · rename_i hserved _
      exact h.modLink _ ⟨id, fun _ _ => by simp [hserved]⟩ le_rfl
    · rename_i hnone hw
      exact absurd hnone (hp (by simp [hw]))
    · split
      · exact h.modLink _ ⟨id, id⟩ le_rfl
      · exact h

theorem LinkLevel.beginFrame {n : Nat} {s : State} (h : LinkLevel n s) (f : Frame) (a : Option Scope) :
    LinkLevel n (beginFrame f a s) := by
  refine h.modLink _ ⟨id, id⟩ ?_
  simp [Link.potential]

theorem LinkLevel.startNotice {n : Nat} {s : State} (h : LinkLevel n s) : LinkLevel n (startNotice s) := by
  unfold Machine.startNotice
  split
  · rename_i x rest _ _ hn
    refine LinkLevel.beginFrame (h.modLink _ ⟨fun hle => ?_, id⟩ le_rfl) _ _
    rw [hn] at hle
    exact (Nat.le_succ _).trans hle
  · exact h

theorem LinkLevel.pump {n : Nat} {s : State} (h : LinkLevel n s) : LinkLevel n (pump s) := by
  unfold Machine.pump
  split
  · rename_i q rest htx _
    dsimp only
    have hrest : LinkLevel n (s.modLink fun l => { l with replies := rest }) := h.modLink _ ⟨id, id⟩ le_rfl
    split
    · exact hrest.beginFrame ..
    · have hfree : Level n 1 (s.modLink fun l => { l with replies := rest }) :=
        Level.mono hrest (by simp [Link.potential, State.modLink, htx])
      have hbegun : Level n 1 (Machine.beginFrame q.frame (actsAfter s.link) (s.modLink fun l => { l with replies := rest })) :=
        hfree.core (SameCore.beginFrame ..)
      unfold releasePlace
      split
      · exact hrest.beginFrame ..
      · split
        · rename_i hnone
          refine (hbegun.core (SameCore.modLink _ _ ⟨id, fun _ hw => absurd hnone hw⟩)).mono ?_
          simp [Link.potential, State.modLink, Machine.beginFrame]
        · refine LinkLevel.serve (s := State.modLink _ _) ?_ rfl _
          refine (hbegun.core (SameCore.modLink _ _ ⟨id, fun _ hw => absurd rfl hw⟩)).mono ?_
          simp [Link.potential, State.modLink, Machine.beginFrame]
  · exact h.startNotice

/-! ## The commands -/

theorem Parts.placeLaw {gr : Grants} {s t : State} (h : Parts gr s t) (hp : PlaceLaw s) : PlaceLaw t := by
  induction h with
  | refl => exact hp
  | tail _ hpart ih => exact hpart.linkOk.place ih

theorem LinkLevel.arrived {n : Nat} {s : State} (h : LinkLevel n s) (hp : PlaceLaw s) (r : Instr) :
    LinkLevel n (arrived r s) :=
  Level.core ((h.arrive hp r).pump) (SameCore.driveOutputs _)

theorem LinkLevel.takeChars {n : Nat} {s : State} (h : LinkLevel n s) (hp : PlaceLaw s) (cs : List Character) :
    LinkLevel n (takeChars cs s) := by
  induction cs generalizing s with
  | nil => exact h
  | cons k cs ih =>
    have hgranted : TrainGranted ⟨True, True, True, False⟩ (k :: cs) s :=
      ⟨⟨trivial, fun _ _ => trivial⟩, id, fun _ _ => trivial⟩
    refine ih ?_ ((takeChar_parts hgranted).1.placeLaw hp)
    obtain ⟨_, he⟩ | ⟨_, r, s1, rfl, rfl, ⟨_, he⟩ | ⟨f, _, he⟩⟩ := takeChar_cases s k
    · rw [he]; exact h
    · rw [he]; exact h.modLink _ ⟨id, id⟩ le_rfl
    · rw [he]
      exact LinkLevel.arrived (h.modLink _ ⟨id, id⟩ le_rfl) (by exact hp) _

/-- A limit is pending: the sum may not rise above what it is. -/
theorem Level.pending {s : State} (h : SupplyLaw s) (hp : s.supply.pending ≠ none) (k : Nat) :
    Level s.committedSum k s := by
  have heff : s.supply.effective ≤ s.committedSum := by
    obtain ⟨p, hp⟩ := Option.ne_none_iff_exists'.1 hp
    rw [Supply.effective, hp]
    exact (h.waits p hp).le
  exact ⟨h, .inr le_rfl, fun _ => ⟨le_rfl, .inr heff⟩, fun _ => heff⟩

/-- An event at the link. -/
theorem onLink_level {n : Nat} {f : State → State} {s : State} (h : LinkLevel n (f s)) (hs : Level n 0 s) :
    Level n 0 (onLink f s) := by
  unfold onLink
  split
  · exact hs
  · exact Level.core (Level.mono h.pump (Nat.zero_le _)) (SameCore.driveOutputs _)

theorem afterReset_pending {s : State} (h : Cleared s) : (afterReset s).supply.pending = none := by
  unfold afterReset
  split
  · exact Cleared.of_supplied h.supplyLaw h.pending (Steady.enterSafeDark ..).supplied
  · exact h.pending

theorem actReset_pending (sc : Scope) (s : State) : (actReset sc s).supply.pending = none := by
  cases sc
  · exact afterReset_pending (cleared_coldState s)
  · exact afterReset_pending (cleared_runState s)

theorem actReset_supplyLaw (sc : Scope) (s : State) (h : SupplyLaw s) : SupplyLaw (actReset sc s) :=
  Parts.keeps (fun _ _ hpart => hpart.supplyLaw) (actReset_parts (gr := .all) trivial sc s) h

/-- A reset leaves an idle link, but for notices. -/
theorem actReset_replies (sc : Scope) (s : State) : (actReset sc s).link.replies = [] := by
  have hafter : ∀ u : State, (afterReset u).link.replies = u.link.replies := by
    intro u
    unfold afterReset
    split
    · exact (enterSafeDark_kept ..).requests.replies
    · rfl
  cases sc <;> exact hafter _

/-- The end of a frame, with what the free transmitter takes then. -/
theorem transmitEnd_level {n : Nat} {s : State} (h : ∀ k, Level n k s) : Level n 0 (onLink endFrame s) := by
  by_cases hacts : ∃ x sc, s.link.tx = some x ∧ x.endsAt ≤ s.now ∧ x.acts = some sc
  · obtain ⟨x, sc, htx, hend, hsc⟩ := hacts
    have hreset : endFrame s = actReset sc (s.modLink fun l => { l with tx := none }) := by
      unfold endFrame
      simp only [htx, if_pos hend, hsc]
    unfold onLink
    split
    · exact h 0
    · rw [hreset, pump_no_reply (actReset_replies ..)]
      have hlaw := actReset_supplyLaw sc (s.modLink fun l => { l with tx := none })
        ((h 0).core (SameCore.modLink s _)).law
      have hdone : Level n 0 (actReset sc (s.modLink fun l => { l with tx := none })) :=
        ⟨hlaw, .inl (actReset_pending ..), fun h1 => by omega, fun h2 => by omega⟩
      exact Level.core (hdone.last_supplied ((startNotice_parts (gr := ⟨False, False, False, False⟩) _).supplied id id))
        (SameCore.driveOutputs _)
  · refine onLink_level ?_ (h 0)
    have hfree : LinkLevel n (s.modLink fun l => { l with tx := none }) := (h _).core (SameCore.modLink s _)
    unfold endFrame
    split
    · exact h _
    · rename_i x hx
      split
      · rename_i hend
        dsimp only
        split
        · exact hfree
        · rename_i sc hsc
          exact absurd ⟨x, sc, hx, hend, hsc⟩ hacts
      · exact h _

/-- An entry that is judged leaves the PLAN in service. -/
theorem takeEntry_served (s : State) : takeEntry s = s ∨ (takeEntry s).link.served ≠ none := by
  unfold takeEntry
  split
  · dsimp only
    split
    · exact .inr (by simp [answer])
    · exact .inr (by simp [State.modLink])
  · exact .inl rfl

theorem takeEntry_level {n : Nat} {s : State} (h : ∀ k, Level n k s) : LinkLevel n (takeEntry s) := by
  have hdone : Level n 1 (takeEntry s) := (h 2).supplied le_rfl
    (Parts.supplied (gr := ⟨False, False, False, False⟩) (takeEntry_parts s) id id)
  have hserved : (takeEntry s).link.served ≠ none → (takeEntry s).link.potential ≤ 1 := fun hs => by
    unfold Link.potential
    rw [if_neg hs]
    split <;> omega
  obtain heq | hs := takeEntry_served s
  · rw [heq]; exact h _
  · exact hdone.mono (hserved hs)

/-- The sum is held over every command that is not at the link. -/
theorem exec_level_event {i : Instr} {s t : State} (hi : atLink i = false) (h : exec i s = .next t) {n : Nat}
    (hs : Level n 0 s) : Level n 0 t := by
  have hgranted : ExecGranted ⟨False, True, True, True⟩ i s :=
    ⟨fun hc => Bool.false_ne_true (hi.symm.trans hc), fun _ => trivial, fun _ _ => trivial, fun _ => trivial, fun _ => trivial⟩
  have hparts := exec_parts_of hgranted h
  refine hparts.keeps (P := Level n 0) (fun u v hpart hu => ?_) hs
  obtain a | ⟨-, a⟩ | ⟨hl, -⟩ := hpart.supplied
  · exact hu.last_supplied a
  · exact .cleared a
  · exact hl.elim

/-- The sum is held over every command. -/
theorem exec_level {i : Instr} {s t : State} (h : exec i s = .next t) {n : Nat} (hs : ∀ k, Level n k s)
    (hp : PlaceLaw s) : Level n 0 t := by
  by_cases hi : atLink i = true
  · have hrequest : ∀ r, LinkLevel n (arrive r s) := fun r => LinkLevel.arrive (hs _) hp r
    cases i
    case frameArrival cs =>
      cases h
      split
      · exact hs 0
      · exact Level.mono (LinkLevel.takeChars (hs _) hp cs) (Nat.zero_le _)
    case gapLimitDiscard =>
      cases h
      refine onLink_level ?_ (hs 0)
      split
      · exact LinkLevel.modLink (hs _) _ ⟨id, id⟩ le_rfl
      · exact hs _
    case transmitEnd => cases h; exact transmitEnd_level hs
    case planEntry => cases h; exact onLink_level (takeEntry_level hs) (hs 0)
    any_goals (cases hi; done)
    all_goals cases h; exact onLink_level (hrequest _) (hs 0)
  · exact exec_level_event (by simpa using hi) h (hs 0)

/-- Settles O10: the law part by part, and the sum over the services of one command. -/
theorem stepKeepsTheSupplyLaw : Obligations.StepKeepsTheSupplyLaw := by
  refine fun s t hstep => ⟨fun hlaw => ?_, fun hlaw => ?_, fun hlaw hplace hpend htpend => ?_⟩
  · exact step_keeps (P := SupplyLaw) (fun u v hpart h => hpart.supplyLaw h) (fun u p n h => ⟨h.within, h.waits, h.fresh⟩)
      hstep hlaw
  · exact step_keeps (P := PlaceLaw) (fun u v hpart h => hpart.linkOk.place h) (fun u p n h => h) hstep hlaw
  · obtain ⟨i, p, n, -, hexec⟩ | ⟨-, rfl⟩ := step_cases hstep
    · have hstart : ∀ k, Level s.committedSum k { s with pending := p, choices := n } := fun k =>
        Level.pending (s := { s with pending := p, choices := n }) ⟨hlaw.within, hlaw.waits, hlaw.fresh⟩ hpend k
      exact (exec_level hexec hstart hplace).last.resolve_left htpend
    · unfold tick
      split <;> exact le_rfl

end Sys2Proof.Machine
end

section
/-! PROOFS. The operations of one channel leave the other channel as it is (`SameOther`), one lemma for each operation; the
operations on a head touch the channel of the head's record. -/

namespace Sys2Proof.Machine

theorem SameOther.refl (c : Chan) (s : State) : SameOther c s s := rfl

theorem SameOther.trans {c : Chan} {s t u : State} (a : SameOther c s t) (b : SameOther c t u) : SameOther c s u :=
  Eq.trans b a

theorem SameOther.setChan (c : Chan) (s : State) (x : Channel) : SameOther c s (s.setChan c x) := State.setChan_other ..
theorem SameOther.modSeq (c : Chan) (s : State) (f : Sequencer → Sequencer) : SameOther c s (s.modSeq c f) :=
  State.modSeq_other ..
theorem SameOther.modFront (c : Chan) (f : Burst → Burst) (s : State) : SameOther c s (modFront c f s) := by
  rw [modFront_eq]; exact .setChan ..
theorem SameOther.modChan (c : Chan) (s : State) (f : Channel → Channel) : SameOther c s (s.modChan c f) :=
  State.modChan_other ..
theorem SameOther.endPhase (c : Chan) (s : State) : SameOther c s (endPhase c s) := endPhase_other ..
theorem SameOther.enterTail (c : Chan) (s : State) : SameOther c s (enterTail c s) := by
  rw [enterTail_eq]; exact .setChan ..
theorem SameOther.goDark (c : Chan) (s : State) : SameOther c s (goDark c s) := goDark_other ..
theorem SameOther.setCommit (c : Chan) (v : Nat) (s : State) : SameOther c s (setCommit c v s) := setCommit_other ..
theorem SameOther.refreshFront (c : Chan) (s : State) : SameOther c s (refreshFront c s) := by
  rw [refreshFront_eq]; exact .setChan ..
theorem SameOther.removeWhere (c : Chan) (out : Burst → Bool) (s : State) : SameOther c s (removeWhere c out s) := by
  rw [removeWhere_eq]; exact .setChan ..
theorem SameOther.completeFront (c : Chan) (v : Verdict) (s : State) : SameOther c s (completeFront c v s) :=
  completeFront_other ..
theorem SameOther.chargeBurst (c : Chan) (b : Burst) (s : State) : SameOther c s (chargeBurst b s) := chargeBurst_chan ..
theorem SameOther.chargeDetached (c : Chan) (s : State) : SameOther c s (chargeDetached c s) := by
  rw [chargeDetached_eq]; exact chargeSome_chan ..
theorem SameOther.chargeFront (c : Chan) (s : State) : SameOther c s (chargeFront c s) := by
  rw [chargeFront_eq]; exact chargeSome_chan ..
theorem SameOther.flushAll (c : Chan) (s : State) : SameOther c s (flushAll c s).1 := flushAll_other ..
theorem SameOther.keepSpan (c : Chan) (s : State) : SameOther c s (keepSpan c s) := .modSeq ..
theorem SameOther.dropSpan (c : Chan) (s : State) : SameOther c s (dropSpan c s) := .modSeq ..

theorem SameOther.detachFront (c : Chan) (s : State) : SameOther c s (detachFront c s) := by
  unfold Machine.detachFront
  split
  · exact .refl ..
  · exact .modSeq ..

theorem SameOther.completeBarred (c : Chan) (s : State) : SameOther c s (completeBarred c s) := by
  unfold Machine.completeBarred
  split
  · exact .refl ..
  · split
    · split
      · exact .completeFront ..
      · exact .refl ..
    all_goals exact .refl ..

theorem SameOther.barAtArming (c : Chan) (b : Burst) (r : Reason) (s : State) : SameOther c s (barAtArming c b r s) :=
  (SameOther.modFront ..).trans (.modSeq ..)

theorem SameOther.startBurst (c : Chan) (b : Burst) (l : LeadUsed) (s : State) : SameOther c s (startBurst c b l s) :=
  (SameOther.modFront ..).trans ((SameOther.modSeq ..).trans (.setCommit ..))

theorem SameOther.arm (c : Chan) (s : State) : SameOther c s (arm c s) := by
  unfold Machine.arm
  dsimp only
  split
  · exact .refl ..
  · split
    · exact .barAtArming ..
    · split
      · exact .barAtArming ..
      all_goals
        split
        · exact .startBurst ..
        · exact .barAtArming ..

theorem SameOther.settleRest (c : Chan) (b : Burst) (s : State) : SameOther c s (settleRest c b s) := by
  unfold Machine.settleRest
  split
  · exact (SameOther.modSeq ..).trans (.setCommit ..)
  · exact .goDark ..

theorem SameOther.endTailBurst (c : Chan) (s : State) : SameOther c s (endTailBurst c s) := by
  have h : SameOther c s (s.modSeq c fun q => { q with active := .idle }) := .modSeq ..
  unfold Machine.endTailBurst
  dsimp only
  split
  · exact h
  · exact h.trans (.chargeBurst ..)
  · split
    · exact h
    · split
      · exact h.trans (.completeFront ..)
      · exact h.trans (.completeBarred ..)
      all_goals exact h

theorem SameOther.endTail (c : Chan) (s : State) : SameOther c s (endTail c s) := by
  unfold Machine.endTail
  dsimp only
  split
  · exact (SameOther.endPhase ..).trans (.goDark ..)
  · rename_i b _
    have h := (SameOther.endPhase c s).trans ((SameOther.endTailBurst c _).trans (SameOther.settleRest c b _))
    split
    · exact h.trans (.arm ..)
    · exact h

theorem SameOther.closeWindow (c : Chan) (s : State) : SameOther c s (closeWindow c s) := by
  have hmark : SameOther c s (markClosed c s) := .modChan ..
  unfold Machine.closeWindow
  split
  · exact .refl ..
  · split
    · exact (SameOther.modFront ..).trans (.enterTail ..)
    · exact (SameOther.modFront ..).trans (.enterTail ..)
    · split
      · exact hmark
      · exact hmark.trans ((SameOther.modFront ..).trans (.completeBarred ..))
    all_goals exact .refl ..

theorem SameOther.atOnceRounds (n : Nat) (c : Chan) (own : Option U16) (s : State) :
    SameOther c s (atOnceRounds n c own s) := by
  induction n generalizing s with
  | zero => exact .refl ..
  | succ n ih =>
    unfold Machine.atOnceRounds
    split
    · exact (SameOther.endTail c s).trans (ih _)
    · split
      · exact .refl ..
      · exact (SameOther.closeWindow c s).trans (ih _)

theorem SameOther.runAtOnce (c : Chan) (own : Option U16) (s : State) : SameOther c s (runAtOnce c own s) :=
  .atOnceRounds ..

theorem SameOther.tailOver (c : Chan) (s : State) : SameOther c s (tailOver c s) :=
  (SameOther.endTail c s).trans (.runAtOnce ..)

theorem SameOther.atOnce {c : Chan} {f : State → State} {s : State} (h : SameOther c s (f s)) :
    SameOther c s (atOnce c f s) := h.trans (.runAtOnce ..)

theorem SameOther.tailAtOnce (c : Chan) (s : State) : SameOther c s (tailAtOnce c s) := by
  unfold Machine.tailAtOnce
  split
  · exact .tailOver ..
  · exact .refl ..

theorem SameOther.acceptGate (c : Chan) (u : Bool) (s : State) : SameOther c s (acceptGate c u s) := by
  unfold Machine.acceptGate
  dsimp only
  split
  · exact (SameOther.endPhase ..).trans ((SameOther.modFront ..).trans (.modSeq ..))
  · exact .endPhase ..

theorem SameOther.gateRise (c : Chan) (s : State) : SameOther c s (gateRise c s) := by
  have hunplanned : SameOther c s (unplannedGate c s) := placeNotice_chan ..
  unfold Machine.gateRise
  split
  · exact hunplanned
  · split
    · split
      · exact .acceptGate ..
      · split
        · exact .acceptGate ..
        · exact (SameOther.modFront ..).trans (.enterTail ..)
      · exact .modFront ..
      all_goals exact hunplanned
    · exact hunplanned

theorem SameOther.writtenTail (c : Chan) (s : State) : SameOther c s (writtenTail c s) :=
  (SameOther.modFront ..).trans (.enterTail ..)

theorem SameOther.handOver (c : Chan) (b : Burst) (s : State) : SameOther c s (handOver c b s) :=
  (SameOther.completeFront ..).trans ((SameOther.modFront ..).trans ((SameOther.modSeq ..).trans (.setCommit ..)))

theorem SameOther.failHandOver (c : Chan) (b : Burst) (r : Reason) (s : State) : SameOther c s (failHandOver c b r s) :=
  (SameOther.modChan ..).trans (.writtenTail ..)

theorem SameOther.endWrite (c : Chan) (s : State) : SameOther c s (endWrite c s) := by
  have h : SameOther c s (Machine.modFront c (Burst.stopGate s.now) (Machine.endPhase c s)) :=
    (SameOther.endPhase c s).trans (.modFront ..)
  unfold Machine.endWrite
  dsimp only
  refine h.trans ?_
  split
  · split
    · split
      · exact .failHandOver ..
      all_goals
        split
        · exact .handOver ..
        · exact .failHandOver ..
    · exact .writtenTail ..
  · exact .writtenTail ..

theorem SameOther.gateFall (c : Chan) (s : State) : SameOther c s (gateFall c s) := by
  unfold Machine.gateFall
  split
  · exact .atOnce (.endWrite ..)
  · split
    · exact .refl ..
    · split
      · exact .atOnce ((SameOther.modFront ..).trans (.completeBarred ..))
      · exact .refl ..

theorem SameOther.barLit (c : Chan) (r : Reason) (s : State) : SameOther c s (barLit c r s) :=
  (SameOther.modFront ..).trans (.enterTail ..)

theorem SameOther.abortWrite (c : Chan) (r : Reason) (n : Nat) (s : State) : SameOther c s (abortWrite c r n s) :=
  (SameOther.modFront ..).trans (.enterTail ..)

theorem SameOther.strikeLaser (c : Chan) (r : Reason) (s : State) : SameOther c s (strikeLaser c r s) := by
  unfold Machine.strikeLaser
  split
  · exact .barLit ..
  · exact .barLit ..
  · exact .abortWrite ..
  · exact .abortWrite ..
  all_goals exact .refl ..

theorem SameOther.releaseFront (c : Chan) (s : State) : SameOther c s (releaseFront c s) := by
  unfold Machine.releaseFront
  split
  · exact .detachFront ..
  · exact .refl ..

theorem SameOther.chargeEnded (c : Chan) (s : State) : SameOther c s (chargeEnded c s) := by
  unfold Machine.chargeEnded
  split
  · exact .refl ..
  · exact .chargeFront ..

theorem SameOther.endBiasOn (c : Chan) (h : Fin 24) (s : State) : SameOther c s (endBiasOn c h s) := by
  unfold Machine.endBiasOn
  dsimp only
  split
  · exact .goDark ..
  · exact .refl ..

theorem SameOther.darkenHeadOn (h : Fin 24) (c : Chan) (s : State) : SameOther c s (darkenHeadOn h c s) := by
  unfold Machine.darkenHeadOn
  split
  · exact (SameOther.endPhase ..).trans ((SameOther.chargeDetached ..).trans (.goDark ..))
  · exact .refl ..

theorem SameOther.seeLight (c : Chan) (n : Nat) (s : State) : SameOther c s (seeLight c n s) := by
  have hseen : SameOther c s (s.modSeq c fun p => { p with light := .seen }) := .modSeq ..
  unfold Machine.seeLight
  dsimp only
  split
  · refine hseen.trans ?_
    unfold modActive
    split
    · exact .refl ..
    · exact .modFront ..
    · exact .modSeq ..
  · exact hseen

theorem SameOther.lightRecognised (c : Chan) (n : Nat) (s : State) : SameOther c s (lightRecognised c n s) := by
  unfold Machine.lightRecognised
  split
  · exact .seeLight ..
  all_goals exact .refl ..

theorem SameOther.endPreheat (c : Chan) (s : State) : SameOther c s (endPreheat c s) :=
  (SameOther.endPhase ..).trans ((SameOther.modFront ..).trans (.modSeq ..))

theorem SameOther.endBoost (c : Chan) (s : State) : SameOther c s (endBoost c s) :=
  (SameOther.endPhase ..).trans (.modSeq ..)

theorem SameOther.anchorEvent (c : Chan) (a : Anchor) (s : State) : SameOther c s (anchorEvent c a s) := by
  have hcount : ∀ s : State, SameOther c s (if (s.chan c).seq.laser = .bias ∧ (s.chan c).config.biasHold ≠ 0 then
      s.modSeq c fun q => { q with biasCount := min (q.biasCount + 1) Config.max16 } else s) := by
    intro s
    split
    · exact .modSeq ..
    · exact .refl ..
  have h := (SameOther.modChan c s fun x => { x with gate := regate x a }).trans (hcount _)
  unfold Machine.anchorEvent
  dsimp only
  split
  · exact h.trans (.runAtOnce ..)
  · exact h

theorem SameOther.cancelFront (c : Chan) (s : State) : SameOther c s (cancelFront c s) := by
  unfold Machine.cancelFront
  split
  · exact .refl ..
  · split
    · exact (SameOther.enterTail ..).trans (.detachFront ..)
    · exact (SameOther.enterTail ..).trans (.detachFront ..)
    · exact (SameOther.chargeEnded ..).trans (.releaseFront ..)
    all_goals exact .refl ..

theorem SameOther.cancelOn (c : Chan) (sel : Burst → Bool) (s : State) : SameOther c s (cancelOn c sel s).1 := by
  unfold Machine.cancelOn
  dsimp only
  split
  · exact .atOnce ((SameOther.cancelFront ..).trans (.removeWhere ..))
  · exact .removeWhere ..

/-! ## The operations on a head -/

theorem SameOther.flushHead (h : Fin 24) (s : State) : SameOther s.heads[h].channel s (flushHead h s).1 := by
  unfold Machine.flushHead
  dsimp only
  refine SameOther.trans ?_ (.removeWhere ..)
  split
  · exact .releaseFront ..
  · exact .refl ..

theorem SameOther.chargeFlushed (h : Fin 24) (s : State) : SameOther s.heads[h].channel s (chargeFlushed h s) := by
  unfold Machine.chargeFlushed
  dsimp only
  split
  · exact .chargeEnded ..
  · exact .refl ..

theorem SameOther.setHead (c : Chan) (h : Fin 24) (r : Head) (s : State) : SameOther c s (s.setHead h r) :=
  State.setHead_chan ..

theorem setHead_channel {s : State} {h : Fin 24} {r : Head} (hr : r.channel = s.heads[h].channel) (k : Fin 24) :
    (s.setHead h r).heads[k].channel = s.heads[k].channel := by
  by_cases hk : k = h
  · subst hk
    rw [State.setHead_heads, heads_set_same, hr]
  · rw [State.setHead_heads, heads_set_ne _ _ _ _ hk]

theorem SameOther.enterFault (h : Fin 24) (k : FaultCause) (s : State) :
    SameOther s.heads[h].channel s (enterFault h k s) := by
  unfold Machine.enterFault
  dsimp only
  split
  · have hset := setHead_channel (s := s) (h := h) (r := { s.heads[h] with state := .fault k }) rfl h
    have hcharged : (Machine.chargeFlushed h (s.setHead h { s.heads[h] with state := .fault k })).heads[h].channel =
        s.heads[h].channel := ((Steady.chargeFlushed h _).heads h).channel.trans hset
    have h1 := SameOther.chargeFlushed h (s.setHead h { s.heads[h] with state := .fault k })
    have h2 := SameOther.flushHead h (Machine.chargeFlushed h (s.setHead h { s.heads[h] with state := .fault k }))
    rw [hset] at h1
    rw [hcharged] at h2
    exact (SameOther.setHead ..).trans (h1.trans (h2.trans ((SameOther.endBiasOn ..).trans (placeNotice_chan ..))))
  · exact .refl ..

theorem SameOther.addStrike (h : Fin 24) (s : State) : SameOther s.heads[h].channel s (addStrike h s) := by
  unfold Machine.addStrike
  dsimp only
  split
  · have hset := setHead_channel (s := s) (h := h)
      (r := { s.heads[h] with strikes := min (s.heads[h].strikes + 1) 7 }) rfl h
    have hfault := SameOther.enterFault h .dropout
      (s.setHead h { s.heads[h] with strikes := min (s.heads[h].strikes + 1) 7 })
    rw [hset] at hfault
    exact (SameOther.setHead ..).trans hfault
  · exact .setHead ..

end Sys2Proof.Machine
end

section
/-! PROOFS. Channels without lock and in Safe Dark, the Safety Timer, and the end of Safe Dark (R67, R151, R154, R158, R162). -/

namespace Sys2Proof.Machine

/-! ## An empty channel stays empty -/

/-- The queue is empty and the laser is DARK. -/
def Channel.Idle (x : Channel) : Prop := x.queue = [] ∧ x.seq.laser = .dark

theorem Channel.Idle.of_ages {x y : Channel} (h : x.Idle) (a : Ages x y) (hl : y.seq.laser = .dark) : y.Idle := by
  have hcores := a.queue.cores
  rw [h.1] at hcores
  exact ⟨List.map_eq_nil_iff.1 (List.sublist_nil.1 hcores), hl⟩

theorem SameOther.chan {c d : Chan} {s t : State} (h : SameOther c s t) (hd : d ≠ c) : t.chan d = s.chan d := by
  obtain rfl | rfl := Chan.eq_or_other c d
  · exact absurd rfl hd
  · exact h

theorem flushHead_idle {h : Fin 24} {s : State} {d : Chan} (hi : (s.chan d).Idle) : ((flushHead h s).1.chan d).Idle := by
  by_cases hd : d = s.heads[h].channel
  · subst hd
    refine hi.of_ages ((Steady.flushHead h s).ages _) ?_
    have hfront : (s.front s.heads[h].channel).any (flushedWithHead h) = false := by rw [State.front, hi.1]; rfl
    unfold flushHead
    dsimp only
    rw [if_neg (by rw [hfront]; exact Bool.false_ne_true), removeWhere_eq, State.setChan_chan, without_seq]
    exact hi.2
  · rw [(SameOther.flushHead h s).chan hd]
    exact hi

theorem endBiasOn_idle {c : Chan} {h : Fin 24} {s : State} {d : Chan} (hi : (s.chan d).Idle) :
    ((endBiasOn c h s).chan d).Idle := by
  by_cases hd : d = c
  · subst hd
    unfold endBiasOn
    dsimp only
    rw [if_neg (by simp [hi.2])]
    exact hi
  · rw [(SameOther.endBiasOn c h s).chan hd]
    exact hi

theorem enterFault_idle {h : Fin 24} {k : FaultCause} {s : State} {d : Chan} (hi : (s.chan d).Idle) :
    ((enterFault h k s).chan d).Idle := by
  unfold enterFault
  dsimp only
  split
  · rw [placeNotice_chan]
    refine endBiasOn_idle (flushHead_idle ?_)
    unfold chargeFlushed chargeEnded
    dsimp only
    split
    · split
      · rwa [State.setHead_chan]
      · rw [chargeFront_eq, chargeSome_chan, State.setHead_chan]; exact hi
    · rwa [State.setHead_chan]
  · exact hi

theorem addStrike_idle {h : Fin 24} {s : State} {d : Chan} (hi : (s.chan d).Idle) : ((addStrike h s).chan d).Idle := by
  unfold addStrike
  dsimp only
  split
  · exact enterFault_idle (by rwa [State.setHead_chan])
  · rwa [State.setHead_chan]

theorem dropSpan_idle {c d : Chan} {s : State} (hi : (s.chan d).Idle) : ((dropSpan c s).chan d).Idle := by
  obtain rfl | rfl := Chan.eq_or_other c d
  · rw [dropSpan, State.modSeq_chan]; exact hi
  · rw [(SameOther.dropSpan c s)]; exact hi

theorem owedDropout_idle {c d : Chan} {n : Nat} {s : State} (hi : (s.chan d).Idle) :
    ((owedDropout c n s).chan d).Idle := by
  unfold owedDropout
  split
  · exact hi
  · dsimp only
    split
    · exact addStrike_idle (dropSpan_idle hi)
    · exact dropSpan_idle hi

/-- On a channel with no burst and a DARK laser nothing follows at once. -/
theorem runAtOnce_idle {c : Chan} {s : State} (own : Option U16) (hi : (s.chan c).Idle) : runAtOnce c own s = s := by
  have hzero : zeroTail (s.chan c).seq = false := by simp [zeroTail, hi.2]
  have hclose : dueClose c s = none := by
    unfold dueClose
    rw [State.front, hi.1]
    split <;> rfl
  unfold runAtOnce atOnceRounds
  rw [if_neg (by simp [hzero]), if_pos (.inl hclose)]

/-- What follows at once on channel `c` keeps an empty channel empty. -/
theorem atOnce_idle {c d : Chan} {f : State → State} {s : State} (hi : ((f s).chan d).Idle) :
    ((atOnce c f s).chan d).Idle := by
  unfold atOnce
  dsimp only
  by_cases hd : d = c
  · subst hd
    rw [runAtOnce_idle _ hi]
    exact hi
  · rw [(SameOther.runAtOnce c _ _).chan hd]
    exact hi

theorem tailAtOnce_dark {c : Chan} {s : State} (h : (s.chan c).seq.laser = .dark) : tailAtOnce c s = s :=
  if_neg (by simp [zeroTail, h])

/-- A lit or due event of a channel finds a burst or a laser that is not DARK. -/
theorem phaseDue_laser {l : LaserState} {q : Sequencer} {n : Nat} (h : phaseDue l q n = true) : q.laser = l := by
  simp only [phaseDue, Bool.and_eq_true, beq_iff_eq] at h
  exact h.1

theorem park_idle {b : Byte} {s : State} {d : Chan} (hi : (s.chan d).Idle) :
    ((servePark (.fits b) s).1.chan d).Idle := by
  simp only [servePark, withHeadState]
  split
  · exact hi
  · rename_i h _
    split
    · have hact : ((endBiasOn s.heads[h].channel h
          (flushHead h (s.setHead h { s.heads[h] with state := .parked })).1).chan d).Idle :=
        endBiasOn_idle (flushHead_idle (by rwa [State.setHead_chan]))
      dsimp only
      split
      · exact atOnce_idle hact
      · exact hact
    · exact hi

/-- An event of channel `c` finds nothing to do on it when it is empty and DARK. -/
theorem ChanEvent.idle_self {c : Chan} {s t : State} (h : ChanEvent c s t) (hi : (s.chan c).Idle) : (t.chan c).Idle := by
  obtain ⟨hq, hl⟩ := hi
  have hfront : s.front c = none := by rw [State.front, hq]; rfl
  cases h with
  | guard s =>
    have hstrike : strikeLaser c .guard s = s := by simp [strikeLaser, hl]
    rw [hstrike, tailAtOnce_dark hl]
    exact ⟨hq, hl⟩
  | light n s =>
    refine Channel.Idle.of_ages ⟨hq, hl⟩ ((Steady.lightRecognised c n s).ages c) ?_
    unfold lightRecognised seeLight modActive
    split
    · dsimp only
      split
      · split <;> simp [State.modSeq_chan, modFront_eq, hl]
      · simp [State.modSeq_chan, hl]
    all_goals exact hl
  | lightLost n s =>
    have hdrop : dropsOut (s.chan c).seq = false := by simp [dropsOut, hl]
    rw [Machine.lightLost, if_neg (by simp [hdrop])]
    exact owedDropout_idle ⟨hq, hl⟩
  | gateRise s =>
    have hrise : (Machine.gateRise c s).chan c = s.chan c := by
      unfold Machine.gateRise
      rw [hfront]
      exact placeNotice_chan ..
    rw [tailAtOnce_dark (by rw [hrise, hl]), hrise]
    exact ⟨hq, hl⟩
  | gateFall s =>
    have hfall : Machine.gateFall c s = s := by
      unfold Machine.gateFall
      rw [if_neg (by simp [hl, LaserState.writing]), hfront]
    rw [hfall]
    exact ⟨hq, hl⟩
  | arming s due =>
    obtain ⟨b, g, hb, -⟩ := armDue_front due
    rw [hfront] at hb
    cases hb
  | preheatEnd s due => rw [phaseDue_laser due] at hl; cases hl
  | windowClose s due => simp [closeDue, hq] at due
  | boostEnd s due => rw [phaseDue_laser due] at hl; cases hl
  | overrun n s due => rw [hl] at due; cases due
  | tailEnd s due => rw [phaseDue_laser due] at hl; cases hl
  | lightAbsent s due =>
    unfold lightDue at due
    split at due
    · simp [hl, LaserState.lit] at due
    · cases due
    · cases due
  | owedAbsent s =>
    unfold Machine.owedAbsent
    split
    · exact ⟨hq, hl⟩
    · exact atOnce_idle (enterFault_idle (dropSpan_idle ⟨hq, hl⟩))
  | biasHold s due => rw [goDark_chan]; exact ⟨hq, rfl⟩
  | cancel sel s blind =>
    refine Channel.Idle.of_ages ⟨hq, hl⟩ ((Steady.cancelOn c sel s).ages c) ?_
    unfold cancelOn
    dsimp only
    rw [if_neg (by simp [hq]), removeWhere_eq, State.setChan_chan, without_seq]
    exact hl
  | park b s => exact park_idle ⟨hq, hl⟩
  | anchor a s =>
    have hnone : reanchors (s.chan c) a = false := by simp [reanchors, hq]
    refine Channel.Idle.of_ages ⟨hq, hl⟩ ((Steady.anchorEvent c a s).ages c) ?_
    unfold anchorEvent
    dsimp only
    rw [if_neg (by simp [hnone])]
    rw [if_neg (by simp [hl]), State.modChan_chan]
    exact hl

/-- An event of channel `c` keeps the other channel empty, though a fault or a PARK may touch it. -/
theorem ChanEvent.idle_other {c : Chan} {s t : State} (h : ChanEvent c s t) {d : Chan} (hd : d ≠ c)
    (hi : (s.chan d).Idle) : (t.chan d).Idle := by
  have hfar : SameOther c s t → (t.chan d).Idle := fun h => by rw [h.chan hd]; exact hi
  cases h with
  | guard s => exact hfar ((SameOther.strikeLaser ..).trans (.tailAtOnce ..))
  | light n s => exact hfar (.lightRecognised ..)
  | lightLost n s =>
    unfold Machine.lightLost
    split
    · refine atOnce_idle ?_
      have hstrike : ((strikeLaser c .lightLoss s).chan d).Idle := by
        rw [(SameOther.strikeLaser c _ s).chan hd]; exact hi
      unfold dropout
      dsimp only
      split
      · exact hstrike
      · exact addStrike_idle hstrike
    · exact owedDropout_idle hi
  | gateRise s => exact hfar ((SameOther.gateRise ..).trans (.tailAtOnce ..))
  | gateFall s => exact hfar (.gateFall ..)
  | arming s due => exact hfar (.atOnce (.arm ..))
  | preheatEnd s due => exact hfar (.endPreheat ..)
  | windowClose s due => exact hfar (.atOnce (.closeWindow ..))
  | boostEnd s due => exact hfar (.endBoost ..)
  | overrun n s due => exact hfar (.atOnce (.abortWrite ..))
  | tailEnd s due => exact hfar (.tailOver ..)
  | lightAbsent s due =>
    refine atOnce_idle ?_
    have hdark : SameOther c s (goDark c (endPhase c s)) := (SameOther.endPhase ..).trans (.goDark ..)
    have hkept : ∀ u, SameOther c s u → (u.chan d).Idle := fun u h => by rw [h.chan hd]; exact hi
    unfold Machine.lightAbsent
    dsimp only
    split
    · exact hkept _ hdark
    · refine enterFault_idle (hkept _ (hdark.trans ?_))
      split
      · exact .refl ..
      · exact .chargeBurst ..
      · split
        · exact .completeFront ..
        · exact .completeFront ..
        · exact (SameOther.modFront ..).trans (.completeFront ..)
        · exact .completeFront ..
        all_goals exact .refl ..
  | owedAbsent s =>
    unfold Machine.owedAbsent
    split
    · exact hi
    · exact atOnce_idle (enterFault_idle (dropSpan_idle hi))
  | biasHold s due => exact hfar (.goDark ..)
  | cancel sel s blind => exact hfar (.cancelOn ..)
  | park b s => exact park_idle hi
  | anchor a s => exact hfar (.anchorEvent ..)

theorem ChanEvent.idle {c : Chan} {s t : State} (h : ChanEvent c s t) (d : Chan) (hi : (s.chan d).Idle) :
    (t.chan d).Idle := by
  by_cases hd : d = c
  · subst hd; exact h.idle_self hi
  · exact h.idle_other hd hi

/-! ## Channels without lock and in Safe Dark -/

theorem darkLaw_iff {s : State} :
    DarkLaw s ↔ ∀ c, s.safe.isSome = true ∨ (s.chan c).tracker.synced = false → (s.chan c).Idle := Iff.rfl

/-- A channel whose tracker is as it was and that stays empty, with Safe Dark as it was. -/
theorem DarkLaw.of_idle {s t : State} (h : DarkLaw s) (hsafe : t.safe = s.safe)
    (ht : ∀ c, (t.chan c).tracker.synced = false → (s.chan c).tracker.synced = false)
    (hi : ∀ c, (s.chan c).Idle → (t.chan c).Idle) : DarkLaw t := by
  rw [darkLaw_iff] at h ⊢
  rw [hsafe]
  exact fun c hc => hi c (h c (hc.imp_right (ht c)))

theorem darkenHeadOn_idle {c d : Chan} {h : Fin 24} {s : State} (hi : (s.chan d).Idle) :
    ((darkenHeadOn h c s).chan d).Idle := by
  refine hi.of_ages ((Steady.darkenHeadOn h c s).ages d) ?_
  obtain rfl | rfl := Chan.eq_or_other c d
  · unfold darkenHeadOn
    split
    · rw [goDark_chan]; rfl
    · exact hi.2
  · rw [(SameOther.darkenHeadOn h c s)]; exact hi.2

theorem darkenHead_idle {d : Chan} {h : Fin 24} {s : State} (hi : (s.chan d).Idle) : ((darkenHead h s).chan d).Idle :=
  darkenHeadOn_idle (darkenHeadOn_idle hi)

theorem flushed_idle (x : Channel) (n : Nat) : (x.flushed n).Idle := ⟨rfl, rfl⟩

/-- Safe Dark flushes and darkens both channels (R159). -/
theorem enterSafeDark_idle {k : SafeCause} {s : State} (h : s.safe = none) (d : Chan) :
    ((enterSafeDark k s).chan d).Idle := by
  have hflushed : ∀ u, ((flushAll .c1 (flushAll .c0 u).1).1.chan d).Idle := by
    intro u
    cases d with
    | c0 =>
      rw [show Chan.c0 = Chan.c1.other from rfl, flushAll_other, show Chan.c1.other = Chan.c0 from rfl, flushAll_chan]
      exact flushed_idle ..
    | c1 => rw [flushAll_chan]; exact flushed_idle ..
  unfold enterSafeDark
  rw [if_neg (by simp [h]), placeNotice_chan]
  cases d with
  | c0 => exact hflushed _
  | c1 => exact hflushed _

theorem judgeEntry_chan {e : PlanEntry} {s : State} {d : Chan} :
    ((judgeEntry e s).1.chan d).seq = (s.chan d).seq ∧ ((judgeEntry e s).1.chan d).tracker = (s.chan d).tracker ∧
      ((s.chan d).tracker.synced = false → ((judgeEntry e s).1.chan d).queue = (s.chan d).queue) := by
  obtain heq | ⟨j, a, p, k, hadmits, heq⟩ := judgeEntry_cases e s
  · rw [heq]; exact ⟨rfl, rfl, fun _ => rfl⟩
  · rw [heq, admitBurst_chan rfl, show (entryBurst s e j a p).channel = j.channel from rfl]
    obtain rfl | rfl := Chan.eq_or_other j.channel d
    · rw [State.setChan_chan]
      exact ⟨rfl, rfl, fun hs => absurd (hs.symm.trans hadmits.synced) (by simp)⟩
    · rw [State.setChan_other]
      exact ⟨rfl, rfl, fun _ => rfl⟩

theorem judgeEntry_safe (e : PlanEntry) (s : State) : (judgeEntry e s).1.safe = s.safe ∧ (judgeEntry e s).1.safety = s.safety := by
  obtain heq | ⟨j, a, p, k, -, heq⟩ := judgeEntry_cases e s
  · rw [heq]; exact ⟨rfl, rfl⟩
  · rw [heq]
    obtain ⟨-, -, h1, h2⟩ := admitBurst_rest (b := entryBurst s e j a p) rfl k s
    exact ⟨h2, h1⟩

/-- With Safe Dark entered no entry is admitted (R15). -/
theorem judgeEntry_dark {e : PlanEntry} {s : State} (h : s.safe.isSome = true) : (judgeEntry e s).1 = s := by
  rw [judgeEntry, if_pos h]

theorem Part.darkLaw {gr : Grants} {s t : State} (hpart : Part gr s t) (h : DarkLaw s) : DarkLaw t := by
  have hset : ∀ c t, (t.synced = false → (s.chan c).tracker.synced = false) → DarkLaw (setTracker c t s) := by
    intro c t ht
    refine h.of_idle (State.modChan_safe ..) (fun d hd => ?_) (fun d hd => ?_)
    · obtain rfl | rfl := Chan.eq_or_other c d
      · rw [setTracker_chan] at hd; exact ht hd
      · rwa [setTracker_other] at hd
    · exact ⟨(setTracker_queue ..).trans hd.1, by rw [setTracker_seq]; exact hd.2⟩
  cases hpart with
  | core same =>
    refine h.of_idle same.safe (fun c hc => by rwa [(same.seats c).tracker] at hc) fun c hc => ?_
    obtain ⟨v, l, hseq⟩ := (same.seats c).seq
    exact ⟨(same.seats c).queue.trans hc.1, by rw [hseq]; exact hc.2⟩
  | event c he =>
    refine h.of_idle he.calm.tables.safe (fun d hd => ?_) he.idle
    rwa [(he.steady.ages d).tracker] at hd
  | tracker c t s old new synced =>
    refine hset c t fun ht => ?_
    by_contra hs
    exact absurd (ht.symm.trans (synced (by simpa using hs))) (by simp)
  | lost c k t s old new =>
    refine darkLaw_iff.2 fun d hd => ?_
    obtain rfl | rfl := Chan.eq_or_other c d
    · rw [loseReference_chan]; exact flushed_idle ..
    · rw [loseReference_other] at hd ⊢
      exact darkLaw_iff.1 h _ (hd.imp_left fun hs => by rwa [(Calm.loseReference c k t s).tables.safe] at hs)
  | config c g s off =>
    refine h.of_idle (State.modChan_safe ..) (fun d hd => ?_) (fun d hd => ?_)
    all_goals obtain rfl | rfl := Chan.eq_or_other c d
    · rwa [State.modChan_chan] at hd
    · rwa [State.modChan_other] at hd
    · rw [State.modChan_chan]; exact hd
    · rwa [State.modChan_other]
  | online c s off =>
    have hacq := hset c (acquiringTracker (s.chan c).config.pnom) fun _ => offline_unsynced off
    have hsafe : (bringOnline c s).safe = (setTracker c (acquiringTracker (s.chan c).config.pnom) s).safe := by
      unfold bringOnline
      dsimp only
      split <;> rfl
    rw [darkLaw_iff] at hacq ⊢
    intro d
    rw [bringOnline_chan, hsafe]
    exact hacq d
  | offline c s on =>
    refine darkLaw_iff.2 fun d hd => ?_
    have hsafe : (takeOffline c s).safe = s.safe := by
      have hcalm := ((Calm.setTracker c (offTracker (s.chan c).config.pnom) s).trans (Calm.flushAll c _)).tables.safe
      unfold takeOffline
      dsimp only
      split <;> exact hcalm
    obtain rfl | rfl := Chan.eq_or_other c d
    · rw [takeOffline_chan, flushAll_chan]; exact flushed_idle ..
    · rw [takeOffline_chan, flushAll_other, setTracker_other] at hd ⊢
      rw [hsafe] at hd
      exact darkLaw_iff.1 h _ hd
  | limit v s granted =>
    refine h.of_idle (by rw [applyLimit_eq]) (fun d hd => ?_) fun d hd => ?_
    · rwa [applyLimit_chan] at hd
    · rwa [applyLimit_chan]
  | headSet k f c s free =>
    refine h.of_idle ((Calm.setHead s k _).trans (Calm.darkenHead k _)).tables.safe (fun d hd => ?_) fun d hd => ?_
    · rwa [((Steady.darkenHead k _).ages d).tracker, State.setHead_chan] at hd
    · exact darkenHead_idle (by rwa [State.setHead_chan])
  | retire k s free =>
    refine h.of_idle ((Calm.setHead s k _).trans (Calm.darkenHead k _)).tables.safe (fun d hd => ?_) fun d hd => ?_
    · rwa [((Steady.darkenHead k _).ages d).tracker, State.setHead_chan] at hd
    · exact darkenHead_idle (by rwa [State.setHead_chan])
  | wear k s =>
    refine h.of_idle (wearTest_safe ..) (fun d hd => ?_) fun d hd => ?_
    · rwa [wearTest_chan] at hd
    · rwa [wearTest_chan]
  | ready k n s le =>
    refine h.of_idle rfl (fun d hd => ?_) fun d hd => ?_
    · rwa [State.setHead_chan] at hd
    · rwa [State.setHead_chan]
  | leak s =>
    have hchan : ∀ d, (Machine.leak s).chan d = s.chan d := fun d => by
      cases d <;> simp only [State.chan_c0, State.chan_c1, Machine.leak]
    refine h.of_idle (by simp only [Machine.leak]) (fun d hd => ?_) fun d hd => ?_
    · rwa [hchan] at hd
    · rwa [hchan]
  | timer t s moved => exact h.of_idle rfl (fun c hc => by cases c <;> exact hc) fun c hc => by cases c <;> exact hc
  | safeDark k s =>
    by_cases hs : s.safe = none
    · exact darkLaw_iff.2 fun d _ => enterSafeDark_idle hs d
    · rw [enterSafeDark, if_pos (Option.isSome_iff_ne_none.2 hs)]; exact h
  | resume s flagged low granted =>
    have hidle : ∀ d, (s.chan d).Idle := fun d => h d (.inl (Option.isSome_iff_ne_none.2 flagged))
    have hchan : ∀ d, (resumed s).chan d = s.chan d := fun d => by
      unfold resumed
      dsimp only
      split <;> cases d <;> rfl
    exact darkLaw_iff.2 fun d _ => by rw [hchan]; exact hidle d
  | supflt v s granted => exact h.of_idle rfl (fun c hc => by cases c <;> exact hc) fun c hc => by cases c <;> exact hc
  | judged e s =>
    by_cases hs : s.safe.isSome = true
    · rw [judgeEntry_dark hs]; exact h
    · refine darkLaw_iff.2 fun d hd => ?_
      obtain ⟨hseq, htracker, hqueue⟩ := judgeEntry_chan (e := e) (s := s) (d := d)
      rw [(judgeEntry_safe e s).1, htracker] at hd
      have hun := hd.resolve_left hs
      obtain ⟨hq, hl⟩ := darkLaw_iff.1 h d hd
      exact ⟨(hqueue hun).trans hq, by rw [hseq]; exact hl⟩
  | cold s granted => exact darkLaw_iff.2 fun d _ => ⟨coldState_queue s d, by cases d <;> rfl⟩
  | run s granted => exact darkLaw_iff.2 fun d _ => ⟨runState_queue s d, by cases d <;> rfl⟩

/-! ## The Safety Timer -/

/-- A change of neither the timer, Safe Dark nor which channels are online. -/
theorem TimerLaw.of_same {s t : State} (h : TimerLaw s) (hsafety : t.safety = s.safety) (hsafe : t.safe = s.safe)
    (ho : ∀ c, (t.chan c).online = (s.chan c).online) : TimerLaw t where
  period := by rw [hsafety]; exact h.period
  pointer := by rw [hsafety]; exact h.pointer
  offline h0 h1 := by rw [hsafety]; exact h.offline ((ho .c0).symm.trans h0) ((ho .c1).symm.trans h1)
  safe hs := by rw [hsafety]; rw [hsafe] at hs; exact h.safe hs
  runs hon hs := by
    rw [hsafety]
    rw [hsafe] at hs
    exact h.runs (hon.imp (fun h0 => (ho .c0).symm.trans h0) fun h1 => (ho .c1).symm.trans h1) hs
  warned := by rw [hsafety]; exact h.warned

/-- The clauses of `TimerLaw` by channel. -/
theorem TimerLaw.of_chan {t : State} (period : 2 ≤ t.safety.period ∧ t.safety.period ≤ 2000)
    (pointer : t.safety.state = .stopped → t.safety.pointer = .a)
    (offline : (∀ c, (t.chan c).online = false) → t.safety.state = .stopped)
    (safe : t.safe.isSome = true → t.safety.state = .stopped)
    (runs : (∃ c, (t.chan c).online = true) → t.safe = none → t.safety.state ≠ .stopped)
    (warned : t.safety.state = .warned → effectiveWindow t.safety.period t.safety.window = .open100) : TimerLaw t where
  period := period
  pointer := pointer
  offline h0 h1 := offline fun c => by cases c <;> assumption
  safe := safe
  runs h := runs (h.elim (fun h0 => ⟨.c0, h0⟩) fun h1 => ⟨.c1, h1⟩)
  warned := warned

theorem TimerLaw.runs_of {s : State} (h : TimerLaw s) {c : Chan} (hc : (s.chan c).online = true) (hs : s.safe = none) :
    s.safety.state ≠ .stopped := by
  cases c
  · exact h.runs (.inl hc) hs
  · exact h.runs (.inr hc) hs

theorem online_of_ages {x y : Channel} (a : Ages x y) : y.online = x.online := by
  unfold Channel.online; rw [a.tracker]

theorem online_iff {x : Channel} : x.online = true ↔ x.tracker.state ≠ .off := by simp [Channel.online]

theorem synced_online {x : Channel} (h : x.tracker.synced = true) : x.online = true := by
  rw [online_iff]
  intro hoff
  simp [Tracker.synced, hoff] at h

/-- A tracker that stays online. -/
theorem setTracker_online {c : Chan} {t : Tracker} {s : State} (old : (s.chan c).online = true) (new : t.state ≠ .off)
    (d : Chan) : ((setTracker c t s).chan d).online = (s.chan d).online := by
  obtain rfl | rfl := Chan.eq_or_other c d
  · rw [setTracker_chan, old]
    exact online_iff.2 new
  · rw [setTracker_other]

/-- The timer once it is stopped is lawful where no channel is online or Safe Dark is set (R154, R159). -/
theorem TimerLaw.stopped {s t : State} (h : TimerLaw s) (ht : t.safety = s.safety.stop)
    (hoff : (∀ c, (t.chan c).online = false) ∨ t.safe.isSome = true) : TimerLaw t := by
  refine .of_chan ?_ ?_ (fun _ => ?_) (fun _ => ?_) (fun ⟨c, hc⟩ hs => ?_) fun hw => ?_
  · rw [ht]; exact h.period
  · rw [ht]; exact fun _ => rfl
  · rw [ht]; rfl
  · rw [ht]; rfl
  · obtain hoff | hoff := hoff
    · rw [hoff c] at hc; cases hc
    · rw [hs] at hoff; cases hoff
  · rw [ht] at hw; cases hw

/-- The timer once it is started is lawful where a channel is online and Safe Dark is clear (R154, R162). -/
theorem TimerLaw.started {s t : State} (h : TimerLaw s) {n : Nat} (ht : t.safety = s.safety.start n)
    (hon : ∃ c, (t.chan c).online = true) (hs : t.safe = none) : TimerLaw t := by
  refine .of_chan ?_ (fun hp => ?_) (fun hoff => ?_) (fun hsome => ?_) (fun _ _ hp => ?_) fun hw => ?_
  · rw [ht]; exact h.period
  · rw [ht] at hp; cases hp
  · obtain ⟨c, hc⟩ := hon
    rw [hoff c] at hc; cases hc
  · rw [hs] at hsome; cases hsome
  · rw [ht] at hp; cases hp
  · rw [ht] at hw; cases hw

theorem Steady.timerLaw {s t : State} (a : Steady s t) (h : TimerLaw s) (hsafety : t.safety = s.safety)
    (hsafe : t.safe = s.safe) : TimerLaw t :=
  h.of_same hsafety hsafe fun c => online_of_ages (a.ages c)

theorem TimerLaw.enterSafeDark {s : State} (h : TimerLaw s) (k : SafeCause) : TimerLaw (enterSafeDark k s) := by
  unfold Machine.enterSafeDark
  split
  · exact h
  · have hcalm := (Calm.flushAll .c0 { s with safe := some k }).trans (Calm.flushAll .c1 _)
    refine TimerLaw.stopped h ?_ (.inr ?_)
    · rw [placeNotice_safety]
      exact congrArg SafetyTimer.stop hcalm.tables.safety
    · rw [placeNotice_safe]
      exact congrArg Option.isSome hcalm.tables.safe

theorem TimerLaw.bringOnline {s : State} (h : TimerLaw s) (c : Chan) : TimerLaw (bringOnline c s) := by
  have hon : ((Machine.bringOnline c s).chan c).online = true := by
    rw [bringOnline_chan, setTracker_chan]; rfl
  have hother : ((Machine.bringOnline c s).chan c.other).online = (s.chan c.other).online := by
    rw [bringOnline_chan, setTracker_other]
  have hsafety := (Calm.setTracker c (acquiringTracker (s.chan c).config.pnom) s).tables.safety
  have hsafe := (Calm.setTracker c (acquiringTracker (s.chan c).config.pnom) s).tables.safe
  by_cases hstart : (!(s.chan c.other).online && s.safe.isNone) = true
  · have heq : Machine.bringOnline c s = { setTracker c (acquiringTracker (s.chan c).config.pnom) s with
        safety := (setTracker c (acquiringTracker (s.chan c).config.pnom) s).safety.start s.now } := if_pos hstart
    simp only [Bool.and_eq_true, Bool.not_eq_true', Option.isNone_iff_eq_none] at hstart
    refine h.started (n := s.now) ?_ ⟨c, hon⟩ ?_
    · rw [heq, hsafety]
    · rw [heq]; exact hsafe.trans hstart.2
  · have heq : Machine.bringOnline c s = setTracker c (acquiringTracker (s.chan c).config.pnom) s := if_neg hstart
    have hsafety' : (Machine.bringOnline c s).safety = s.safety := by rw [heq, hsafety]
    have hsafe' : (Machine.bringOnline c s).safe = s.safe := by rw [heq, hsafe]
    refine .of_chan ?_ ?_ (fun hoff => ?_) ?_ (fun _ hs => ?_) ?_
    · rw [hsafety']; exact h.period
    · rw [hsafety']; exact h.pointer
    · rw [hoff c] at hon; cases hon
    · rw [hsafety', hsafe']; exact h.safe
    · rw [hsafe'] at hs
      rw [hsafety']
      refine h.runs_of (c := c.other) ?_ hs
      by_contra hoff
      simp [hs, hoff] at hstart
    · rw [hsafety']; exact h.warned

theorem TimerLaw.takeOffline {s : State} (h : TimerLaw s) {c : Chan} (on : (s.chan c).online = true) :
    TimerLaw (takeOffline c s) := by
  have hcalm := (Calm.setTracker c (offTracker (s.chan c).config.pnom) s).trans (Calm.flushAll c _)
  have hoff : ((Machine.takeOffline c s).chan c).online = false := by
    rw [takeOffline_chan, flushAll_chan, setTracker_chan]; rfl
  have hother : ((Machine.takeOffline c s).chan c.other).online = (s.chan c.other).online := by
    rw [takeOffline_chan, flushAll_other, setTracker_other]
  by_cases hstop : (s.chan c.other).online = true
  · have heq : Machine.takeOffline c s = (flushAll c (setTracker c (offTracker (s.chan c).config.pnom) s)).1 :=
      if_pos hstop
    have hsafety' : (Machine.takeOffline c s).safety = s.safety := by rw [heq]; exact hcalm.tables.safety
    have hsafe' : (Machine.takeOffline c s).safe = s.safe := by rw [heq]; exact hcalm.tables.safe
    refine .of_chan ?_ ?_ (fun hall => ?_) ?_ (fun _ hs => ?_) ?_
    · rw [hsafety']; exact h.period
    · rw [hsafety']; exact h.pointer
    · rw [← hother, hall] at hstop; cases hstop
    · rw [hsafety', hsafe']; exact h.safe
    · rw [hsafety']; exact h.runs_of on (hsafe' ▸ hs)
    · rw [hsafety']; exact h.warned
  · have heq : Machine.takeOffline c s =
        { (flushAll c (setTracker c (offTracker (s.chan c).config.pnom) s)).1 with
          safety := (flushAll c (setTracker c (offTracker (s.chan c).config.pnom) s)).1.safety.stop } := if_neg hstop
    refine h.stopped ?_ (.inl fun d => ?_)
    · rw [heq]; exact congrArg SafetyTimer.stop hcalm.tables.safety
    · obtain rfl | rfl := Chan.eq_or_other c d
      · exact hoff
      · rw [hother]; simpa using hstop

theorem Part.timerLaw {gr : Grants} {s t : State} (hpart : Part gr s t) (h : TimerLaw s) : TimerLaw t := by
  have hchans : ∀ {t : State}, (∀ d, t.chan d = s.chan d) → ∀ d, (t.chan d).online = (s.chan d).online :=
    fun ht d => by rw [ht]
  cases hpart with
  | core same => exact same.steady.timerLaw h same.safety same.safe
  | event c he => exact he.steady.timerLaw h he.calm.tables.safety he.calm.tables.safe
  | tracker c t s old new synced =>
    exact h.of_same (State.modChan_safety ..) (State.modChan_safe ..) (setTracker_online (online_iff.2 old) new)
  | lost c k t s old new =>
    have hcalm := (Calm.loseReference c k t s).tables
    refine h.of_same hcalm.safety hcalm.safe fun d => ?_
    obtain rfl | rfl := Chan.eq_or_other c d
    · rw [loseReference_chan, synced_online old]
      exact online_iff.2 (by simp [Channel.flushed, new])
    · rw [loseReference_other]
  | config c g s off =>
    refine h.of_same (State.modChan_safety ..) (State.modChan_safe ..) fun d => ?_
    obtain rfl | rfl := Chan.eq_or_other c d
    · rw [State.modChan_chan]; rfl
    · rw [State.modChan_other]
  | online c s off => exact h.bringOnline c
  | offline c s on => exact h.takeOffline on
  | limit v s granted => exact h.of_same (by rw [applyLimit_eq]) (by rw [applyLimit_eq]) (hchans (applyLimit_chan v s))
  | headSet k f c s free =>
    have hcalm := ((Calm.setHead s k (s.heads[k].set f c)).trans (Calm.darkenHead k _)).tables
    refine h.of_same hcalm.safety hcalm.safe fun d => ?_
    rw [online_of_ages ((Steady.darkenHead k _).ages d), State.setHead_chan]
  | retire k s free =>
    have hcalm := ((Calm.setHead s k { s.heads[k] with state := .absent, strikes := 0 }).trans (Calm.darkenHead k _)).tables
    refine h.of_same hcalm.safety hcalm.safe fun d => ?_
    rw [online_of_ages ((Steady.darkenHead k _).ages d), State.setHead_chan]
  | wear k s => exact h.of_same (wearTest_safety ..) (wearTest_safe ..) (hchans (wearTest_chan k s))
  | ready k n s le => exact h.of_same rfl rfl (hchans fun d => State.setHead_chan ..)
  | leak s =>
    refine h.of_same (by simp only [Machine.leak]) (by simp only [Machine.leak]) (hchans fun d => ?_)
    cases d <;> simp only [State.chan_c0, State.chan_c1, Machine.leak]
  | timer t s moved =>
    exact ⟨moved.period h.period, moved.pointer, fun h0 h1 => moved.stopped.2 (h.offline h0 h1),
      fun hs => moved.stopped.2 (h.safe hs), fun hon hs hstop => h.runs hon hs (moved.stopped.1 hstop), moved.warned h.warned⟩
  | safeDark k s => exact h.enterSafeDark k
  | resume s flagged low granted =>
    have hstopped := h.safe (Option.isSome_iff_ne_none.2 flagged)
    by_cases hon : (s.ch0.online || s.ch1.online) = true
    · have heq : resumed s = { s with safe := none, safety := s.safety.start s.now } := if_pos hon
      rw [heq]
      refine h.started (n := s.now) rfl ?_ rfl
      rw [Bool.or_eq_true] at hon
      exact hon.elim (fun h0 => ⟨.c0, h0⟩) fun h1 => ⟨.c1, h1⟩
    · have heq : resumed s = { s with safe := none } := if_neg hon
      rw [heq]
      rw [Bool.or_eq_true] at hon
      exact ⟨h.period, h.pointer, h.offline, fun _ => hstopped, fun hor => absurd hor hon, h.warned⟩
  | supflt v s granted => exact h.of_same rfl rfl fun d => by cases d <;> rfl
  | judged e s =>
    refine h.of_same (judgeEntry_safe e s).2 (judgeEntry_safe e s).1 fun d => ?_
    unfold Channel.online
    rw [(judgeEntry_chan).2.1]
  | cold s granted =>
    have hreset : (coldState s).safety = State.reset.safety := rfl
    refine .of_chan ?_ ?_ (fun _ => ?_) (fun _ => ?_) (fun ⟨c, hc⟩ => ?_) fun hw => ?_
    · rw [hreset]; decide
    · rw [hreset]; exact fun _ => rfl
    · rw [hreset]; rfl
    · rw [hreset]; rfl
    · cases c <;> cases hc
    · rw [hreset] at hw; cases hw
  | run s granted =>
    refine h.stopped ?_ (.inl fun d => by cases d <;> rfl)
    exact congrArg SafetyTimer.stop
      ((Calm.flushAll .c0 { s with supply := ⟨s.supply.limit, none⟩ }).trans (Calm.flushAll .c1 _)).tables.safety

/-! ## What clears the flag -/

/-- Only a RESUME and a reset clear the flag. -/
theorem Part.safe_kept {gr : Grants} {s t : State} (hpart : Part gr s t) (wake : ¬ gr.wake) (reset : ¬ gr.reset)
    (h : s.safe ≠ none) : t.safe ≠ none := by
  cases hpart with
  | core same => rw [same.safe]; exact h
  | event c he => rw [he.calm.tables.safe]; exact h
  | tracker c t s => rw [(Calm.setTracker c t s).tables.safe]; exact h
  | lost c k t s => rw [(Calm.loseReference c k t s).tables.safe]; exact h
  | config c g s => rw [State.modChan_safe]; exact h
  | online c s =>
    have hsafe := (Calm.setTracker c (acquiringTracker (s.chan c).config.pnom) s).tables.safe
    unfold bringOnline
    dsimp only
    split <;> exact hsafe ▸ h
  | offline c s =>
    have hsafe := ((Calm.setTracker c (offTracker (s.chan c).config.pnom) s).trans (Calm.flushAll c _)).tables.safe
    unfold takeOffline
    dsimp only
    split <;> exact hsafe ▸ h
  | limit v s => rw [applyLimit_eq]; exact h
  | headSet k f c s => rw [((Calm.setHead s k _).trans (Calm.darkenHead k _)).tables.safe]; exact h
  | retire k s => rw [((Calm.setHead s k _).trans (Calm.darkenHead k _)).tables.safe]; exact h
  | wear k s => rw [wearTest_safe]; exact h
  | ready => exact h
  | leak => simpa only [Machine.leak] using h
  | timer => exact h
  | safeDark k s => rw [enterSafeDark, if_pos (Option.isSome_iff_ne_none.2 h)]; exact h
  | resume s flagged low granted => exact absurd granted wake
  | supflt => exact h
  | judged e s => rw [(judgeEntry_safe e s).1]; exact h
  | cold s granted => exact absurd granted reset
  | run s granted => exact absurd granted reset

/-- The command is no event of the part's own but the beginning of a cold reset: a RESUME, characters or an edge of RSTN. -/
def fromOutside : Instr → Bool
  | .resume _ _ | .frameArrival _ | .coldResetAct | .coldResetBegin _ => true
  | _ => false

theorem whenDue_all (due : Bool) (i : Instr) (p : Instr → Bool) : (whenDue due i).all p = (!due || p i) := by
  cases due <;> simp [whenDue]

theorem channelDue_inside (c : Chan) (s : State) : ((channelDue c s).all fun i => !fromOutside i) = true := by
  simp [channelDue, List.all_append, whenDue_all, fromOutside]

/-- The part's own events are no requests and no frames, and the hold of a cold reset comes of RSTN alone (R180). -/
theorem dueEvents_mem {s : State} {i : Instr} (h : i ∈ dueEvents s) :
    fromOutside i = false ∨ (∃ low, i = .coldResetBegin low) ∧ s.rstn.low = true ∧ s.rstn.since + 500 ≤ (s.now : Int) := by
  have hinside : ∀ {l : List Instr}, (l.all fun i => !fromOutside i) = true → i ∈ l → fromOutside i = false := by
    intro l hl hi
    simpa using List.all_eq_true.1 hl i hi
  unfold dueEvents at h
  split at h
  · cases h
  · simp only [List.append_assoc] at h
    obtain h | h := List.mem_append.1 h
    · obtain ⟨hdue, rfl⟩ := (mem_whenDue ..).1 h
      rw [holdDue, Bool.and_eq_true] at hdue
      exact .inr ⟨⟨_, rfl⟩, hdue.1, of_decide_eq_true hdue.2⟩
    · refine .inl (hinside (l := _ ++ _) ?_ h)
      simp only [List.all_append, whenDue_all, channelDue_inside]
      simp [fromOutside]

/-! ## The receiver reads neither the waiting commands nor the free choices -/

theorem bringOnline_lineEpoch (c : Chan) (s : State) : (bringOnline c s).lineEpoch = s.lineEpoch := by
  have h := (Calm.setTracker c (acquiringTracker (s.chan c).config.pnom) s).tables.lineEpoch
  unfold bringOnline
  dsimp only
  split <;> exact h

theorem takeOffline_lineEpoch (c : Chan) (s : State) : (takeOffline c s).lineEpoch = s.lineEpoch := by
  have h := ((Calm.setTracker c (offTracker (s.chan c).config.pnom) s).trans (Calm.flushAll c _)).tables.lineEpoch
  unfold takeOffline
  dsimp only
  split <;> exact h

/-- Only a reset moves the moment from which characters count. -/
theorem Part.lineEpoch_kept {gr : Grants} {s t : State} (hpart : Part gr s t) (reset : ¬ gr.reset) :
    t.lineEpoch = s.lineEpoch := by
  cases hpart with
  | core same => exact same.lineEpoch
  | event c he => exact he.calm.tables.lineEpoch
  | tracker c t s => exact (Calm.setTracker c t s).tables.lineEpoch
  | lost c k t s => exact (Calm.loseReference c k t s).tables.lineEpoch
  | config c g s => exact State.setChan_lineEpoch ..
  | online c s => exact bringOnline_lineEpoch c s
  | offline c s => exact takeOffline_lineEpoch c s
  | limit v s => rw [applyLimit_eq]
  | headSet k f c s => exact ((Calm.setHead s k _).trans (Calm.darkenHead k _)).tables.lineEpoch
  | retire k s => exact ((Calm.setHead s k _).trans (Calm.darkenHead k _)).tables.lineEpoch
  | wear k s => exact (Calm.wearTest k s).tables.lineEpoch
  | ready => rfl
  | leak => simp only [Machine.leak]
  | timer => rfl
  | safeDark k s =>
    unfold enterSafeDark
    split
    · rfl
    · exact ((Calm.flushAll .c0 { s with safe := some k }).trans (Calm.flushAll .c1 _)).tables.lineEpoch
  | resume s =>
    unfold resumed
    dsimp only
    split <;> rfl
  | supflt => rfl
  | judged e s =>
    obtain heq | ⟨j, a, p, k, -, heq⟩ := judgeEntry_cases e s
    · rw [heq]
    · rw [heq, admitBurst]
      dsimp only
      split <;> exact (insertBurst_calm ..).tables.lineEpoch
  | cold s granted => exact absurd granted reset
  | run s granted => exact absurd granted reset

theorem Parts.lineEpoch_kept {gr : Grants} {s t : State} (h : Parts gr s t) (reset : ¬ gr.reset) :
    t.lineEpoch = s.lineEpoch := by
  induction h with
  | refl => rfl
  | tail _ hpart ih => exact (hpart.lineEpoch_kept reset).trans ih

/-- The receiver, the end of its last character, and the moment from which characters count. -/
structure SameReceiver (s t : State) : Prop where
  rx : t.link.rx = s.link.rx
  rxEnd : t.link.rxEnd = s.link.rxEnd
  lineEpoch : t.lineEpoch = s.lineEpoch

theorem SameReceiver.trans {s t u : State} (a : SameReceiver s t) (b : SameReceiver t u) : SameReceiver s u :=
  ⟨b.rx.trans a.rx, b.rxEnd.trans a.rxEnd, b.lineEpoch.trans a.lineEpoch⟩

theorem SameReceiver.symm {s t : State} (a : SameReceiver s t) : SameReceiver t s :=
  ⟨a.rx.symm, a.rxEnd.symm, a.lineEpoch.symm⟩

theorem startNotice_rx (s : State) :
    (startNotice s).link.rx = s.link.rx ∧ (startNotice s).link.rxEnd = s.link.rxEnd := by
  unfold startNotice
  split <;> exact ⟨rfl, rfl⟩

theorem arrive_rx (r : Instr) (s : State) :
    (arrive r s).link.rx = s.link.rx ∧ (arrive r s).link.rxEnd = s.link.rxEnd := by
  unfold arrive
  split
  · exact ⟨rfl, rfl⟩
  · split
    · exact ⟨(serve_linkServed r s).rx, (serve_linkServed r s).rxEnd⟩
    · exact ⟨rfl, rfl⟩
    · exact ⟨(serve_linkServed ..).rx, (serve_linkServed ..).rxEnd⟩
    · split <;> exact ⟨rfl, rfl⟩

theorem pump_rx (s : State) : (pump s).link.rx = s.link.rx ∧ (pump s).link.rxEnd = s.link.rxEnd := by
  unfold pump
  split
  · dsimp only
    split
    · exact ⟨rfl, rfl⟩
    · unfold releasePlace
      split
      · exact ⟨rfl, rfl⟩
      · split
        · exact ⟨rfl, rfl⟩
        · exact ⟨(serve_linkServed ..).rx, (serve_linkServed ..).rxEnd⟩
  · exact startNotice_rx s

/-- An arrival leaves the receiver alone. -/
theorem arrived_receiver (r : Instr) (s : State) : SameReceiver s (arrived r s) := by
  have hparts : Parts ⟨True, True, False, False⟩ s (arrived r s) :=
    arrived_parts ⟨⟨trivial, fun _ _ => trivial⟩, id, fun _ _ => trivial⟩
  exact ⟨(pump_rx _).1.trans (arrive_rx r s).1, (pump_rx _).2.trans (arrive_rx r s).2, hparts.lineEpoch_kept id⟩

theorem takeChar_receiver {s t : State} (h : SameReceiver s t) (k : Character) :
    SameReceiver (takeChar s k) (takeChar t k) := by
  by_cases hended : k.start + 50 < (s.lineEpoch : Int)
  · rw [takeChar_ended hended, takeChar_ended (by rw [h.lineEpoch]; exact hended)]
    exact h
  · have hs : (s.lineEpoch : Int) ≤ k.start + 50 := by omega
    have ht : (t.lineEpoch : Int) ≤ k.start + 50 := by rw [h.lineEpoch]; exact hs
    have hrx : t.link.rx.afterGap (k.start - t.link.rxEnd) = s.link.rx.afterGap (k.start - s.link.rxEnd) := by
      rw [h.rx, h.rxEnd]
    have hset : ∀ y e, SameReceiver (s.receiving y e) (t.receiving y e) := fun y e => ⟨rfl, rfl, h.lineEpoch⟩
    cases hr : receiveChar (s.link.rx.afterGap (k.start - s.link.rxEnd)) k with
    | mk y f =>
      cases f with
      | none => rw [takeChar_none hs hr, takeChar_none ht (by rw [hrx, hr])]; exact hset ..
      | some f =>
        rw [takeChar_frame hs hr, takeChar_frame ht (by rw [hrx, hr])]
        exact (arrived_receiver ..).symm.trans ((hset ..).trans (arrived_receiver ..))

theorem takeChars_receiver {s t : State} (h : SameReceiver s t) (cs : List Character) :
    SameReceiver (takeChars cs s) (takeChars cs t) := by
  induction cs generalizing s t with
  | nil => exact h
  | cons k cs ih => exact ih (takeChar_receiver h k)

theorem carries_congr {s t : State} (h : SameReceiver s t) {cs : List Character} {r : Instr} (hc : carries cs s r) :
    carries cs t r := by
  obtain ⟨pre, post, k, hcs, hepoch, f, hf, hr⟩ := hc
  obtain ⟨hrx, hend, hlast⟩ := takeChars_receiver h pre
  exact ⟨pre, post, k, hcs, by rw [hlast]; exact hepoch, f, by rw [hrx, hend]; exact hf, hr⟩

/-! ## The end of Safe Dark -/

/-- What ends Safe Dark in a command (R162, R178, R180). -/
def EndsSafeDark (i : Instr) (s : State) : Prop :=
  (s.supflt = false ∧
    ((∃ tag, i = .resume tag (.fits ())) ∨ (∃ cs, i = .frameArrival cs ∧ carriesResume cs s) ∨
      ∃ tag, s.link.waiting = some (.resume tag (.fits ())))) ∨
  (∃ x sc, s.link.tx = some x ∧ x.endsAt ≤ s.now ∧ x.acts = some sc) ∨
  (∃ low, i = .coldResetBegin low) ∨ i = .coldResetAct

theorem carries_resume {cs : List Character} {s : State} {tag : Byte} (hheld : s.held = false)
    (h : carries cs s (.resume tag (.fits ()))) : carriesResume cs s := by
  obtain ⟨pre, post, k, hcs, hepoch, f, hf, hr⟩ := h
  exact ⟨pre, post, k, _, f, hcs, exec_frameArrival hheld pre, hepoch, hf, tag, hr⟩

/-- A command that ends Safe Dark, on a state with another queue of commands and other free choices. -/
theorem exec_endsSafeDark {i : Instr} {s t : State} {p : List Instr} {n : Nat}
    (h : exec i { s with pending := p, choices := n } = .next t) (hs : s.safe ≠ none) (ht : t.safe = none) :
    EndsSafeDark i s := by
  by_contra hno
  have hgranted : ExecGranted ⟨True, False, False, True⟩ i { s with pending := p, choices := n } := by
    refine ⟨fun _ => trivial, fun _ => trivial, fun ⟨tag, hr⟩ hlow => hno (.inl ⟨hlow, ?_⟩), fun hx => hno (.inr (.inl hx)),
      fun hc => hno (.inr (.inr hc))⟩
    obtain hr | ⟨cs, hi, hheld, hc⟩ | hw := hr
    · exact .inl ⟨tag, hr⟩
    · have hsame : SameReceiver { s with pending := p, choices := n } s := ⟨rfl, rfl, rfl⟩
      exact .inr (.inl ⟨cs, hi, carries_resume hheld (carries_congr hsame hc)⟩)
    · exact .inr (.inr ⟨tag, hw⟩)
  exact (exec_parts_of hgranted h).keeps (P := fun u => u.safe ≠ none)
    (fun u v hpart hu => hpart.safe_kept id id hu) hs ht

/-- Settles O12: the laws part by part, and the parts that may clear the flag of Safe Dark. -/
theorem stepKeepsTheDarkAndTimerLaws : Obligations.StepKeepsTheDarkAndTimerLaws := by
  refine fun s t hstep => ⟨fun hlaw => ?_, fun hlaw => ?_, fun hs ht => ?_⟩
  · exact step_keeps (P := DarkLaw) (fun u v hpart h => hpart.darkLaw h)
      (fun u p n h => h.of_idle rfl (fun c hc => by cases c <;> exact hc) fun c hc => by cases c <;> exact hc) hstep hlaw
  · exact step_keeps (P := TimerLaw) (fun u v hpart h => hpart.timerLaw h)
      (fun u p n h => h.of_same rfl rfl fun c => by cases c <;> rfl) hstep hlaw
  · obtain ⟨i, p, n, hi, hexec⟩ | ⟨-, rfl⟩ := step_cases hstep
    · obtain ⟨hlow, hr⟩ | hx | hc := exec_endsSafeDark hexec hs ht
      · obtain hfront | ⟨-, hdue⟩ := hi
        · refine .inl ⟨hlow, ?_⟩
          obtain ⟨tag, rfl⟩ | ⟨cs, rfl, hcs⟩ | hw := hr
          · exact .inl ⟨tag, hfront⟩
          · exact .inr (.inl ⟨cs, hfront, hcs⟩)
          · exact .inr (.inr hw)
        · refine .inl ⟨hlow, .inr (.inr ?_)⟩
          obtain hin | ⟨⟨low, rfl⟩, -⟩ := dueEvents_mem hdue
          · obtain ⟨tag, rfl⟩ | ⟨cs, rfl, -⟩ | hw := hr
            · cases hin
            · cases hin
            · exact hw
          · obtain ⟨tag, hr⟩ | ⟨cs, hr, -⟩ | hw := hr
            · cases hr
            · cases hr
            · exact hw
      · exact .inr (.inl hx)
      · obtain hfront | ⟨hnone, hdue⟩ := hi
        · obtain ⟨low, rfl⟩ | rfl := hc
          · exact .inr (.inr (.inl ⟨low, hfront⟩))
          · exact .inr (.inr (.inr (.inl hfront)))
        · obtain hin | ⟨-, hlow⟩ := dueEvents_mem hdue
          · obtain ⟨low, rfl⟩ | rfl := hc
            · cases hin
            · cases hin
          · exact .inr (.inr (.inr (.inr ⟨hnone, hlow⟩)))
    · unfold tick at ht
      split at ht
      · exact absurd ht hs
      · exact absurd ht hs

end Sys2Proof.Machine
end

section
/-! PROOFS. The table of R67 as one property of a channel (`Tabled`): a Sequencer that runs no held burst before a queue in
which none has begun, or a Sequencer lit on the front burst. What the operations on one channel make of it. -/

namespace Sys2Proof.Machine

/-! ## Queues -/

/-- Bursts behind the front one: QUEUED, and lit by nothing when `U` says so (R7, R44). -/
def Waiting (U : Prop) (q : List Burst) : Prop := ∀ b ∈ q, b.state = .queued ∧ (U → b.acc = 0)

/-- A queue in which no burst has begun: the front one is QUEUED or BARRED, and the others wait. -/
def Rested (U : Prop) : List Burst → Prop
  | [] => True
  | b :: q => b.state.begun = false ∧ (b.state = .queued → U → b.acc = 0) ∧ Waiting U q

theorem Waiting.sublist {U : Prop} {q r : List Burst} (h : Waiting U q) (hr : r.Sublist q) : Waiting U r :=
  fun b hb => h b (hr.subset hb)

theorem Waiting.tail {U : Prop} {q : List Burst} (h : Waiting U q) : Waiting U q.tail := h.sublist (List.tail_sublist q)

/-- The first of the waiting bursts comes to the front, and may enter the bar it carries. -/
theorem Waiting.asFront {U : Prop} {q : List Burst} (h : Waiting U q) : Rested U (asFront q) := by
  cases q with
  | nil => trivial
  | cons b q =>
    obtain ⟨hb, hq⟩ := List.forall_mem_cons.1 h
    rw [asFront_eq]
    refine ⟨?_, fun _ hu => ?_, hq⟩
    · unfold Burst.enterDecidedBar
      split
      · rfl
      · rw [hb.1]; rfl
    · have hacc : b.enterDecidedBar.acc = b.acc := by unfold Burst.enterDecidedBar; split <;> rfl
      rw [hacc]
      exact hb.2 hu
  
theorem Rested.tail {U : Prop} {q : List Burst} (h : Rested U q) : Waiting U q.tail := by
  cases q with
  | nil => exact fun _ hb => nomatch hb
  | cons b q => exact h.2.2

theorem Rested.front {U : Prop} {q : List Burst} (h : Rested U q) : ∀ b ∈ q.head?, b.state.begun = false := by
  cases q with
  | nil => exact fun _ hb => nomatch hb
  | cons b q => rintro _ ⟨⟩; exact h.1

theorem Rested.modFirst {U : Prop} {q : List Burst} {f : Burst → Burst} (h : Rested U q)
    (hf : ∀ b ∈ q.head?, (f b).state.begun = false ∧ ((f b).state = .queued → b.state = .queued ∧ (f b).acc = b.acc)) :
    Rested U (modFirst f q) := by
  cases q with
  | nil => trivial
  | cons b q =>
    obtain ⟨hbegun, hqueued⟩ := hf b rfl
    refine ⟨hbegun, fun hs hu => ?_, h.2.2⟩
    obtain ⟨hold, hacc⟩ := hqueued hs
    rw [hacc]
    exact h.2.1 hold hu

theorem Rested.unlit {U : Prop} {q : List Burst} (h : Rested U q) (hu : U) : ∀ b ∈ q, b.state = .queued → b.acc = 0 := by
  cases q with
  | nil => exact fun _ hb => nomatch hb
  | cons b q => exact List.forall_mem_cons.2 ⟨fun hs => h.2.1 hs hu, fun d hd _ => (h.2.2 d hd).2 hu⟩

/-! ## Sequencers -/

/-- The Sequencer runs no held burst: DARK, in BIAS, or running a detached tail, with the commitment of R67's table. -/
inductive Sequencer.Free (q : Sequencer) : Prop
  | dark (active : q.active = .idle) (laser : q.laser = .dark) (selected : q.selected = none) (committed : q.committed = 0)
  | bias (active : q.active = .idle) (laser : q.laser = .bias) (selected : q.selected.isSome = true)
      (committed : q.committed = q.biasCurrent)
  | tail (b : Burst) (active : q.active = .detached b) (laser : q.laser = .tail) (selected : q.selected = some b.head)
      (committed : q.committed = b.currents.boost)

/-- The states that a lit laser and the front burst it runs are in together (R67). -/
inductive Runs : LaserState → BurstState → Prop
  | preheat : Runs .preheat .heating
  | hold : Runs .hold .ready
  | boost : Runs .boost .writing
  | sustain : Runs .sustain .writing
  | cooling (v : Verdict) : Runs .tail (.cooling v)
  | barred (r : Reason) : Runs .tail (.barred r)

/-- The Sequencer is lit on the front burst `b`, with its commitment. -/
structure LitOn (q : Sequencer) (b : Burst) : Prop where
  active : q.active = .front
  selected : q.selected = some b.head
  committed : q.committed = b.currents.boost

theorem LitOn.congr {q r : Sequencer} {b d : Burst} (h : LitOn q b) (ha : r.active = q.active)
    (hs : r.selected = q.selected) (hc : r.committed = q.committed) (hh : d.head = b.head)
    (hd : d.currents = b.currents) : LitOn r d :=
  ⟨ha.trans h.active, by rw [hs, hh]; exact h.selected, by rw [hc, hd]; exact h.committed⟩

theorem Sequencer.Free.not_front {q : Sequencer} (h : q.Free) : q.active ≠ .front := by
  cases h with
  | dark ha => simp [ha]
  | bias ha => simp [ha]
  | tail b ha => simp [ha]

theorem Sequencer.Free.lit {q : Sequencer} (h : q.Free) (hl : q.laser.lit = true) : q.laser = .tail := by
  cases h with
  | dark _ hd => rw [hd] at hl; cases hl
  | bias _ hb => rw [hb] at hl; cases hl
  | tail _ _ ht => exact ht

theorem Sequencer.Free.unlit {q : Sequencer} (h : q.Free) (hl : q.laser.lit = false) : q.active = .idle := by
  cases h with
  | dark ha => exact ha
  | bias ha => exact ha
  | tail b _ ht => rw [ht] at hl; cases hl

/-- Whether a Sequencer is free is said by five of its fields. -/
theorem Sequencer.Free.congr {q r : Sequencer} (h : q.Free) (ha : r.active = q.active) (hl : r.laser = q.laser)
    (hs : r.selected = q.selected) (hc : r.committed = q.committed) (hb : r.biasCurrent = q.biasCurrent) : r.Free := by
  cases h with
  | dark h1 h2 h3 h4 => exact .dark (ha.trans h1) (hl.trans h2) (hs.trans h3) (hc.trans h4)
  | bias h1 h2 h3 h4 => exact .bias (ha.trans h1) (hl.trans h2) (by rw [hs]; exact h3) (by rw [hc, h4, hb])
  | tail b h1 h2 h3 h4 => exact .tail b (ha.trans h1) (hl.trans h2) (hs.trans h3) (hc.trans h4)

theorem dark_free (q : Sequencer) : q.dark.Free := .dark rfl rfl rfl rfl

/-! ## Channels -/

/-- A channel lit on its front burst, with the others waiting. -/
structure Lit (U : Prop) (x : Channel) (b : Burst) (rest : List Burst) : Prop where
  seq : LitOn x.seq b
  queue : x.queue = b :: rest
  waits : Waiting U rest

/-- The channel stands in R67's table. -/
inductive Tabled (U : Prop) (x : Channel) : Prop
  | free (seq : x.seq.Free) (queue : Rested U x.queue)
  | lit (b : Burst) (rest : List Burst) (on : Lit U x b rest) (runs : Runs x.seq.laser b.state)

variable {U : Prop} {x : Channel}

theorem Runs.lit {l : LaserState} {k : BurstState} (h : Runs l k) : l.lit = true := by cases h <;> rfl

theorem Runs.not_queued {l : LaserState} {k : BurstState} (h : Runs l k) : k ≠ .queued := by rintro rfl; cases h

/-- Every burst behind the front one waits. -/
theorem Tabled.rest (h : Tabled U x) : Waiting U x.queue.tail := by
  cases h with
  | free _ hq => exact hq.tail
  | lit b rest hon _ => rw [hon.queue]; exact hon.waits

theorem Tabled.unlit (h : Tabled U x) (hu : U) : ∀ b ∈ x.queue, b.state = .queued → b.acc = 0 := by
  cases h with
  | free _ hq => exact hq.unlit hu
  | lit b rest hon hruns =>
    rw [hon.queue]
    exact List.forall_mem_cons.2 ⟨fun hs => absurd hs hruns.not_queued, fun d hd _ => (hon.waits d hd).2 hu⟩

/-- A front burst that has begun is the one the laser is lit on. -/
theorem Tabled.of_begun (h : Tabled U x) {b : Burst} (hb : x.queue.head? = some b) (hbegun : b.state.begun = true) :
    Lit U x b x.queue.tail ∧ Runs x.seq.laser b.state := by
  cases h with
  | free _ hq => rw [hq.front b hb] at hbegun; cases hbegun
  | lit d rest hon hruns =>
    rw [hon.queue] at hb ⊢
    cases hb
    exact ⟨hon, hruns⟩

/-- A laser in a lit state other than TAIL is lit on the front burst. -/
theorem Tabled.of_lit (h : Tabled U x) (hl : x.seq.laser.lit = true) (ht : x.seq.laser ≠ .tail) :
    ∃ b rest, Lit U x b rest ∧ Runs x.seq.laser b.state := by
  cases h with
  | free hf _ => exact absurd (hf.lit hl) ht
  | lit b rest hon hruns => exact ⟨b, rest, hon, hruns⟩

/-- An unlit laser runs no burst, and none of the queue has begun. -/
theorem Tabled.of_unlit (h : Tabled U x) (hl : x.seq.laser.lit = false) : x.seq.Free ∧ Rested U x.queue := by
  cases h with
  | free hf hq => exact ⟨hf, hq⟩
  | lit b rest hon hruns => rw [hruns.lit] at hl; cases hl

/-- A change of the channel that leaves its queue and what the table reads of its Sequencer. -/
theorem Tabled.congr (h : Tabled U x) {y : Channel} (hq : y.queue = x.queue) (ha : y.seq.active = x.seq.active)
    (hl : y.seq.laser = x.seq.laser) (hs : y.seq.selected = x.seq.selected) (hc : y.seq.committed = x.seq.committed)
    (hb : y.seq.biasCurrent = x.seq.biasCurrent) : Tabled U y := by
  cases h with
  | free hf hrest => exact .free (hf.congr ha hl hs hc hb) (hq ▸ hrest)
  | lit b rest hon hruns =>
    exact .lit b rest ⟨hon.seq.congr ha hs hc rfl rfl, hq.trans hon.queue, hon.waits⟩ (hl ▸ hruns)

/-! ## The bursts of a channel -/

theorem litUpTo_alike (x : Channel) (b : Burst) (n : Nat) :
    (x.litUpTo b n).state = b.state ∧ (x.litUpTo b n).head = b.head ∧ (x.litUpTo b n).currents = b.currents ∧
      (x.litUpTo b n).plan = b.plan := by
  unfold Channel.litUpTo
  split <;> exact ⟨rfl, rfl, rfl, rfl⟩

theorem phaseEnded_laser (x : Channel) (n : Nat) : (x.phaseEnded n).seq.laser = x.seq.laser := by
  obtain ⟨a, h, -⟩ := phaseEnded_seq x n
  rw [h]

theorem Lit.phaseEnded {b : Burst} {rest : List Burst} (h : Lit U x b rest) (n : Nat) :
    Lit U (x.phaseEnded n) (x.litUpTo b n) rest := by
  obtain ⟨-, hhead, hcur, -⟩ := litUpTo_alike x b n
  unfold Channel.phaseEnded
  rw [h.seq.active]
  exact ⟨h.seq.congr rfl rfl rfl hhead hcur, by simp [h.queue, modFirst], h.waits⟩

/-- The front burst of a lit channel changes, but for its head and its currents. -/
theorem Lit.modFirst {b : Burst} {rest : List Burst} (h : Lit U x b rest) {f : Burst → Burst} (hh : (f b).head = b.head)
    (hc : (f b).currents = b.currents) : Lit U { x with queue := modFirst f x.queue } (f b) rest :=
  ⟨h.seq.congr rfl rfl rfl hh hc, by rw [h.queue]; rfl, h.waits⟩

theorem Lit.head? {b : Burst} {rest : List Burst} (h : Lit U x b rest) : x.queue.head? = some b := by rw [h.queue]; rfl

theorem Lit.activeBurst {b : Burst} {rest : List Burst} (h : Lit U x b rest) : x.activeBurst = some b := by
  unfold Channel.activeBurst
  rw [h.seq.active]
  exact h.head?

theorem phaseEnded_idle {x : Channel} (h : x.seq.active = .idle) (n : Nat) :
    x.phaseEnded n = { x with seq := { x.seq with phaseStart := n } } := by
  unfold Channel.phaseEnded
  rw [h]

theorem phaseEnded_queue {x : Channel} (h : x.seq.active ≠ .front) (n : Nat) : (x.phaseEnded n).queue = x.queue := by
  unfold Channel.phaseEnded
  split
  · rfl
  · exact absurd ‹_› h
  · rfl

theorem Sequencer.Free.phaseEnded {x : Channel} (h : x.seq.Free) (n : Nat) : (x.phaseEnded n).seq.Free := by
  unfold Channel.phaseEnded
  cases h with
  | dark ha hl hs hc => rw [ha]; exact .dark ha hl hs hc
  | bias ha hl hs hc => rw [ha]; exact .bias ha hl hs hc
  | tail b ha hl hs hc =>
    obtain ⟨-, hhead, hcur, -⟩ := litUpTo_alike x b n
    rw [ha]
    exact .tail _ rfl hl (hs.trans (congrArg some hhead.symm)) (hc.trans (congrArg Currents.boost hcur.symm))

theorem Tabled.phaseEnded (h : Tabled U x) (n : Nat) : Tabled U (x.phaseEnded n) := by
  cases h with
  | free hf hq => exact .free (hf.phaseEnded n) (by rwa [phaseEnded_queue hf.not_front])
  | lit b rest hon hruns =>
    refine .lit _ rest (hon.phaseEnded n) ?_
    rw [phaseEnded_laser, (litUpTo_alike x b n).1]
    exact hruns

/-- The tail of a front burst that is COOLING or BARRED. -/
theorem Lit.tailed {b : Burst} {rest : List Burst} (h : Lit U x b rest) (hb : Runs .tail b.state) (n : Nat) :
    Tabled U (x.tailed n) ∧ (x.tailed n).seq.laser = .tail ∧ (x.tailed n).seq.active = .front := by
  have hon := h.phaseEnded n
  unfold Channel.tailed
  rw [hon.activeBurst]
  refine ⟨.lit _ rest ⟨hon.seq.congr rfl rfl rfl rfl rfl, hon.queue, hon.waits⟩ ?_, rfl, hon.seq.active⟩
  rw [(litUpTo_alike x b n).1]
  exact hb

/-- A queue that moves up, when the laser runs no held burst. -/
theorem Tabled.moved {x y : Channel} (hf : y.seq.Free) (hq : y.queue = asFront x.queue.tail)
    (hw : Waiting U x.queue.tail) : Tabled U y := .free hf (hq ▸ hw.asFront)

theorem filter_head {q : List Burst} {out : Burst → Bool} {b : Burst} {rest : List Burst} (hq : q = b :: rest)
    (hb : out b = false) : (q.filter fun b => !out b) = b :: rest.filter fun b => !out b := by
  rw [hq, List.filter_cons_of_pos (by simp [hb])]

/-- Removing bursts behind the front one. -/
theorem Tabled.without (h : Tabled U x) {out : Burst → Bool} (hout : ∀ b ∈ x.queue.head?, out b = false) :
    Tabled U (x.without out) := by
  have hnot : ¬ x.queue.head?.any out = true := by
    rw [Option.any_eq_true]
    rintro ⟨b, hb, hyes⟩
    rw [hout b hb] at hyes
    cases hyes
  unfold Channel.without
  dsimp only
  rw [if_neg hnot]
  cases h with
  | free hf hq =>
    refine .free hf ?_
    cases hqueue : x.queue with
    | nil => trivial
    | cons b rest =>
      rw [hqueue] at hq hout
      dsimp only
      rw [filter_head rfl (hout b rfl)]
      exact ⟨hq.1, hq.2.1, hq.2.2.sublist List.filter_sublist⟩
  | lit b rest hon hruns =>
    refine .lit b (rest.filter fun b => !out b) ⟨hon.seq, ?_, hon.waits.sublist List.filter_sublist⟩ hruns
    exact filter_head hon.queue (hout b hon.head?)

/-- Removing the front burst, and others, when the laser does not run it. -/
theorem Tabled.without_front {x : Channel} (hf : x.seq.Free) (hw : Waiting U x.queue.tail) {out : Burst → Bool} {b : Burst}
    (hb : x.queue.head? = some b) (hout : out b = true) : Tabled U (x.without out) := by
  have hq : x.queue = b :: x.queue.tail := by
    cases hqueue : x.queue with
    | nil => rw [hqueue] at hb; cases hb
    | cons d rest => rw [hqueue] at hb; cases hb; rfl
  unfold Channel.without
  dsimp only
  rw [if_pos (by rw [hb]; exact hout)]
  refine .free hf ?_
  rw [hq, List.filter_cons_of_neg (by simp [hout])]
  exact (hw.sublist List.filter_sublist).asFront

end Sys2Proof.Machine
end

section
/-! PROOFS. Every operation of a Laser Sequencer keeps its channel in R67's table, one lemma for each operation. -/

namespace Sys2Proof.Machine

variable {U : Prop} {c : Chan} {s : State}

/-! ## Rules for the channel of an operation -/

@[simp] theorem modFront_chan (c : Chan) (f : Burst → Burst) (s : State) :
    (modFront c f s).chan c = { s.chan c with queue := modFirst f (s.chan c).queue } := by
  rw [modFront_eq, State.setChan_chan]

@[simp] theorem modFront_now (c : Chan) (f : Burst → Burst) (s : State) : (modFront c f s).now = s.now := by
  rw [modFront_eq, State.setChan_now]

@[simp] theorem enterTail_chan (c : Chan) (s : State) : (enterTail c s).chan c = (s.chan c).tailed s.now := by
  rw [enterTail_eq, State.setChan_chan]

@[simp] theorem removeWhere_chan (c : Chan) (out : Burst → Bool) (s : State) :
    (removeWhere c out s).chan c = (s.chan c).without out := by rw [removeWhere_eq, State.setChan_chan]

theorem front_queue {b : Burst} (h : s.front c = some b) : (s.chan c).queue = b :: (s.chan c).queue.tail := by
  rw [State.front] at h
  cases hq : (s.chan c).queue with
  | nil => rw [hq] at h; cases h
  | cons d rest => rw [hq] at h; cases h; rfl

/-! ## Tails and completions -/

/-- The front burst that the laser is lit on is decided or barred, and its tail runs (R81, R82, R87, R90). -/
theorem tail_tabled {b : Burst} {rest : List Burst} (h : Lit U (s.chan c) b rest) {f : Burst → Burst}
    (hh : (f b).head = b.head) (hc : (f b).currents = b.currents) (hruns : Runs .tail (f b).state) :
    Tabled U ((enterTail c (modFront c f s)).chan c) := by
  rw [enterTail_chan, modFront_chan]
  exact ((h.modFirst hh hc).tailed hruns _).1

theorem goDark_tabled (hq : Rested U (s.chan c).queue) : Tabled U ((goDark c s).chan c) := by
  rw [goDark_chan]
  exact .free (dark_free _) hq

/-- A completion on a channel whose laser runs no held burst. -/
theorem completeFront_tabled (hf : (s.chan c).seq.Free) (hw : Waiting U (s.chan c).queue.tail) (v : Verdict) :
    Tabled U ((completeFront c v s).chan c) := by
  rw [completeFront_chan]
  split
  · rename_i hnil
    exact .free hf (by rw [hnil]; trivial)
  · exact .moved hf rfl hw

theorem completeBarred_tabled (h : Tabled U (s.chan c)) : Tabled U ((completeBarred c s).chan c) := by
  unfold completeBarred
  split
  · exact h
  · rename_i b hb
    split
    · rename_i r hr
      split
      · rename_i hover
        cases h with
        | free hf hq => exact completeFront_tabled hf hq.tail _
        | lit d rest hon hruns =>
          rw [State.front, hon.head?] at hb
          cases hb
          rw [hr] at hruns
          cases hlaser : (s.chan c).seq.laser <;> rw [hlaser] at hruns <;> cases hruns
          simp [Channel.frontTail, hlaser, hon.seq.active] at hover
      · exact h
    all_goals exact h

/-! ## Arming -/

theorem barAtArming_tabled (hf : (s.chan c).seq.Free) (hq : Rested U (s.chan c).queue) (b : Burst) (r : Reason) :
    Tabled U ((barAtArming c b r s).chan c) := by
  rw [barAtArming, State.modSeq_chan, modFront_chan]
  refine .free (hf.congr rfl rfl rfl rfl rfl) (hq.modFirst fun d _ => ⟨rfl, fun hs => ?_⟩)
  cases hs

theorem startBurst_tabled {d : Burst} (hd : s.front c = some d) (hw : Waiting U (s.chan c).queue.tail) (b : Burst)
    (l : LeadUsed) : Tabled U ((startBurst c b l s).chan c) := by
  rw [startBurst_eq, setSupply_chan, State.setChan_chan, front_queue hd]
  exact .lit { b with state := .heating, leadUsed := some l, sampledArming := samples s.heads[b.head] l }
    (s.chan c).queue.tail ⟨⟨rfl, rfl, rfl⟩, rfl, hw⟩ .preheat

theorem arm_tabled (h : Tabled U (s.chan c)) (due : armDue c s = true) : Tabled U ((arm c s).chan c) := by
  obtain ⟨b, g, hb, -, -, -, hlit, -⟩ := armDue_front due
  obtain ⟨hf, hq⟩ := h.of_unlit hlit
  unfold arm
  dsimp only
  rw [show (s.chan c).queue.head? = some b from hb]
  dsimp only
  split
  · exact barAtArming_tabled hf hq _ _
  · split
    · exact barAtArming_tabled hf hq _ _
    all_goals
      split
      · exact startBurst_tabled hb hq.tail _ _
      · exact barAtArming_tabled hf hq _ _

/-! ## The end of a tail -/

theorem settleRest_tabled (hq : Rested U (s.chan c).queue) (b : Burst) : Tabled U ((settleRest c b s).chan c) := by
  unfold settleRest
  split
  · rw [setCommit_chan, State.modSeq_chan]
    exact .free (.bias rfl rfl rfl rfl) hq
  · exact goDark_tabled hq

/-- At the end of a tail no burst that has begun is left in the queue (R85 step 1). -/
theorem endTailBurst_rested (h : Tabled U (s.chan c)) (hl : (s.chan c).seq.laser = .tail) :
    Rested U ((endTailBurst c s).chan c).queue := by
  unfold endTailBurst
  dsimp only
  cases h with
  | free hf hq =>
    split
    · rw [State.modSeq_chan]; exact hq
    · rw [chargeBurst_chan, State.modSeq_chan]; exact hq
    · exact absurd ‹_› hf.not_front
  | lit b rest hon hruns =>
    rw [hl] at hruns
    simp only [hon.seq.active, State.front, hon.head?]
    have hkept : b.state.begun = false → Rested U (b :: rest) := fun hb =>
      ⟨hb, fun hs => absurd hs hruns.not_queued, hon.waits⟩
    have hidle : ∀ v, ((completeFront c v (s.modSeq c fun q => { q with active := .idle })).chan c).queue =
        asFront rest := by
      intro v
      rw [completeFront_chan, State.modSeq_chan, if_neg (by simp [hon.queue])]
      simp [Channel.advanced, hon.queue]
    split
    · rw [hidle]; exact hon.waits.asFront
    · rename_i r hr
      unfold completeBarred
      simp only [State.front, State.modSeq_chan, hon.head?, hr]
      split
      · rw [hidle]; exact hon.waits.asFront
      · rw [State.modSeq_chan]
        show Rested U (s.chan c).queue
        rw [hon.queue]
        exact hkept (by rw [hr]; rfl)
    all_goals rename_i hb; rw [hb] at hruns; cases hruns

theorem endTail_tabled (h : Tabled U (s.chan c)) (hl : (s.chan c).seq.laser = .tail) :
    Tabled U ((endTail c s).chan c) := by
  have h0 : Tabled U ((endPhase c s).chan c) := by rw [endPhase_chan]; exact h.phaseEnded _
  have hl0 : ((endPhase c s).chan c).seq.laser = .tail := by rw [endPhase_chan, phaseEnded_laser]; exact hl
  unfold endTail
  dsimp only
  split
  · rename_i hnone
    cases h0 with
    | free _ hq => exact goDark_tabled hq
    | lit b rest hon _ => rw [hon.activeBurst] at hnone; cases hnone
  · rename_i b _
    have hrest : Tabled U ((settleRest c b (endTailBurst c (endPhase c s))).chan c) :=
      settleRest_tabled (endTailBurst_rested h0 hl0) b
    split
    · rename_i hdue; exact arm_tabled hrest hdue
    · exact hrest

/-! ## The gate window -/

/-- A change of the front burst that keeps its state, its head and its currents. -/
theorem modFront_tabled (h : Tabled U (s.chan c)) {f : Burst → Burst} (hs : ∀ b, (f b).state = b.state)
    (hh : ∀ b, (f b).head = b.head) (hc : ∀ b, (f b).currents = b.currents) (ha : ∀ b, (f b).acc = b.acc) :
    Tabled U ((modFront c f s).chan c) := by
  rw [modFront_chan]
  cases h with
  | free hf hq => exact .free hf (hq.modFirst fun b hb => ⟨by rw [hs]; exact hq.front b hb, fun h => ⟨hs b ▸ h, ha b⟩⟩)
  | lit b rest hon hruns => exact .lit _ rest (hon.modFirst (hh b) (hc b)) (by rw [hs]; exact hruns)

theorem markClosed_tabled (h : Tabled U (s.chan c)) : Tabled U ((markClosed c s).chan c) := by
  rw [markClosed, State.modChan_chan]
  exact h.congr rfl rfl rfl rfl rfl rfl

theorem closeWindow_tabled (h : Tabled U (s.chan c)) : Tabled U ((closeWindow c s).chan c) := by
  unfold closeWindow
  split
  · exact h
  · rename_i b hb
    split
    · rename_i hs
      exact tail_tabled (h.of_begun hb (by rw [hs]; rfl)).1 rfl rfl (.cooling _)
    · rename_i hs
      exact tail_tabled (h.of_begun hb (by rw [hs]; rfl)).1 rfl rfl (.cooling _)
    · split
      · exact markClosed_tabled h
      · exact completeBarred_tabled (modFront_tabled (markClosed_tabled h) (fun _ => rfl) (fun _ => rfl) (fun _ => rfl)
          fun _ => rfl)
    all_goals exact h

theorem zeroTail_laser {q : Sequencer} (h : zeroTail q = true) : q.laser = .tail := by
  simp only [zeroTail, Bool.and_eq_true, beq_iff_eq] at h
  exact h.1

theorem atOnceRounds_tabled (n : Nat) (own : Option U16) (h : Tabled U (s.chan c)) :
    Tabled U ((atOnceRounds n c own s).chan c) := by
  induction n generalizing s with
  | zero => exact h
  | succ n ih =>
    unfold atOnceRounds
    split
    · rename_i hzero; exact ih (endTail_tabled h (zeroTail_laser hzero))
    · split
      · exact h
      · exact ih (closeWindow_tabled h)

theorem runAtOnce_tabled (own : Option U16) (h : Tabled U (s.chan c)) : Tabled U ((runAtOnce c own s).chan c) :=
  atOnceRounds_tabled _ _ h

theorem tailOver_tabled (h : Tabled U (s.chan c)) (hl : (s.chan c).seq.laser = .tail) :
    Tabled U ((tailOver c s).chan c) := runAtOnce_tabled _ (endTail_tabled h hl)

theorem atOnce_tabled {f : State → State} (h : Tabled U ((f s).chan c)) : Tabled U ((atOnce c f s).chan c) :=
  runAtOnce_tabled _ h

theorem tailAtOnce_tabled (h : Tabled U (s.chan c)) : Tabled U ((tailAtOnce c s).chan c) := by
  unfold tailAtOnce
  split
  · rename_i hzero; exact tailOver_tabled h (zeroTail_laser hzero)
  · exact h

/-! ## The write gate -/

theorem acceptGate_tabled {b : Burst} {rest : List Burst} (h : Lit U (s.chan c) b rest) (hruns : Runs (s.chan c).seq.laser b.state)
    (u : Bool) : Tabled U ((acceptGate c u s).chan c) := by
  have h0 := h.phaseEnded s.now
  rw [← endPhase_chan] at h0
  unfold acceptGate
  dsimp only
  split
  · rename_i d g hd _
    rw [State.front, h0.head?] at hd
    cases hd
    rw [State.modSeq_chan, modFront_chan]
    have hon := h0.modFirst (f := fun _ => { (s.chan c).litUpTo b s.now with
      state := .writing
      gate := some ⟨s.now, (s.now : Int) - g.time, none⟩
      underheat := ((s.chan c).litUpTo b s.now).underheat || u }) rfl rfl
    refine .lit _ rest ⟨hon.seq.congr rfl rfl rfl rfl rfl, hon.queue, hon.waits⟩ ?_
    dsimp only
    split
    · exact .sustain
    · exact .boost
  · rw [endPhase_chan]
    exact (Tabled.lit b rest h hruns).phaseEnded _

theorem gateRise_tabled (h : Tabled U (s.chan c)) : Tabled U ((gateRise c s).chan c) := by
  have hnoted : Tabled U ((unplannedGate c s).chan c) := by rw [unplannedGate, placeNotice_chan]; exact h
  unfold gateRise
  split
  · exact hnoted
  · rename_i b hb
    split
    · split
      · rename_i hs
        obtain ⟨hon, hruns⟩ := h.of_begun hb (by rw [hs]; rfl)
        exact acceptGate_tabled hon hruns _
      · rename_i hs
        obtain ⟨hon, hruns⟩ := h.of_begun hb (by rw [hs]; rfl)
        split
        · exact acceptGate_tabled hon hruns _
        · exact tail_tabled hon rfl rfl (.cooling _)
      · exact modFront_tabled h (fun _ => rfl) (fun _ => rfl) (fun _ => rfl) fun _ => rfl
      all_goals exact hnoted
    · exact hnoted

theorem writtenTail_tabled {b : Burst} {rest : List Burst} (h : Lit U (s.chan c) b rest) :
    Tabled U ((writtenTail c s).chan c) := tail_tabled h rfl rfl (.cooling _)

theorem writing_lit {l : LaserState} (h : l.writing = true) : l.lit = true ∧ l ≠ .tail := by
  cases l <;> simp_all [LaserState.writing, LaserState.lit]

/-- The second burst, of the same head, takes over the laser (R83). -/
theorem handOver_tabled {b1 b2 d : Burst} {rest : List Burst} (h : Lit U (s.chan c) b1 (b2 :: rest))
    (hd : d.head = b1.head) : Tabled U ((handOver c d s).chan c) := by
  have hqueue := completeFront_second ⟨.written, .none⟩ h.queue
  have hseq : ((completeFront c ⟨.written, .none⟩ s).chan c).seq = (s.chan c).seq := by
    rw [completeFront_chan, if_neg (by simp [h.queue])]; rfl
  unfold handOver
  dsimp only
  rw [setCommit_chan, State.modSeq_chan, modFront_chan, hqueue, hseq]
  exact .lit { d with state := .ready, hotChain := true, leadUsed := some ⟨d.plan.lead, false⟩ } rest
    ⟨⟨rfl, h.seq.selected.trans (congrArg some hd.symm), rfl⟩, rfl,
    h.waits.sublist (List.sublist_cons_self ..)⟩ .hold

/-- The second burst keeps its place with the bar that was decided (R84). -/
theorem failHandOver_tabled {b1 b2 d : Burst} {rest : List Burst} (h : Lit U (s.chan c) b1 (b2 :: rest))
    (hs : d.state = b2.state) (ha : d.acc = b2.acc) (r : Reason) : Tabled U ((failHandOver c d r s).chan c) := by
  obtain ⟨hb2, hrest⟩ := List.forall_mem_cons.1 h.waits
  refine writtenTail_tabled (b := b1) (rest := { d with decidedBar := some r } :: rest) ?_
  rw [State.modChan_chan]
  refine ⟨h.seq, ?_, List.forall_mem_cons.2 ⟨⟨hs.trans hb2.1, fun hu => ha.trans (hb2.2 hu)⟩, hrest⟩⟩
  simp [h.queue]

theorem withSupply_acc (b : Burst) (r : SupplyResult) : (b.withSupply r).acc = b.acc := by cases r <;> rfl
theorem withSupply_head (b : Burst) (r : SupplyResult) : (b.withSupply r).head = b.head := by cases r <;> rfl

theorem endWrite_tabled (h : Tabled U (s.chan c)) (hw : (s.chan c).seq.laser.writing = true) :
    Tabled U ((endWrite c s).chan c) := by
  obtain ⟨b, rest, hon, -⟩ := h.of_lit (writing_lit hw).1 (writing_lit hw).2
  have h0 := hon.phaseEnded s.now
  rw [← endPhase_chan] at h0
  have h1 := h0.modFirst (f := Burst.stopGate s.now) rfl rfl
  rw [← modFront_chan] at h1
  unfold endWrite
  dsimp only
  generalize modFront c (Burst.stopGate s.now) (endPhase c s) = s1 at h1 ⊢
  split
  · rename_i b1 b2 tail hq
    have hq' := hq
    rw [h1.queue] at hq'
    obtain ⟨hb1, hrest⟩ := List.cons.inj hq'
    rw [hb1, hrest] at h1
    split
    · rename_i hchain
      obtain ⟨-, -, hhead, -⟩ := chainable_second hchain
      have hfail := fun r k => failHandOver_tabled h1 (withSupply_state b2 r) (withSupply_acc b2 r) k
      split
      · exact hfail _ _
      all_goals
        split
        · exact handOver_tabled h1 ((withSupply_head ..).trans hhead)
        · exact hfail _ _
    · exact writtenTail_tabled h1
  · exact writtenTail_tabled h1

theorem gateFall_tabled (h : Tabled U (s.chan c)) : Tabled U ((gateFall c s).chan c) := by
  unfold gateFall
  split
  · rename_i hw; exact atOnce_tabled (endWrite_tabled h hw)
  · split
    · exact h
    · split
      · exact atOnce_tabled <| completeBarred_tabled <| modFront_tabled h (fun _ => rfl) (fun _ => rfl) (fun _ => rfl)
          fun _ => rfl
      · exact h

/-! ## Bars, aborts and the ends of phases -/

theorem barLit_tabled {b : Burst} {rest : List Burst} (h : Lit U (s.chan c) b rest) (r : Reason) :
    Tabled U ((barLit c r s).chan c) := tail_tabled h rfl rfl (.barred r)

theorem abortWrite_tabled (h : Tabled U (s.chan c)) (hw : (s.chan c).seq.laser.writing = true) (r : Reason) (n : Nat) :
    Tabled U ((abortWrite c r n s).chan c) := by
  obtain ⟨b, rest, hon, -⟩ := h.of_lit (writing_lit hw).1 (writing_lit hw).2
  exact tail_tabled hon rfl rfl (.cooling _)

theorem strikeLaser_tabled (h : Tabled U (s.chan c)) (r : Reason) : Tabled U ((strikeLaser c r s).chan c) := by
  unfold strikeLaser
  split
  · rename_i hl
    obtain ⟨b, rest, hon, -⟩ := h.of_lit (by rw [hl]; rfl) (by simp [hl])
    exact barLit_tabled hon r
  · rename_i hl
    obtain ⟨b, rest, hon, -⟩ := h.of_lit (by rw [hl]; rfl) (by simp [hl])
    exact barLit_tabled hon r
  · rename_i hl; exact abortWrite_tabled h (by rw [hl]; rfl) r _
  · rename_i hl; exact abortWrite_tabled h (by rw [hl]; rfl) r _
  all_goals exact h

theorem endPreheat_tabled (h : Tabled U (s.chan c)) (hl : (s.chan c).seq.laser = .preheat) :
    Tabled U ((endPreheat c s).chan c) := by
  obtain ⟨b, rest, hon, -⟩ := h.of_lit (by rw [hl]; rfl) (by simp [hl])
  have h0 := hon.phaseEnded s.now
  rw [← endPhase_chan] at h0
  rw [endPreheat, State.modSeq_chan, modFront_chan]
  have h1 := h0.modFirst (f := fun b => { b with state := .ready }) rfl rfl
  exact .lit _ rest ⟨h1.seq.congr rfl rfl rfl rfl rfl, h1.queue, h1.waits⟩ .hold

theorem endBoost_tabled (h : Tabled U (s.chan c)) (hl : (s.chan c).seq.laser = .boost) :
    Tabled U ((endBoost c s).chan c) := by
  obtain ⟨b, rest, hon, hruns⟩ := h.of_lit (by rw [hl]; rfl) (by simp [hl])
  have h0 := hon.phaseEnded s.now
  rw [← endPhase_chan] at h0
  rw [endBoost, State.modSeq_chan]
  refine .lit _ rest ⟨h0.seq.congr rfl rfl rfl rfl rfl, h0.queue, h0.waits⟩ ?_
  rw [(litUpTo_alike _ b _).1]
  rw [hl] at hruns
  generalize b.state = k at hruns ⊢
  cases hruns
  exact .sustain

end Sys2Proof.Machine
end

section
/-! PROOFS. R67's table under flushes, faults, cancels, anchors and admissions, and under every part of a command; every burst
on the channel of its head's record (R3, R98). -/

namespace Sys2Proof.Machine

variable {U : Prop} {c : Chan} {s : State}

/-! ## A front burst that leaves while its tail runs -/

theorem flushed_tabled (x : Channel) (n : Nat) : Tabled U (x.flushed n) := .free (dark_free _) trivial

theorem frontTail_eq_true {x : Channel} : x.frontTail = true ↔ x.seq.laser = .tail ∧ x.seq.active = .front := by
  simp [Channel.frontTail]

/-- A tail that is detached from the front burst. -/
theorem detachFront_free {b : Burst} {rest : List Burst} (h : Lit U (s.chan c) b rest) (hl : (s.chan c).seq.laser = .tail) :
    ((detachFront c s).chan c).seq.Free ∧ ((detachFront c s).chan c).queue = (s.chan c).queue := by
  unfold detachFront
  rw [State.front, h.head?]
  dsimp only
  rw [State.modSeq_chan]
  exact ⟨.tail b rfl hl h.seq.selected h.seq.committed, rfl⟩

/-- A QUEUED or BARRED front burst is about to leave (R93). -/
theorem releaseFront_free (h : Tabled U (s.chan c)) {b : Burst} (hb : s.front c = some b) (hu : b.state.unlit = true) :
    ((releaseFront c s).chan c).seq.Free ∧ ((releaseFront c s).chan c).queue = (s.chan c).queue := by
  unfold releaseFront
  cases h with
  | free hf hq =>
    rw [if_neg fun ht => hf.not_front (frontTail_eq_true.1 ht).2]
    exact ⟨hf, rfl⟩
  | lit d rest hon hruns =>
    rw [State.front, hon.head?] at hb
    cases hb
    have hl : (s.chan c).seq.laser = .tail := by
      generalize (s.chan c).seq.laser = l at hruns
      generalize b.state = k at hruns hu
      cases hruns with
      | cooling v => rfl
      | barred r => rfl
      | preheat => cases hu
      | hold => cases hu
      | boost => cases hu
      | sustain => cases hu
    rw [if_pos (frontTail_eq_true.2 ⟨hl, hon.seq.active⟩)]
    exact detachFront_free hon hl

theorem flushHead_tabled (h : Fin 24) {d : Chan} (ht : Tabled U (s.chan d)) : Tabled U ((flushHead h s).1.chan d) := by
  by_cases hd : d = s.heads[h].channel
  · subst hd
    unfold flushHead
    dsimp only
    rw [removeWhere_chan]
    cases hb : s.front s.heads[h].channel with
    | none =>
      rw [if_neg (by simp)]
      exact ht.without fun b hmem => absurd (hmem.symm.trans hb) (by simp)
    | some b =>
      by_cases hout : flushedWithHead h b = true
      · rw [if_pos (by simpa using hout)]
        obtain ⟨hf, hq⟩ := releaseFront_free ht hb (Bool.and_eq_true_iff.1 hout).2
        exact Tabled.without_front hf (by rw [hq]; exact ht.rest) (by rw [hq]; exact hb) hout
      · rw [if_neg (by simpa using hout)]
        refine ht.without fun e he => ?_
        obtain rfl : b = e := Option.some.inj (hb.symm.trans he)
        simpa using hout
  · rw [(SameOther.flushHead h s).chan hd]
    exact ht

theorem endBiasOn_tabled {h : Fin 24} {d : Chan} (ht : Tabled U (s.chan d)) : Tabled U ((endBiasOn c h s).chan d) := by
  by_cases hd : d = c
  · subst hd
    unfold endBiasOn
    dsimp only
    split
    · rename_i hbias
      exact goDark_tabled (ht.of_unlit (by rw [hbias.1]; rfl)).2
    · exact ht
  · rw [(SameOther.endBiasOn c h s).chan hd]
    exact ht

theorem enterFault_tabled {h : Fin 24} {k : FaultCause} {d : Chan} (ht : Tabled U (s.chan d)) :
    Tabled U ((enterFault h k s).chan d) := by
  unfold enterFault
  dsimp only
  split
  · rw [placeNotice_chan]
    refine endBiasOn_tabled (flushHead_tabled h ?_)
    unfold chargeFlushed chargeEnded
    dsimp only
    split
    · split
      · rwa [State.setHead_chan]
      · rw [chargeFront_eq, chargeSome_chan, State.setHead_chan]; exact ht
    · rwa [State.setHead_chan]
  · exact ht

theorem addStrike_tabled {h : Fin 24} {d : Chan} (ht : Tabled U (s.chan d)) : Tabled U ((addStrike h s).chan d) := by
  unfold addStrike
  dsimp only
  split
  · exact enterFault_tabled (by rwa [State.setHead_chan])
  · rwa [State.setHead_chan]

/-! ## Both channels -/

/-- Both channels stand in R67's table. -/
def Table (U : Prop) (s : State) : Prop := ∀ c : Chan, Tabled U (s.chan c)

/-- One channel stands in the table, and the other is as it was. -/
theorem Table.of_chan {t : State} (h : Table U s) (hc : Tabled U (t.chan c)) (ho : SameOther c s t) : Table U t := by
  intro d
  by_cases hd : d = c
  · subst hd; exact hc
  · rw [ho.chan hd]; exact h d

theorem Table.of_chans {t : State} (h : Table U s) (hc : ∀ d, t.chan d = s.chan d) : Table U t :=
  fun d => by rw [hc]; exact h d

theorem Table.atOnce {f : State → State} (h : Table U (f s)) : Table U (atOnce c f s) :=
  h.of_chan (runAtOnce_tabled _ (h c)) (.runAtOnce ..)

theorem Table.dropSpan (h : Table U s) : Table U (dropSpan c s) :=
  h.of_chan (by rw [Machine.dropSpan, State.modSeq_chan]; exact (h c).congr rfl rfl rfl rfl rfl rfl) (.dropSpan ..)

theorem Table.enterFault (h : Table U s) (k : Fin 24) (f : FaultCause) : Table U (enterFault k f s) :=
  fun d => enterFault_tabled (h d)

theorem Table.addStrike (h : Table U s) (k : Fin 24) : Table U (addStrike k s) := fun d => addStrike_tabled (h d)

theorem Table.strikeLaser (h : Table U s) (r : Reason) : Table U (strikeLaser c r s) :=
  h.of_chan (strikeLaser_tabled (h c) r) (.strikeLaser ..)

theorem Table.lightLost (h : Table U s) (n : Nat) : Table U (lightLost c n s) := by
  unfold Machine.lightLost
  split
  · refine Table.atOnce ?_
    unfold dropout
    dsimp only
    split
    · exact h.strikeLaser _
    · exact (h.strikeLaser _).addStrike _
  · unfold owedDropout
    split
    · exact h
    · dsimp only
      split
      · exact h.dropSpan.addStrike _
      · exact h.dropSpan

theorem Table.owedAbsent (h : Table U s) : Table U (owedAbsent c s) := by
  unfold Machine.owedAbsent
  split
  · exact h
  · exact Table.atOnce (h.dropSpan.enterFault _ _)

theorem Table.park (h : Table U s) (b : Byte) : Table U (servePark (.fits b) s).1 := by
  simp only [servePark, withHeadState]
  split
  · exact h
  · rename_i k _
    split
    · have hact : Table U (endBiasOn s.heads[k].channel k
          (flushHead k (s.setHead k { s.heads[k] with state := .parked })).1) := fun d =>
        endBiasOn_tabled (flushHead_tabled k (by rw [State.setHead_chan]; exact h d))
      dsimp only
      split
      · exact Table.of_chan hact (runAtOnce_tabled _ (hact _)) (.runAtOnce ..)
      · exact hact
    · exact h

/-! ## The other events of a channel -/

theorem lightAbsent_table (h : Table U s) : Table U (lightAbsent c s) := by
  have hended : Table U (endPhase c s) := h.of_chan (by rw [endPhase_chan]; exact (h c).phaseEnded _) (.endPhase ..)
  have hother : SameOther c (endPhase c s) (goDark c (endPhase c s)) := .goDark ..
  have hqueue : ((goDark c (endPhase c s)).chan c).queue = ((endPhase c s).chan c).queue := by rw [goDark_chan]
  have hfree : ((goDark c (endPhase c s)).chan c).seq.Free := by rw [goDark_chan]; exact dark_free _
  have hdark : Rested U ((endPhase c s).chan c).queue → Table U (goDark c (endPhase c s)) := fun hq =>
    hended.of_chan (goDark_tabled hq) hother
  unfold lightAbsent
  dsimp only
  generalize endPhase c s = s0 at hended hother hqueue hfree hdark ⊢
  have htable := hended c
  split
  · rename_i hnone
    cases htable with
    | free _ hq => exact hdark hq
    | lit b rest hon _ => rw [hon.activeBurst] at hnone; cases hnone
  · rename_i b hb
    refine Table.enterFault ?_ _ _
    have hdone : ∀ u : State, (u.chan c).seq.Free → Waiting U (u.chan c).queue.tail → SameOther c s0 u → ∀ v,
        Table U (completeFront c v u) := fun u hf hw ho v =>
      hended.of_chan (completeFront_tabled hf hw v) (ho.trans (.completeFront ..))
    have hw : Waiting U ((goDark c s0).chan c).queue.tail := by rw [hqueue]; exact htable.rest
    split
    · rename_i hidle
      cases htable with
      | free _ hq => exact hdark hq
      | lit d rest hon _ => rw [hon.seq.active] at hidle; cases hidle
    · rename_i d hdet
      cases htable with
      | free _ hq => exact (hdark hq).of_chans fun e => chargeBurst_chan ..
      | lit e rest hon _ => rw [hon.seq.active] at hdet; cases hdet
    · rename_i hfront
      cases htable with
      | free hf _ => exact absurd hfront hf.not_front
      | lit d rest hon hruns =>
        rw [hon.activeBurst] at hb
        cases hb
        split
        · exact hdone _ hfree hw hother _
        · exact hdone _ hfree hw hother _
        · refine hdone _ (by rw [modFront_chan]; exact hfree) ?_ (hother.trans (.modFront ..)) _
          rw [modFront_chan, hqueue, hon.queue]
          exact hon.waits
        · exact hdone _ hfree hw hother _
        · rename_i r hr
          refine hdark ?_
          rw [hon.queue]
          exact ⟨by rw [hr]; rfl, fun hs => absurd hs hruns.not_queued, hon.waits⟩
        · rename_i hs
          exact absurd hs hruns.not_queued

theorem seeLight_tabled (h : Tabled U (s.chan c)) (n : Nat) : Tabled U ((seeLight c n s).chan c) := by
  have hseen : Tabled U ((s.modSeq c fun p => { p with light := .seen }).chan c) := by
    rw [State.modSeq_chan]
    exact h.congr rfl rfl rfl rfl rfl rfl
  unfold seeLight
  dsimp only
  split
  · unfold modActive
    have hpick : ∀ (b : Burst) (v : Option Nat), (if b.sampledArming then { b with latency := v } else b).state = b.state ∧
        (if b.sampledArming then { b with latency := v } else b).head = b.head ∧
        (if b.sampledArming then { b with latency := v } else b).currents = b.currents ∧
        (if b.sampledArming then { b with latency := v } else b).acc = b.acc := by
      intro b v
      split <;> exact ⟨rfl, rfl, rfl, rfl⟩
    split
    · exact hseen
    · exact modFront_tabled hseen (fun b => (hpick b _).1) (fun b => (hpick b _).2.1) (fun b => (hpick b _).2.2.1)
        fun b => (hpick b _).2.2.2
    · rename_i b hb
      rw [State.modSeq_chan]
      generalize s.modSeq c (fun p => { p with light := .seen }) = t at hseen hb ⊢
      cases hseen with
      | free hf hq =>
        refine .free ?_ hq
        cases hf with
        | dark ha => rw [ha] at hb; cases hb
        | bias ha => rw [ha] at hb; cases hb
        | tail d ha hl hsel hcom =>
          rw [ha] at hb
          cases hb
          refine .tail _ rfl hl (hsel.trans ?_) (hcom.trans ?_)
          · rw [(hpick b _).2.1]
          · rw [(hpick b _).2.2.1]
      | lit d rest hon _ => rw [hon.seq.active] at hb; cases hb
  · exact hseen

theorem anchorEvent_tabled (a : Anchor) (h : Tabled U (s.chan c)) : Tabled U ((anchorEvent c a s).chan c) := by
  have hgate : Tabled U ((s.modChan c fun x => { x with gate := regate x a }).chan c) := by
    rw [State.modChan_chan]
    exact h.congr rfl rfl rfl rfl rfl rfl
  unfold anchorEvent
  dsimp only
  generalize (s.modChan c fun x => { x with gate := regate x a }) = t at hgate ⊢
  have hcount : Tabled U ((if (t.chan c).seq.laser = .bias ∧ (t.chan c).config.biasHold ≠ 0 then
      t.modSeq c fun q => { q with biasCount := min (q.biasCount + 1) Config.max16 } else t).chan c) := by
    split
    · rw [State.modSeq_chan]; exact hgate.congr rfl rfl rfl rfl rfl rfl
    · exact hgate
  split
  · exact runAtOnce_tabled _ hcount
  · exact hcount

/-- CANCEL of a front burst: a lit one leaves a detached tail, and a BARRED one's running tail is detached (R20, R93). -/
theorem cancelFront_free (h : Tabled U (s.chan c)) {b : Burst} (hb : s.front c = some b)
    (hs : b.state.skipsCancel = false) :
    ((cancelFront c s).chan c).seq.Free ∧ ∃ d, ((cancelFront c s).chan c).queue = d :: (s.chan c).queue.tail ∧
      d.tag = b.tag ∧ d.head = b.head ∧ d.state = b.state := by
  have hbegun : b.state.begun = true → ((detachFront c (enterTail c s)).chan c).seq.Free ∧
      ∃ d, ((detachFront c (enterTail c s)).chan c).queue = d :: (s.chan c).queue.tail ∧ d.tag = b.tag ∧ d.head = b.head ∧
        d.state = b.state := by
    intro hbegun
    have hon := ((h.of_begun hb hbegun).1).phaseEnded s.now
    have hcore : ((s.chan c).litUpTo b s.now).tag = b.tag ∧ ((s.chan c).litUpTo b s.now).head = b.head ∧
        ((s.chan c).litUpTo b s.now).state = b.state := by
      unfold Channel.litUpTo
      split <;> exact ⟨rfl, rfl, rfl⟩
    have htail : Lit U ((enterTail c s).chan c) ((s.chan c).litUpTo b s.now) (s.chan c).queue.tail ∧
        ((enterTail c s).chan c).seq.laser = .tail := by
      rw [enterTail_chan, Channel.tailed, hon.activeBurst]
      exact ⟨⟨hon.seq.congr rfl rfl rfl rfl rfl, hon.queue, hon.waits⟩, rfl⟩
    obtain ⟨hf, hq⟩ := detachFront_free htail.1 htail.2
    exact ⟨hf, _, hq.trans htail.1.queue, hcore⟩
  unfold cancelFront
  rw [hb]
  dsimp only
  split
  · rename_i hst; exact hbegun (by rw [hst]; rfl)
  · rename_i hst; exact hbegun (by rw [hst]; rfl)
  · rename_i r hst
    have hcharged : (chargeEnded c s).chan c = s.chan c := by
      unfold chargeEnded
      split
      · rfl
      · rw [chargeFront_eq, chargeSome_chan]
    obtain ⟨hf, hq⟩ := releaseFront_free (s := chargeEnded c s) (by rw [hcharged]; exact h)
      (b := b) (by rw [State.front, hcharged]; exact hb) (by rw [hst]; rfl)
    exact ⟨hf, b, by rw [hq, hcharged]; exact front_queue hb, rfl, rfl, rfl⟩
  · rename_i hst
    have hlit : (s.chan c).seq.Free := by
      cases h with
      | free hf _ => exact hf
      | lit d rest hon hruns =>
        rw [State.front, hon.head?] at hb
        cases hb
        exact absurd hst hruns.not_queued
    exact ⟨hlit, b, front_queue hb, rfl, rfl, rfl⟩
  all_goals rename_i hst; rw [hst] at hs; cases hs

theorem cancelOn_tabled {sel : Burst → Bool} (blind : ∀ b d : Burst, b.tag = d.tag → b.head = d.head → sel b = sel d)
    (h : Tabled U (s.chan c)) : Tabled U ((cancelOn c sel s).1.chan c) := by
  unfold cancelOn
  dsimp only
  split
  · rename_i hany
    refine atOnce_tabled ?_
    rw [removeWhere_chan]
    obtain ⟨b, hb, hout⟩ := Option.any_eq_true _ _ |>.1 hany
    obtain ⟨hsel, hskip⟩ := Bool.and_eq_true_iff.1 hout
    obtain ⟨hf, d, hq, htag, hhead, hstate⟩ := cancelFront_free h hb (by simpa using hskip)
    refine Tabled.without_front hf ?_ (by rw [hq]; rfl) (b := d) ?_
    · rw [hq]; exact h.rest
    · rw [blind d b htag hhead, hstate]; exact hout
  · rename_i hany
    rw [removeWhere_chan]
    refine h.without fun b hb => ?_
    by_contra hyes
    exact hany (Option.any_eq_true _ _ |>.2 ⟨b, hb, by simpa using hyes⟩)

/-- Every event of a channel keeps both channels in the table. -/
theorem ChanEvent.table {t : State} (he : ChanEvent c s t) (h : Table U s) : Table U t := by
  cases he with
  | guard s =>
    exact (h.strikeLaser _).of_chan (tailAtOnce_tabled (h.strikeLaser (c := c) _ c)) (.tailAtOnce ..)
  | light n s =>
    refine h.of_chan ?_ (.lightRecognised ..)
    unfold lightRecognised
    split
    · exact seeLight_tabled (h c) n
    all_goals exact h c
  | lightLost n s => exact h.lightLost n
  | gateRise s => exact h.of_chan (tailAtOnce_tabled (gateRise_tabled (h c))) ((SameOther.gateRise ..).trans (.tailAtOnce ..))
  | gateFall s => exact h.of_chan (gateFall_tabled (h c)) (.gateFall ..)
  | arming s due => exact h.of_chan (atOnce_tabled (arm_tabled (h c) due)) (.atOnce (.arm ..))
  | preheatEnd s due => exact h.of_chan (endPreheat_tabled (h c) (phaseDue_laser due)) (.endPreheat ..)
  | windowClose s due => exact h.of_chan (atOnce_tabled (closeWindow_tabled (h c))) (.atOnce (.closeWindow ..))
  | boostEnd s due => exact h.of_chan (endBoost_tabled (h c) (phaseDue_laser due)) (.endBoost ..)
  | overrun n s due => exact h.of_chan (atOnce_tabled (abortWrite_tabled (h c) due _ _)) (.atOnce (.abortWrite ..))
  | tailEnd s due => exact h.of_chan (tailOver_tabled (h c) (phaseDue_laser due)) (.tailOver ..)
  | lightAbsent s due => exact (lightAbsent_table h).atOnce
  | owedAbsent s => exact h.owedAbsent
  | biasHold s due =>
    have hbias : (s.chan c).seq.laser = .bias := by
      unfold biasHoldDue at due
      simp only [Bool.and_eq_true, beq_iff_eq] at due
      tauto
    exact h.of_chan (goDark_tabled ((h c).of_unlit (by rw [hbias]; rfl)).2) (.goDark ..)
  | cancel sel s blind => exact h.of_chan (cancelOn_tabled blind (h c)) (.cancelOn ..)
  | park b s => exact h.park b
  | anchor a s => exact h.of_chan (anchorEvent_tabled a (h c)) (.anchorEvent ..)

end Sys2Proof.Machine
end

section
/-! PROOFS. Every step keeps R67's table, every burst on the channel of its head's record, and QUEUED bursts unlit (R3, R7, R44,
R67, R98). -/

namespace Sys2Proof.Machine

variable {U : Prop} {c : Chan} {s : State}

/-! ## The table and its laws -/

/-- What R67's table gives a lit laser and its front burst. -/
theorem lit_phaseMatches {x : Channel} {b : Burst} (ha : x.seq.active = .front) (hb : x.queue.head? = some b)
    (h : Runs x.seq.laser b.state) : phaseMatches x := by
  unfold phaseMatches
  rw [ha]
  generalize hk : b.state = k at h
  generalize x.seq.laser = l at h ⊢
  cases h with
  | preheat => exact ⟨b, hb, hk⟩
  | hold => exact ⟨b, hb, hk⟩
  | boost => exact ⟨b, hb, hk⟩
  | sustain => exact ⟨b, hb, hk⟩
  | cooling v => exact ⟨b, hb, .inl ⟨v, hk⟩⟩
  | barred r => exact ⟨b, hb, .inr ⟨r, hk⟩⟩

theorem Sequencer.Free.phaseMatches {x : Channel} (h : x.seq.Free) (hq : ∀ b ∈ x.queue.head?, b.state.begun = false) :
    phaseMatches x := by
  unfold Machine.phaseMatches
  cases h with
  | dark ha hl hs => rw [ha, hl]; exact ⟨hs, hq⟩
  | bias ha hl hs => rw [ha, hl]; exact ⟨hs, hq⟩
  | tail b ha hl => rw [ha, hl]; exact hq

theorem Table.phaseLaw (h : Table U s) : PhaseLaw s := fun c => by
  refine ⟨?_, fun b hb => ((h c).rest b hb).1⟩
  cases h c with
  | free hf hq => exact hf.phaseMatches hq.front
  | lit b rest hon hruns => exact lit_phaseMatches hon.seq.active hon.head? hruns

theorem Table.commitLaw (h : Table U s) : CommitLaw s := fun c => by
  cases h c with
  | free hf _ =>
    cases hf with
    | dark ha hl hs hc => rw [hl]; exact ⟨fun _ => hc, fun hn => (nomatch hn), fun hn => (nomatch hn)⟩
    | bias ha hl hs hc => rw [hl]; exact ⟨fun hn => (nomatch hn), fun _ => hc, fun hn => (nomatch hn)⟩
    | tail b ha hl hs hc =>
      rw [hl]
      exact ⟨fun hn => (nomatch hn), fun hn => (nomatch hn), fun _ => ⟨b, by rw [Channel.activeBurst, ha], hc, hs⟩⟩
  | lit b rest hon hruns =>
    refine ⟨fun hl => ?_, fun hl => ?_, fun _ => ⟨b, hon.activeBurst, hon.seq.committed, hon.seq.selected⟩⟩
    · have hlit := hruns.lit; rw [hl] at hlit; cases hlit
    · have hlit := hruns.lit; rw [hl] at hlit; cases hlit

theorem Table.unlitLaw (h : Table U s) (hu : U) : UnlitLaw s := fun c => (h c).unlit hu

/-- A queue whose front burst has not begun. -/
theorem rested_of {q : List Burst} (hfront : ∀ b ∈ q.head?, b.state.begun = false)
    (htail : ∀ b ∈ q.tail, b.state = .queued) (hu : U → ∀ b ∈ q, b.state = .queued → b.acc = 0) : Rested U q := by
  cases q with
  | nil => trivial
  | cons b q =>
    exact ⟨hfront b rfl, fun hs h => hu h b List.mem_cons_self hs,
      fun d hd => ⟨htail d hd, fun h => hu h d (List.mem_cons_of_mem _ hd) (htail d hd)⟩⟩

/-- The laws of the phases, the commitments and the unlit bursts give the table. -/
theorem table_of (hp : PhaseLaw s) (hc : CommitLaw s) (hu : U → UnlitLaw s) : Table U s := by
  intro c
  obtain ⟨hphase, htail⟩ := hp c
  obtain ⟨hdark, hbias, hlit⟩ := hc c
  have hunlit := fun h => hu h c
  generalize s.chan c = x at *
  have hrested := fun hq => rested_of (U := U) hq htail hunlit
  have hfront : (∃ b ∈ x.queue.head?, Runs x.seq.laser b.state) → x.seq.active = .front → Tabled U x := by
    rintro ⟨b, hb, hruns⟩ ha
    obtain ⟨d, hd, hcom, hsel⟩ := hlit hruns.lit
    rw [Channel.activeBurst, ha] at hd
    obtain rfl : b = d := Option.some.inj (hb.symm.trans hd)
    have hq : x.queue = b :: x.queue.tail := by
      cases hqueue : x.queue with
      | nil => rw [hqueue] at hb; cases hb
      | cons e rest => rw [hqueue] at hb; cases hb; rfl
    refine .lit b x.queue.tail ⟨⟨ha, hsel, hcom⟩, hq, fun e he => ⟨htail e he, fun h => ?_⟩⟩ hruns
    exact hunlit h e (List.mem_of_mem_tail he) (htail e he)
  unfold phaseMatches at hphase
  split at hphase
  · rename_i hl ha
    exact .free (.dark ha hl hphase.1 (hdark hl)) (hrested hphase.2)
  · rename_i hl ha
    exact .free (.bias ha hl hphase.1 (hbias hl)) (hrested hphase.2)
  · rename_i hl ha
    obtain ⟨b, hb, hs⟩ := hphase
    exact hfront ⟨b, hb, by rw [hl, hs]; exact .preheat⟩ ha
  · rename_i hl ha
    obtain ⟨b, hb, hs⟩ := hphase
    exact hfront ⟨b, hb, by rw [hl, hs]; exact .hold⟩ ha
  · rename_i hl ha
    obtain ⟨b, hb, hs⟩ := hphase
    exact hfront ⟨b, hb, by rw [hl, hs]; exact .boost⟩ ha
  · rename_i hl ha
    obtain ⟨b, hb, hs⟩ := hphase
    exact hfront ⟨b, hb, by rw [hl, hs]; exact .sustain⟩ ha
  · rename_i hl ha
    obtain ⟨b, hb, ⟨v, hs⟩ | ⟨r, hs⟩⟩ := hphase
    · exact hfront ⟨b, hb, by rw [hl, hs]; exact .cooling v⟩ ha
    · exact hfront ⟨b, hb, by rw [hl, hs]; exact .barred r⟩ ha
  · rename_i d hl ha
    obtain ⟨b, hb, hcom, hsel⟩ := hlit (by rw [hl]; rfl)
    rw [Channel.activeBurst, ha] at hb
    cases hb
    exact .free (.tail _ ha hl hsel hcom) (hrested hphase)
  · exact hphase.elim

/-! ## Admission -/

theorem Waiting.rested {q : List Burst} (h : Waiting U q) : Rested U q := by
  cases q with
  | nil => trivial
  | cons b q =>
    obtain ⟨hb, hq⟩ := List.forall_mem_cons.1 h
    exact ⟨by rw [hb.1]; rfl, fun _ hu => hb.2 hu, hq⟩

theorem Waiting.inserted {q : List Burst} (h : Waiting U q) {b : Burst} (hs : b.state = .queued) (ha : b.acc = 0) :
    Waiting U (inserted b q) := fun d hd => by
  obtain rfl | hd := mem_inserted hd
  · exact ⟨hs, fun _ => ha⟩
  · exact h d hd

/-- An entry that overlaps nothing does not come before a front burst that has left QUEUED (R17). -/
theorem inserted_front {b d : Burst} {rest : List Burst} {smin : Nat} (hlen : 0 < b.length) (hd : d.state ≠ .queued)
    (h : overlaps (d :: rest) smin b.position b.length = false) : inserted b (d :: rest) = d :: inserted b rest := by
  unfold overlaps at h
  simp only [Bool.or_eq_false_iff, List.head?_cons, Option.any_some] at h
  obtain ⟨⟨-, hupper⟩, hfront⟩ := h
  have hlow : d.position < b.position := by
    by_contra hge
    have hnot : ¬ b.position < d.position := fun hlt => by simp [hlt, hd] at hfront
    rw [List.filter_cons_of_pos (by simpa using Nat.not_lt.1 hge)] at hupper
    simp only [List.head?_cons, Option.any_some, decide_eq_false_iff_not] at hupper
    omega
  unfold inserted
  rw [below, List.filter_cons_of_pos (by simpa using hlow), above, List.filter_cons_of_neg (by simpa using hlow)]
  rfl

theorem Tabled.admitted {x : Channel} (h : Tabled U x) {b : Burst} {smin : Nat} (hs : b.state = .queued) (ha : b.acc = 0)
    (hlen : 0 < b.length) (hfree : overlaps x.queue smin b.position b.length = false) : Tabled U (x.admitted b) := by
  cases h with
  | free hf hq =>
    refine .free hf ?_
    show Rested U (inserted b x.queue)
    cases hqueue : x.queue with
    | nil => exact (Waiting.inserted (q := []) (fun _ hd => nomatch hd) hs ha).rested
    | cons d rest =>
      rw [hqueue] at hq hfree
      obtain ⟨hbegun, hzero, hrest⟩ := hq
      by_cases hd : d.state = .queued
      · exact (Waiting.inserted (List.forall_mem_cons.2 ⟨⟨hd, hzero hd⟩, hrest⟩) hs ha).rested
      · rw [inserted_front hlen hd hfree]
        exact ⟨hbegun, fun hqd => absurd hqd hd, hrest.inserted hs ha⟩
  | lit d rest hon hruns =>
    rw [hon.queue] at hfree
    refine .lit d (inserted b rest) ⟨hon.seq, ?_, hon.waits.inserted hs ha⟩ hruns
    show inserted b x.queue = _
    rw [hon.queue, inserted_front hlen hruns.not_queued hfree]

theorem Table.judgeEntry (h : Table U s) (e : PlanEntry) : Table U (judgeEntry e s).1 := by
  obtain heq | ⟨j, a, p, k, hadmits, heq⟩ := judgeEntry_cases e s
  · rw [heq]; exact h
  · have hchan : ∀ d, _ = _ := admitBurst_chan (b := entryBurst s e j a p) rfl k s
    have hlen : 0 < j.length := by have := (checkFields_home hadmits.fields).2; omega
    rw [heq]
    refine h.of_chan (c := j.channel) ?_ ?_
    · rw [hchan, show (entryBurst s e j a p).channel = j.channel from rfl, State.setChan_chan]
      exact (h j.channel).admitted (b := (entryBurst s e j a p).marked (captureMarkOf s k)) rfl rfl hlen hadmits.free
    · rw [SameOther, hchan, show (entryBurst s e j a p).channel = j.channel from rfl, State.setChan_other]

/-! ## The parts of a command -/

theorem Table.flushAll (h : Table U s) : Table U (flushAll c s).1 :=
  h.of_chan (by rw [flushAll_chan]; exact flushed_tabled ..) (.flushAll ..)

theorem Table.setTracker (h : Table U s) (t : Tracker) : Table U (setTracker c t s) :=
  h.of_chan (by rw [setTracker_chan]; exact (h c).congr rfl rfl rfl rfl rfl rfl) (setTracker_other ..)

/-- Only a Sequencer that runs no held burst holds a head in BIAS or by a detached tail. -/
theorem holdsHead_free {h : Fin 24} (ht : Tabled U (s.chan c)) (hh : holdsHead (s.chan c).seq h = true) :
    (s.chan c).seq.Free ∧ Rested U (s.chan c).queue := by
  cases ht with
  | free hf hq => exact ⟨hf, hq⟩
  | lit b rest hon hruns =>
    have hlaser : (s.chan c).seq.laser ≠ .bias := by intro hb; have hl := hruns.lit; rw [hb] at hl; cases hl
    simp [holdsHead, hon.seq.active, hlaser] at hh

theorem Table.darkenHeadOn (h : Table U s) (k : Fin 24) : Table U (darkenHeadOn k c s) := by
  refine h.of_chan ?_ (.darkenHeadOn ..)
  unfold Machine.darkenHeadOn
  split
  · rename_i hh
    obtain ⟨hf, hq⟩ := holdsHead_free (h c) hh
    refine goDark_tabled ?_
    rw [chargeDetached_eq, chargeSome_chan, endPhase_chan, phaseEnded_queue hf.not_front]
    exact hq
  · exact h c

theorem Table.darkenHead (h : Table U s) (k : Fin 24) : Table U (darkenHead k s) :=
  (h.darkenHeadOn k).darkenHeadOn k

theorem Table.setHead (h : Table U s) (k : Fin 24) (r : Head) : Table U (s.setHead k r) :=
  h.of_chans fun _ => State.setHead_chan ..

theorem resumed_chan (s : State) (d : Chan) : (resumed s).chan d = s.chan d := by
  unfold resumed
  dsimp only
  split <;> cases d <;> rfl

theorem leak_chan (s : State) (d : Chan) : (leak s).chan d = s.chan d := by
  cases d <;> simp only [State.chan_c0, State.chan_c1, Machine.leak]

theorem Table.enterSafeDark (h : Table U s) (k : SafeCause) : Table U (enterSafeDark k s) := by
  unfold Machine.enterSafeDark
  split
  · exact h
  · have hflag : Table U { s with safe := some k } := h.of_chans fun d => by cases d <;> rfl
    exact (hflag.flushAll (c := .c0)).flushAll (c := .c1) |>.of_chans fun d => by cases d <;> rfl

theorem reset_table (h : ∀ d, (s.chan d).queue = [] ∧ (s.chan d).seq = darkSequencer) : Table U s := fun d =>
  .free (by rw [(h d).2]; exact .dark rfl rfl rfl rfl) (by rw [(h d).1]; trivial)

theorem Part.table {gr : Grants} {t : State} (hpart : Part gr s t) (h : Table U s) : Table U t := by
  cases hpart with
  | core same =>
    intro d
    obtain ⟨v, l, hseq⟩ := (same.seats d).seq
    exact (h d).congr (same.seats d).queue (by rw [hseq]) (by rw [hseq]) (by rw [hseq]) (by rw [hseq]) (by rw [hseq])
  | event c he => exact he.table h
  | tracker c t s => exact h.setTracker t
  | lost c k t s => exact ((h.setTracker (c := c) t).flushAll (c := c)).of_chans fun d => placeNotice_chan ..
  | config c g s => exact h.of_chan (by rw [State.modChan_chan]; exact (h c).congr rfl rfl rfl rfl rfl rfl) (.modChan ..)
  | online c s => exact (h.setTracker (c := c) _).of_chans (bringOnline_chan c · s)
  | offline c s => exact ((h.setTracker (c := c) _).flushAll (c := c)).of_chans (takeOffline_chan c · s)
  | limit v s => exact h.of_chans (applyLimit_chan v s)
  | headSet k f c s => exact (h.setHead k _).darkenHead k
  | retire k s => exact (h.setHead k _).darkenHead k
  | wear k s => exact h.of_chans fun d => wearTest_chan ..
  | ready k n s => exact h.setHead k _
  | leak s => exact h.of_chans (leak_chan s)
  | timer t s => exact h.of_chans fun d => by cases d <;> rfl
  | safeDark k s => exact h.enterSafeDark k
  | resume s => exact h.of_chans (resumed_chan s)
  | supflt v s => exact h.of_chans fun d => by cases d <;> rfl
  | judged e s => exact h.judgeEntry e
  | cold s => exact reset_table fun d => by cases d <;> exact ⟨rfl, rfl⟩
  | run s => exact reset_table fun d => ⟨runState_queue s d, by cases d <;> rfl⟩

/-! ## Homes -/

/-- The heads of a channel's bursts have records that name the channel. -/
theorem Steady.homeLaw {t : State} (a : Steady s t) (h : HomeLaw s) : HomeLaw t := by
  have hqueue : ∀ c, ∀ b : Burst, (∃ d ∈ (s.chan c).queue, d.head = b.head) → t.heads[b.head].channel = c := by
    rintro c b ⟨d, hd, heq⟩
    have hhome := (h c).1 d hd
    rw [← (a.heads d.head).channel] at hhome
    simpa only [heq] using hhome
  intro c
  refine ⟨fun b hb => hqueue c b ((a.ages c).queue.heads hb), fun b hb => ?_⟩
  obtain hd | ⟨d, hd, heq⟩ := (a.ages c).detached b hb
  · exact hqueue c b hd
  · have hhome := (h c).2 d hd
    rw [← (a.heads d.head).channel] at hhome
    simpa only [heq] using hhome

/-- The channels hold no burst that they did not, and the heads keep their channels. -/
theorem HomeLaw.of_sub {t : State} (h : HomeLaw s) (hc : ∀ d, ∀ b ∈ (t.chan d).queue, b ∈ (s.chan d).queue)
    (ha : ∀ d b, (t.chan d).seq.active = .detached b → (s.chan d).seq.active = .detached b)
    (hh : ∀ k : Fin 24, t.heads[k].channel = s.heads[k].channel) : HomeLaw t := fun d =>
  ⟨fun b hb => by rw [hh]; exact (h d).1 b (hc d b hb), fun b hb => by rw [hh]; exact (h d).2 b (ha d b hb)⟩

theorem HomeLaw.of_eq {t : State} (h : HomeLaw s) (hc : ∀ d, t.chan d = s.chan d) (hh : t.heads = s.heads) : HomeLaw t :=
  h.of_sub (fun d b hb => by rwa [hc] at hb) (fun d b hb => by rwa [hc] at hb) fun k => by rw [hh]

theorem HomeLaw.setTracker (h : HomeLaw s) (t : Tracker) : HomeLaw (setTracker c t s) := by
  have hsame : ∀ d, ((Machine.setTracker c t s).chan d).queue = (s.chan d).queue ∧
      ((Machine.setTracker c t s).chan d).seq = (s.chan d).seq := fun d => ⟨setTracker_queue .., setTracker_seq ..⟩
  refine h.of_sub (fun d b hb => by rwa [(hsame d).1] at hb) (fun d b hb => by rwa [(hsame d).2] at hb) fun k => ?_
  rw [Machine.setTracker, State.modChan_heads]

/-- A detached tail that goes on after a head was darkened was not one of that head (R92). -/
theorem darkenHeadOn_detached {h : Fin 24} {b : Burst}
    (hb : ((darkenHeadOn h c s).chan c).seq.active = .detached b) :
    (s.chan c).seq.active = .detached b ∧ (s.chan c).seq.selected ≠ some h := by
  unfold darkenHeadOn at hb
  split at hb
  · rw [goDark_chan] at hb; cases hb
  · rename_i hno
    exact ⟨hb, fun hsel => hno (by simp [holdsHead, hsel, hb])⟩

theorem darkenHead_detached {h : Fin 24} {d : Chan} {b : Burst} (hb : ((darkenHead h s).chan d).seq.active = .detached b) :
    (s.chan d).seq.active = .detached b ∧ (s.chan d).seq.selected ≠ some h := by
  have h0 : (darkenHeadOn h .c1 (darkenHeadOn h .c0 s)).chan .c0 = (darkenHeadOn h .c0 s).chan .c0 :=
    SameOther.darkenHeadOn h .c1 _
  have h1 : (darkenHeadOn h .c0 s).chan .c1 = s.chan .c1 := SameOther.darkenHeadOn h .c0 s
  unfold darkenHead at hb
  cases d with
  | c0 => rw [h0] at hb; exact darkenHeadOn_detached hb
  | c1 => have hb' := darkenHeadOn_detached hb; rwa [h1] at hb'

theorem headBusy_eq_false {h : Fin 24} : s.headBusy h = false ↔ ∀ c, ∀ b ∈ (s.chan c).queue, b.head ≠ h := by
  unfold State.headBusy
  simp only [Bool.or_eq_false_iff, List.any_eq_false, beq_iff_eq]
  exact ⟨fun hh c => by cases c <;> [exact hh.1; exact hh.2], fun hh => ⟨hh .c0, hh .c1⟩⟩

/-- The record of a head that holds no burst is written, and what runs on the head is darkened (R99). -/
theorem HomeLaw.headSet (h : HomeLaw s) (ht : Table U s) {k : Fin 24} (free : s.headBusy k = false) (r : Head) :
    HomeLaw (darkenHead k (s.setHead k r)) := by
  have hsteady := Steady.darkenHead k (s.setHead k r)
  have hother : ∀ j, j ≠ k → (darkenHead k (s.setHead k r)).heads[j].channel = s.heads[j].channel := by
    intro j hj
    rw [(hsteady.heads j).channel, State.setHead_heads, heads_set_ne _ _ _ _ hj]
  intro d
  refine ⟨fun b hb => ?_, fun b hb => ?_⟩
  · obtain ⟨e, he, heq⟩ := (hsteady.ages d).queue.heads hb
    rw [State.setHead_chan] at he
    have hhome := (h d).1 e he
    simp only [heq] at hhome
    rw [hother b.head (heq ▸ headBusy_eq_false.1 free d e he)]
    exact hhome
  · obtain ⟨hdet, hsel⟩ := darkenHead_detached hb
    rw [State.setHead_chan] at hdet hsel
    have hhead : (s.chan d).seq.selected = some b.head := by
      cases ht d with
      | free hf _ =>
        cases hf with
        | dark ha => rw [ha] at hdet; cases hdet
        | bias ha => rw [ha] at hdet; cases hdet
        | tail e ha _ hs => rw [ha] at hdet; cases hdet; exact hs
      | lit e rest hon _ => rw [hon.seq.active] at hdet; cases hdet
    rw [hother b.head fun heq => hsel (heq ▸ hhead)]
    exact (h d).2 b hdet

theorem HomeLaw.judgeEntry (h : HomeLaw s) (e : PlanEntry) : HomeLaw (judgeEntry e s).1 := by
  obtain heq | ⟨j, a, p, k, hadmits, heq⟩ := judgeEntry_cases e s
  · rw [heq]; exact h
  · have hchan : ∀ d, _ = _ := admitBurst_chan (b := entryBurst s e j a p) rfl k s
    obtain ⟨hheads, -⟩ := admitBurst_rest (b := entryBurst s e j a p) rfl k s
    rw [heq]
    intro d
    rw [hheads, hchan, show (entryBurst s e j a p).channel = j.channel from rfl]
    obtain rfl | rfl := Chan.eq_or_other j.channel d
    · rw [State.setChan_chan]
      refine ⟨fun b hb => ?_, (h j.channel).2⟩
      obtain rfl | hb := mem_inserted hb
      · exact (checkFields_home hadmits.fields).1.symm
      · exact (h j.channel).1 b hb
    · rw [State.setChan_other]; exact h _

/-- A reset leaves no burst. -/
theorem reset_home (h : ∀ d, (s.chan d).queue = [] ∧ (s.chan d).seq = darkSequencer) : HomeLaw s := fun d => by
  rw [(h d).1, (h d).2]
  exact ⟨fun _ hb => (nomatch hb), fun _ hb => (nomatch hb)⟩

theorem Part.homeLaw {gr : Grants} {t : State} (hpart : Part gr s t) (ht : Table U s) (h : HomeLaw s) : HomeLaw t := by
  obtain hsteady | hrare := hpart.steady_or_rare
  · exact hsteady.homeLaw h
  · cases hrare with
    | tracker c t s => exact h.setTracker t
    | lost c k t s =>
      exact ((Steady.flushAll c _).trans (.placeNotice _ _)).homeLaw (h.setTracker (c := c) t)
    | config c g s =>
      refine h.of_sub (fun d b hb => ?_) (fun d b hb => ?_) fun k => by rw [State.modChan_heads]
      all_goals obtain rfl | rfl := Chan.eq_or_other c d
      · rwa [State.modChan_chan] at hb
      · rwa [State.modChan_other] at hb
      · rwa [State.modChan_chan] at hb
      · rwa [State.modChan_other] at hb
    | online c s =>
      refine (h.setTracker (c := c) _).of_eq (bringOnline_chan c · s) ?_
      unfold bringOnline
      dsimp only
      split <;> rfl
    | offline c s =>
      refine ((Steady.flushAll c _).homeLaw (h.setTracker (c := c) _)).of_eq (takeOffline_chan c · s) ?_
      unfold takeOffline
      dsimp only
      split <;> rfl
    | limit v s => exact h.of_eq (applyLimit_chan v s) (by rw [applyLimit_eq])
    | headSet k f c s free => exact h.headSet ht free _
    | judged e s => exact h.judgeEntry e
    | cold s => exact reset_home fun d => by cases d <;> exact ⟨rfl, rfl⟩
    | run s => exact reset_home fun d => ⟨runState_queue s d, by cases d <;> rfl⟩

/-- Settles O9: every part of a command keeps the table (`Part.table`), and with it the homes of the bursts. -/
theorem stepKeepsThePhaseTable : Obligations.StepKeepsThePhaseTable := by
  intro s t hphase hcommit hstep
  have hfree : ∀ (s : State) (p : List Instr) (n : Nat), ∀ d, ({ s with pending := p, choices := n } : State).chan d = s.chan d :=
    fun s p n d => by cases d <;> rfl
  have htable : Table (UnlitLaw s) t :=
    step_keeps (fun _ _ hpart h => hpart.table h) (fun s p n h => h.of_chans (hfree s p n)) hstep
      (table_of hphase hcommit id)
  refine ⟨htable.phaseLaw, htable.commitLaw, fun hhome => ?_, htable.unlitLaw⟩
  have hboth : Table False t ∧ HomeLaw t :=
    step_keeps (P := fun u => Table False u ∧ HomeLaw u)
      (fun _ _ hpart h => ⟨hpart.table h.1, hpart.homeLaw h.1 h.2⟩)
      (fun s p n h => ⟨h.1.of_chans (hfree s p n), h.2.of_eq (hfree s p n) rfl⟩) hstep
      ⟨table_of hphase hcommit False.elim, hhome⟩
  exact hboth.2

end Sys2Proof.Machine
end

section
/-! PROOFS. The output lines: after every command they stand at the levels that the state gives them, and a held part has both
channels OFFLINE (R67, R68, R91, R180). -/

namespace Sys2Proof.Machine

variable {s : State} {c : Chan}

/-! ## Driven states -/

/-- A channel's two output lines are at the levels its state gives them. -/
structure Channel.AtLevels (x : Channel) (safe : Bool) : Prop where
  veto : x.seq.veto = vetoLevel x safe
  lane : x.seq.lane = laneLevel x

theorem driven_levels (x : Channel) (v : Bool) : (x.driven v).AtLevels v := ⟨rfl, rfl⟩

theorem driven_of_levels {x : Channel} {v : Bool} (h : x.AtLevels v) : x.driven v = x := by
  unfold Channel.driven
  rw [← h.veto, ← h.lane]

/-- The output lines need no update exactly when both channels' lines are at their levels. -/
theorem driveOutputs_self_iff : driveOutputs s = s ↔ ∀ c, (s.chan c).AtLevels s.safe.isSome := by
  constructor
  · intro h c
    have hc := driven_levels (s.chan c) s.safe.isSome
    rwa [← driveOutputs_chan, h] at hc
  · intro h
    have h0 : s.ch0.driven s.safe.isSome = s.ch0 := driven_of_levels (h .c0)
    have h1 : s.ch1.driven s.safe.isSome = s.ch1 := driven_of_levels (h .c1)
    unfold driveOutputs
    rw [h0, h1]

theorem driveOutputs_settled (s : State) : driveOutputs (driveOutputs s) = driveOutputs s :=
  driveOutputs_self_iff.2 fun c => by rw [driveOutputs_chan]; exact driven_levels ..

/-- A state with the channels and Safe Dark of a state whose lines are at their levels. -/
theorem OutputLaw.of_eq {t : State} (h : OutputLaw s) (hc : ∀ d, t.chan d = s.chan d) (hs : t.safe = s.safe)
    (hh : t.held = s.held) : OutputLaw t where
  settled := driveOutputs_self_iff.2 fun d => by rw [hc, hs]; exact driveOutputs_self_iff.1 h.settled d
  held ht := by
    rw [hh] at ht
    rw [show t.ch0 = s.ch0 from hc .c0, show t.ch1 = s.ch1 from hc .c1]
    exact h.held ht

/-- The output lines are driven, and the part is not held. -/
theorem OutputLaw.driven (h : s.held = false) : OutputLaw (driveOutputs s) where
  settled := driveOutputs_settled s
  held ht := by rw [driveOutputs_held, h] at ht; cases ht

theorem OutputLaw.offline (h : OutputLaw s) (hh : s.held = true) (c : Chan) : (s.chan c).online = false := by
  cases c
  · exact (h.held hh).1
  · exact (h.held hh).2

/-- On a held part a line that enters neither a current nor a lock may move, the write gate among them: both channels are
OFFLINE, so their vetoes stay asserted (R180). -/
theorem OutputLaw.pin (h : OutputLaw s) (hh : s.held = true) (f : Channel → Channel)
    (hseq : (f (s.chan c)).seq = (s.chan c).seq) (hq : (f (s.chan c)).queue = (s.chan c).queue)
    (ht : (f (s.chan c)).tracker = (s.chan c).tracker) : OutputLaw (s.modChan c f) := by
  have hoff : (f (s.chan c)).online = false := by rw [Channel.online, ht]; exact h.offline hh c
  have hlevels := driveOutputs_self_iff.1 h.settled
  have hchan : ∀ d, ((s.modChan c f).chan d).AtLevels s.safe.isSome ∧ ((s.modChan c f).chan d).online = false := by
    intro d
    obtain rfl | rfl := Chan.eq_or_other c d
    · rw [State.modChan_chan]
      refine ⟨⟨?_, ?_⟩, hoff⟩
      · have hv := (hlevels d).veto
        rw [vetoLevel, h.offline hh d] at hv
        rw [vetoLevel, hoff, hseq, hv]
        simp
      · have hl := (hlevels d).lane
        unfold laneLevel Channel.activeBurst at hl ⊢
        rw [hseq, hq]
        exact hl
    · rw [State.modChan_other]
      exact ⟨hlevels _, h.offline hh _⟩
  refine ⟨driveOutputs_self_iff.2 fun d => ?_, fun _ => ⟨(hchan .c0).2, (hchan .c1).2⟩⟩
  rw [State.modChan_safe]
  exact (hchan d).1

/-! ## Commands -/

theorem OutputLaw.onEvent {f : State → State} (h : OutputLaw s) (hf : (f s).held = s.held) : OutputLaw (onEvent f s) := by
  unfold Machine.onEvent
  split
  · exact h
  · rename_i hh
    exact .driven (by rw [startNotice_held, hf]; simpa using hh)

theorem OutputLaw.onLink {f : State → State} (h : OutputLaw s) (hf : s.held = false → (f s).held = false) :
    OutputLaw (onLink f s) := by
  unfold Machine.onLink
  split
  · exact h
  · rename_i hh
    exact .driven (by rw [pump_held]; exact hf (by simpa using hh))

theorem onEvent_held {f : State → State} (hf : (f s).held = s.held) : (onEvent f s).held = s.held := by
  unfold onEvent
  split
  · rfl
  · rw [driveOutputs_held, startNotice_held, hf]

theorem syncRecognised_held (c : Chan) (n : Nat) (i : Bool) (s : State) : (syncRecognised c n i s).held = s.held :=
  (Calm.syncRecognised c n i s).tables.held

theorem recogniseSync_held (c : Chan) (s : State) : (recogniseSync c s).held = s.held := by
  rw [recogniseSync, syncRecognised_held, State.setChan_held]

theorem takeEdge_held (c : Chan) (s : State) (e : SyncPin × LineEdge) : (takeEdge c s e).held = s.held := by
  rw [takeEdge, moveEdge, State.modChan_held]
  split
  · exact onEvent_held (recogniseSync_held c s)
  · rfl

theorem takeEdges_held (c : Chan) (es : List (SyncPin × LineEdge)) (s : State) :
    (es.foldl (takeEdge c) s).held = s.held := by
  induction es generalizing s with
  | nil => rfl
  | cons e es ih => rw [List.foldl_cons, ih, takeEdge_held]

/-- An event that is taken when it is due. -/
theorem whenDue_held {due : Bool} {f : State → State} (hf : (f s).held = s.held) :
    (if due = true then f s else s).held = s.held := by
  split
  · exact hf
  · rfl

/-- A line of GUARD or LSENSE takes another record, with what is recognised. -/
theorem recogniseGuard_held (c : Chan) (s : State) : (recogniseGuard c s).held = s.held := by
  unfold recogniseGuard
  dsimp only
  split
  · rw [(ChanEvent.guard (c := c) _).calm.tables.held, setGuardLine, State.modChan_held]
  · rw [setGuardLine, State.modChan_held]

theorem guardEdge_held (c : Chan) (v : Bool) (n : Nat) (s : State) : (guardEdge c v n s).held = s.held := by
  unfold guardEdge
  dsimp only
  split
  · rw [recogniseGuard_held, setGuardLine, State.modChan_held]
  · rw [setGuardLine, State.modChan_held]

theorem recogniseLight_held (c : Chan) (s : State) : (recogniseLight c s).held = s.held := by
  unfold recogniseLight
  dsimp only
  split
  · rw [(lightRecognised_calm ..).tables.held, setLightLine, State.modChan_held]
  · rw [(lightLost_calm ..).tables.held, setLightLine, State.modChan_held]

theorem lightEdge_held (c : Chan) (v : Bool) (n : Nat) (s : State) : (lightEdge c v n s).held = s.held := by
  unfold lightEdge
  dsimp only
  split
  · rw [recogniseLight_held, setLightLine, State.modChan_held]
  · rw [setLightLine, State.modChan_held]

theorem OutputLaw.onGuard (h : OutputLaw s) (c : Chan) (v : Bool) (n : Nat) : OutputLaw (onGuard c v n s) := by
  unfold Machine.onGuard
  dsimp only
  split
  · rename_i hh; exact h.pin hh _ rfl rfl rfl
  · split
    · exact (h.onEvent (recogniseGuard_held c s)).onEvent (guardEdge_held ..)
    · exact h.onEvent (guardEdge_held ..)

theorem OutputLaw.onLight (h : OutputLaw s) (c : Chan) (v : Bool) (n : Nat) : OutputLaw (onLight c v n s) := by
  unfold Machine.onLight
  dsimp only
  split
  · rename_i hh; exact h.pin hh _ rfl rfl rfl
  · split
    · exact (h.onEvent (recogniseLight_held c s)).onEvent (lightEdge_held ..)
    · exact h.onEvent (lightEdge_held ..)

theorem OutputLaw.pinEdges (h : OutputLaw s) (hh : s.held = true) (es : List (SyncPin × LineEdge)) :
    OutputLaw (es.foldl (pinEdge c) s) := by
  induction es generalizing s with
  | nil => exact h
  | cons e es ih =>
    rw [List.foldl_cons]
    refine ih ?_ ((State.modChan_held ..).trans hh)
    obtain ⟨p, e⟩ := e
    cases p <;> exact h.pin hh _ rfl rfl rfl

/-- The write gate moves, and the lines are driven unless the part is held. -/
theorem OutputLaw.gate {f : State → State} (h : OutputLaw s) (v : Bool) (hf : ∀ u, (f u).held = u.held) :
    OutputLaw (Machine.onEvent f (s.setChan c { s.chan c with wgate := v })) := by
  unfold Machine.onEvent
  split
  · rename_i hh
    rw [State.setChan_held] at hh
    exact h.pin hh (fun x => { x with wgate := v }) rfl rfl rfl
  · rename_i hh
    exact .driven (by rw [startNotice_held, hf]; simpa using hh)

theorem enterSafeDark_held (k : SafeCause) (s : State) : (enterSafeDark k s).held = s.held := (enterSafeDark_kept ..).held

theorem afterReset_held (s : State) : (afterReset s).held = s.held := by
  unfold afterReset
  split
  · exact enterSafeDark_held ..
  · rfl

theorem endFrame_held (h : s.held = false) : (endFrame s).held = false := by
  unfold endFrame
  split
  · exact h
  · split
    · dsimp only
      split
      · exact h
      · rename_i sc _
        cases sc
        · exact afterReset_held ..
        · exact afterReset_held ..
    · exact h

theorem takeEntry_held (s : State) : (takeEntry s).held = s.held := by
  unfold takeEntry
  split
  · dsimp only
    split <;> exact (judgeEntry_kept ..).held
  · rfl

theorem OutputLaw.takeChars (h : OutputLaw s) (hh : s.held = false) (cs : List Character) : OutputLaw (takeChars cs s) := by
  induction cs generalizing s with
  | nil => exact h
  | cons k cs ih =>
    have hnext : OutputLaw (takeChar s k) ∧ (takeChar s k).held = false := by
      obtain ⟨_, he⟩ | ⟨-, r, s1, -, hs1, ⟨_, he⟩ | ⟨f, -, he⟩⟩ := takeChar_cases s k
      · rw [he]; exact ⟨h, hh⟩
      · rw [he, hs1]
        exact ⟨h.of_eq (fun d => by cases d <;> rfl) rfl rfl, hh⟩
      · have hheld1 : s1.held = false := by rw [hs1]; exact hh
        rw [he]
        exact ⟨.driven (by rw [pump_held, arrive_held]; exact hheld1), (arrived_held ..).trans hheld1⟩
    exact ih hnext.1 hnext.2

theorem OutputLaw.endHold (s : State) : OutputLaw (endHold s) :=
  .driven (by rw [startNotice_held, afterReset_held]; rfl)

theorem OutputLaw.beginHold (s : State) : OutputLaw (beginHold s) := ⟨driveOutputs_settled _, fun _ => ⟨rfl, rfl⟩⟩

theorem leak_held (s : State) : (leak s).held = s.held := by simp only [leak]

theorem expire_held (s : State) : (expire s).held = s.held := by
  unfold expire
  dsimp only
  split
  · rfl
  · exact enterSafeDark_held ..

/-- Every command leaves the output lines at their levels. -/
theorem OutputLaw.exec {i : Instr} {t : State} (h : OutputLaw s) (hi : exec i s = .next t) : OutputLaw t := by
  have hlink : ∀ r, OutputLaw (Machine.onLink (arrive r) s) := fun r => h.onLink fun hh => (arrive_held r s).trans hh
  have hdue : ∀ (due : Bool) (f : State → State), (∀ u, (f u).held = u.held) →
      OutputLaw (Machine.onEvent (fun s => if due = true then f s else s) s) := fun due f hf =>
    h.onEvent (whenDue_held (hf s))
  cases i
  case planEntry => cases hi; exact h.onLink fun hh => (takeEntry_held s).trans hh
  case frameArrival cs =>
    cases hi
    by_cases hh : s.held = true
    · rw [if_pos hh]; exact h
    · rw [if_neg hh]; exact h.takeChars (by simpa using hh) cs
  case gapLimitDiscard => cases hi; exact h.onLink fun hh => by split <;> exact hh
  case transmitEnd => cases hi; exact h.onLink endFrame_held
  case coldResetBegin low =>
    simp only [Machine.exec, execColdResetBegin] at hi
    split at hi
    · cases hi; exact h
    · cases hi
      split
      · exact .beginHold _
      · exact h.of_eq (fun d => by cases d <;> rfl) rfl rfl
  case coldResetAct =>
    cases hi
    split
    · exact .endHold _
    · split
      · exact .endHold _
      · split
        · exact h.of_eq (fun d => by cases d <;> rfl) rfl rfl
        · exact h
  case syncRecognition c es fs =>
    cases hi
    split
    · rename_i hh; exact h.pinEdges hh _
    · rename_i hh
      have hheld : ((edgesInOrder es fs).foldl (takeEdge c) s).held = false := by rw [takeEdges_held]; simpa using hh
      unfold Machine.onEvent
      rw [if_neg (by simp [hheld])]
      exact .driven (by rw [startNotice_held, whenDue_held (recogniseSync_held c _)]; exact hheld)
  case missExpiry c => cases hi; exact hdue _ _ fun u => (Calm.miss c u).tables.held
  case guardAssertion c n => cases hi; exact h.onGuard c _ n
  case guardDeassertion c n => cases hi; exact h.onGuard c _ n
  case lightAssertion c n => cases hi; exact h.onLight c _ n
  case lightDeassertion c n => cases hi; exact h.onLight c _ n
  case wgateRise c =>
    simp only [Machine.exec, execWgateRise] at hi
    split at hi <;> cases hi
    · exact h
    · exact h.gate true fun u => ((Calm.gateRise c u).trans (Calm.tailAtOnce c _)).tables.held
  case wgateFall c =>
    simp only [Machine.exec, execWgateFall] at hi
    split at hi <;> cases hi
    · exact h.gate false fun u => (Calm.gateFall c u).tables.held
    · exact h
  case supfltRise =>
    simp only [Machine.exec, execSupfltRise] at hi
    split at hi <;> cases hi
    · exact h
    · exact (h.of_eq (t := { s with supflt := true }) (fun d => by cases d <;> rfl) rfl rfl).onEvent (enterSafeDark_held ..)
  case supfltFall => cases hi; exact h.of_eq (fun d => by cases d <;> rfl) rfl rfl
  case arming c => cases hi; exact hdue _ _ fun u => (Calm.atOnce (Calm.arm c u)).tables.held
  case preheatEnd c => cases hi; exact hdue _ _ fun u => (Calm.endPreheat c u).tables.held
  case windowClose c => cases hi; exact hdue _ _ fun u => (Calm.atOnce (Calm.closeWindow c u)).tables.held
  case boostEnd c => cases hi; exact hdue _ _ fun u => (Calm.endBoost c u).tables.held
  case overrun c =>
    cases hi
    refine h.onEvent ?_
    dsimp only
    split
    · split
      · exact (Calm.atOnce (Calm.abortWrite ..)).tables.held
      · rfl
    · rfl
  case tailEnd c => cases hi; exact hdue _ _ fun u => (Calm.tailOver c u).tables.held
  case lightDeadline c =>
    cases hi
    refine h.onEvent ?_
    split
    · exact (Calm.atOnce (Calm.lightAbsent c s)).tables.held
    · exact (Calm.owedAbsent c s).tables.held
  case biasHoldExpiry c => cases hi; exact hdue _ _ fun u => (Calm.goDark c u).tables.held
  case leakInstant => cases hi; exact h.onEvent (whenDue_held (leak_held s))
  case safetyExpiry => cases hi; exact hdue _ _ expire_held
  all_goals cases hi; exact hlink _

/-! ## Steps -/

theorem OutputLaw.step {t : State} (h : OutputLaw s) (hstep : step s = .next t) : OutputLaw t := by
  obtain ⟨i, p, n, -, hi⟩ | ⟨-, rfl⟩ := step_cases hstep
  · exact (h.of_eq (t := { s with pending := p, choices := n }) (fun d => by cases d <;> rfl) rfl rfl).exec hi
  · unfold tick
    split
    · exact h
    · exact h.of_eq (fun d => by cases d <;> rfl) rfl rfl

/-- The veto rule of R91, said of a line at its level. -/
theorem Channel.AtLevels.veto_iff {x : Channel} {safe : Option SafeCause} (h : x.AtLevels safe.isSome) :
    x.seq.veto = true ↔
      (x.wgate = true ∧ x.seq.laser ≠ .boost ∧ x.seq.laser ≠ .sustain) ∨ x.tracker.state = .off ∨ safe ≠ none := by
  have hwriting : x.seq.laser.writing = false ↔ x.seq.laser ≠ .boost ∧ x.seq.laser ≠ .sustain := by
    cases x.seq.laser <;> simp [LaserState.writing]
  rw [h.veto, vetoLevel, ← hwriting, ← Option.isSome_iff_ne_none]
  simp [Channel.online, or_assoc]

theorem runsBurst_active {x : Channel} {b : Burst} (h : runsBurst x b) : x.activeBurst = some b := by
  unfold Channel.activeBurst
  obtain ⟨ha, hb⟩ | ha := h
  · rw [ha]; exact hb
  · rw [ha]

theorem Channel.AtLevels.laneMatches {x : Channel} {v : Bool} (h : x.AtLevels v) : laneMatches x := by
  have hlane := h.lane
  unfold laneLevel at hlane
  refine ⟨fun hl => ?_, fun hl => ?_, fun b hb hl => ?_, fun b hb hl => ?_, fun b hb hl => ?_⟩
  · rw [hl] at hlane; exact hlane
  · rw [hl] at hlane; exact hlane
  · obtain hl | hl | hl := hl <;> rw [hl, runsBurst_active hb] at hlane <;> exact hlane
  · rw [hl, runsBurst_active hb] at hlane; exact hlane
  · rw [hl, runsBurst_active hb] at hlane; exact hlane

/-- In R67's table a laser in BIAS holds a head at the committed current, and a lit laser runs a burst on its head. -/
theorem Tabled.lane {U : Prop} {x : Channel} (h : Tabled U x) {v : Bool} (hx : x.AtLevels v) :
    (x.seq.laser = .bias → ∃ k, x.seq.selected = some k ∧ x.seq.lane = ⟨some k, x.seq.committed⟩) ∧
      (x.seq.laser ≠ .dark → x.seq.laser ≠ .bias →
        ∃ b, runsBurst x b ∧ x.seq.selected = some b.head ∧ x.seq.lane.head = some b.head) := by
  have hsel : x.seq.laser.lit = true → x.seq.lane.head = x.seq.selected := by
    intro hl
    rw [hx.lane, laneLevel]
    split
    · rename_i hd; rw [hd] at hl; cases hl
    all_goals rfl
  cases h with
  | free hf _ =>
    cases hf with
    | dark _ hl => exact ⟨fun hb => absurd (hl.symm.trans hb) (by simp), fun hd => absurd hl hd⟩
    | bias _ hl hs hc =>
      refine ⟨fun _ => ?_, fun _ hb => absurd hl hb⟩
      obtain ⟨k, hk⟩ := Option.isSome_iff_exists.1 hs
      exact ⟨k, hk, by rw [hx.laneMatches.bias hl, hk, hc]⟩
    | tail b ha hl hs hc =>
      refine ⟨fun hb => absurd (hl.symm.trans hb) (by simp), fun _ _ => ⟨b, .inr ha, hs, ?_⟩⟩
      rw [hsel (by rw [hl]; rfl), hs]
  | lit b rest hon hruns =>
    refine ⟨fun hb => ?_, fun _ _ => ⟨b, .inl ⟨hon.seq.active, hon.head?⟩, hon.seq.selected, ?_⟩⟩
    · have hl := hruns.lit; rw [hb] at hl; cases hl
    · rw [hsel hruns.lit, hon.seq.selected]

/-- Settles O6: every command drives the lines (`OutputLaw.exec`), and what they carry of the phases is O9's table. -/
theorem stepKeepsTheVetoRule : Obligations.StepKeepsTheVetoRule := by
  intro s t hout hstep
  have hlaw := hout.step hstep
  have hlevels := driveOutputs_self_iff.1 hlaw.settled
  refine ⟨hlaw, fun c => (hlevels c).veto_iff, fun c => (hlevels c).laneMatches, fun hphase hcommit c => ?_⟩
  obtain ⟨hp, hc, -, -⟩ := stepKeepsThePhaseTable s t hphase hcommit hstep
  exact (table_of (U := False) hp hc False.elim c).lane (hlevels c)

end Sys2Proof.Machine
end

section
/-! PROOFS. The nine checks of a PLAN entry (R15). -/

namespace Sys2Proof.Machine

variable {s : State} {e : PlanEntry}

/-! ## The fields of an entry -/

theorem kindOf_byte (k : WriteKind) : kindOf k.byte = some k := by cases k <;> rfl

theorem kindOf_of_le {b : Byte} (h : 4 ≤ b.toNat) : kindOf b = none := by
  unfold kindOf
  rw [if_neg (by bv_omega), if_neg (by bv_omega), if_neg (by bv_omega), if_neg (by bv_omega)]

/-- An entry with a field out of range whatever the channel's configuration is (R16). -/
theorem checkFields_outside
    (h : 24 ≤ e.head.toNat ∨ 4 ≤ e.kind.toNat ∨ 3 < e.laps.toNat ∨ e.length.toNat < 16 ∨ 1048575 < e.track.toNat)
    (s : State) : checkFields e s = none := by
  unfold checkFields
  split
  · rename_i i k hi hk
    dsimp only
    rw [if_neg]
    rintro ⟨hlaps, hlen, htrack, -⟩
    simp only [Config.maxTrack] at htrack
    obtain h | h | h | h | h := h
    · rw [indexOf_of_le h] at hi; cases hi
    · rw [kindOf_of_le h] at hk; cases hk
    all_goals omega
  · rfl

/-- What check 2 finds of an entry that names a head and a kind (R16). -/
theorem checkFields_of {h : Fin 24} {kind : WriteKind} (hh : e.head.toNat = h.val) (hk : e.kind = kind.byte)
    (hlaps : e.laps.toNat ≤ 3) (hlen : 16 ≤ e.length.toNat) (htrack : e.track.toNat ≤ 1048575) (s : State) :
    checkFields e s =
      if e.wedge.toNat < (s.chan s.heads[h].channel).config.w ∧
          e.offset.toNat < (s.chan s.heads[h].channel).config.pnom then
        some ⟨h, s.heads[h].channel, kind, e.wedge.toNat, e.laps.toNat, e.offset.toNat, e.length.toNat, e.track.toNat⟩
      else none := by
  unfold checkFields
  rw [indexOf_of_eq hh, hk, kindOf_byte]
  dsimp only
  simp only [Config.maxTrack, hlaps, hlen, htrack, true_and]

theorem tagHeld_iff {t : U16} : s.tagHeld t = true ↔ ∃ d : Chan, ∃ b ∈ (s.chan d).queue, b.tag = t := by
  unfold State.tagHeld
  simp only [Bool.or_eq_true, List.any_eq_true, beq_iff_eq]
  constructor
  · rintro (h | h)
    · exact ⟨.c0, h⟩
    · exact ⟨.c1, h⟩
  · rintro ⟨d, h⟩
    cases d
    · exact .inl h
    · exact .inr h

/-- The target wedge counts the wedges from the anchor's to the entry's, modulo a revolution (R4). -/
theorem targetWedge_eq {w : Nat} (hw : 0 < w) (a : Anchor) (wedge laps : Nat) :
    targetWedge w a wedge laps = targetAfter w a wedge laps := by
  have hd : (wedge + w - a.wedge % w) % w = (((wedge : Int) - (a.wedge : Int)) % (w : Int)).toNat := by
    have hlt : a.wedge % w < w := Nat.mod_lt _ hw
    have hcast : (((wedge + w - a.wedge % w) % w : Nat) : Int) = ((wedge : Int) - (a.wedge : Int)) % (w : Int) := by
      rw [Int.natCast_mod, Nat.cast_sub (by omega), Nat.cast_add, Int.natCast_mod, Int.emod_def (a.wedge : Int)]
      rw [show ((wedge : Int) + w - (a.wedge - w * ((a.wedge : Int) / w))) =
        ((wedge : Int) - a.wedge) + w * (1 + (a.wedge : Int) / w) by ring, Int.add_mul_emod_self_left]
    rw [← hcast, Int.toNat_natCast]
  unfold targetWedge targetAfter
  rw [hd]

theorem synced_iff {t : Tracker} : t.synced = true ↔ t.state = .locked ∨ t.state = .coasting := by
  simp [Tracker.synced]

/-! ## The checks -/

theorem unsynced_of {t : Tracker} (h : t.state = .off ∨ t.state = .acquiring) : t.synced = false := by
  unfold Tracker.synced
  obtain h | h := h <;> rw [h] <;> rfl

theorem judgeEntry_unavailable {j : Judged} (hsafe : s.safe = none) (hj : checkFields e s = some j)
    (hr : s.heads[j.head].state ≠ .ready) : judgeEntry e s = (s, .headUnavailable) := by
  rw [judgeEntry, if_neg (by simp [hsafe]), hj]
  dsimp only
  rw [if_pos hr]

theorem judgeEntry_noSync {j : Judged} (hsafe : s.safe = none) (hj : checkFields e s = some j)
    (hr : s.heads[j.head].state = .ready) (hsync : (s.chan j.channel).tracker.synced = false) :
    judgeEntry e s = (s, .noSync) := by
  rw [judgeEntry, if_neg (by simp [hsafe]), hj]
  dsimp only
  rw [if_neg (not_not_intro hr), hsync]

theorem judgeEntry_synced {j : Judged} {a : Anchor} (hsafe : s.safe = none) (hj : checkFields e s = some j)
    (hr : s.heads[j.head].state = .ready) (hsync : (s.chan j.channel).tracker.synced = true)
    (ha : (s.chan j.channel).tracker.anchor = some a) : judgeEntry e s = judgeSynced e j a s := by
  rw [judgeEntry, if_neg (by simp [hsafe]), hj]
  dsimp only
  rw [if_neg (not_not_intro hr), hsync, ha]

/-- Settles O37: each check is the next condition of the entry's judgement. -/
theorem planEntryChecksInOrder : Obligations.PlanEntryChecksInOrder := by
  intro e s hlaw
  refine ⟨fun hsafe => ?_, fun hsafe hout => ?_, fun h kind c x hsafe hh hk hlaps hlen htrack hc hx => ?_⟩
  · rw [judgeEntry, if_pos (Option.isSome_iff_ne_none.2 hsafe)]
  · rw [judgeEntry, if_neg (by simp [hsafe]), checkFields_outside hout]
  · subst hc hx
    have hfields := checkFields_of hh hk hlaps hlen htrack s
    refine ⟨fun hout => ?_, fun hw hp => ?_⟩
    · rw [if_neg (by omega)] at hfields
      rw [judgeEntry, if_neg (by simp [hsafe]), hfields]
    · rw [if_pos ⟨hw, hp⟩] at hfields
      refine ⟨fun hr => judgeEntry_unavailable hsafe hfields hr,
        fun hr hsync => judgeEntry_noSync hsafe hfields hr (unsynced_of hsync),
        fun a target position k p hr hsync ha ht hpos hk hplan => ?_⟩
      rw [judgeEntry_synced hsafe hfields hr (synced_iff.2 hsync) ha, ← targetWedge_eq (by omega)] at *
      subst ht hpos hk hplan
      unfold judgeSynced
      dsimp only
      refine ⟨fun htag => by rw [if_pos (tagHeld_iff.2 htag)], fun htag => ?_⟩
      rw [if_neg (by rw [tagHeld_iff]; push Not; exact htag)]
      refine ⟨fun hfull => by rw [if_pos (show Config.queueCapacity ≤ _ from hfull.symm.le)], fun hroom hover => ?_, fun hroom hfree hfront => ?_⟩
      · rw [if_neg (by simp only [Config.queueCapacity]; omega), if_pos ((overlaps_iff (hlaw.spaced _)).2 hover)]
      · have hclear : ¬ overlaps (s.chan s.heads[h].channel).queue (s.chan s.heads[h].channel).config.spacing
            (targetWedge (s.chan s.heads[h].channel).config.w a e.wedge.toNat e.laps.toNat *
              (s.chan s.heads[h].channel).config.pnom + e.offset.toNat) e.length.toNat = true := by
          rw [overlaps_iff (hlaw.spaced _)]
          push Not
          exact ⟨hfree, hfront⟩
        rw [if_neg (by simp only [Config.queueCapacity]; omega), if_neg hclear]
        refine ⟨fun hunder => by rw [if_pos hunder], fun hover hlate => ?_⟩
        rw [if_neg (by omega)]
        exact if_pos hlate

end Sys2Proof.Machine
end

section
/-! PROOFS. The admission of a PLAN entry: its place, its counters and its captures (R19, R128, R131). -/

namespace Sys2Proof.Machine

variable {s : State} {e : PlanEntry}

/-! ## Counters and captures -/

theorem bumpCounter_get (k : Option (Fin 16)) (v : Vector U32 16) (i : Fin 16) :
    (bumpCounter k v)[i] = if k = some i then v[i] + 1 else v[i] := by
  cases k with
  | none => rfl
  | some j =>
    by_cases hij : j = i
    · subst hij; simp [bumpCounter]
    · have hval : j.val ≠ i.val := fun h => hij (Fin.ext h)
      simp [bumpCounter, hij, hval]

/-- Each counter that an admission names rises by 1, once (R131). -/
theorem countAdmission_get (k : Classified) (v : Vector U32 16) (i : Fin 16) :
    (countAdmission k v)[i] =
      if k.selectCounter = some i ∨ k.trimCounter = some i then v[i] + 1 else v[i] := by
  unfold countAdmission
  dsimp only
  by_cases heq : k.trimCounter = k.selectCounter
  · rw [if_pos heq, bumpCounter_get]
    simp only [heq, or_self]
  · rw [if_neg heq, bumpCounter_get, bumpCounter_get]
    by_cases ht : k.trimCounter = some i
    · have hs : k.selectCounter ≠ some i := fun h => heq (ht.trans h.symm)
      rw [if_pos ht, if_neg hs, if_pos (.inr ht)]
    · rw [if_neg ht]
      simp [ht]

theorem clearCapture_get (k : Option (Fin 64)) (v : Vector RuleEntry 64) (i : Fin 64) :
    (clearCapture k v)[i] = if k = some i then { v[i] with capture := false } else v[i] := by
  cases k with
  | none => rfl
  | some j =>
    by_cases hij : j = i
    · subst hij; simp [clearCapture]
    · have hval : j.val ≠ i.val := fun h => hij (Fin.ext h)
      simp [clearCapture, hij, hval]

/-- The capture flags of both chosen rules are cleared (R128). -/
theorem clearCaptures_get (j k : Option (Fin 64)) (v : Vector RuleEntry 64) (i : Fin 64) :
    (clearCapture k (clearCapture j v))[i] =
      if j = some i ∨ k = some i then { v[i] with capture := false } else v[i] := by
  rw [clearCapture_get, clearCapture_get]
  by_cases hj : j = some i <;> by_cases hk : k = some i <;> simp [hj, hk]

theorem captures_iff {rules : Vector RuleEntry 64} {i : Option (Fin 64)} :
    captures rules i = true ↔ ∃ j, i = some j ∧ rules[j].capture = true := by
  cases i with
  | none => simp [captures]
  | some j => simp [captures]

theorem captures_eq_false {rules : Vector RuleEntry 64} {i : Option (Fin 64)} :
    captures rules i = false ↔ ∀ j, i = some j → rules[j].capture = false := by
  rw [← Bool.not_eq_true, captures_iff]
  push Not
  simp only [ne_eq, Bool.not_eq_true]

theorem captureMarkOf_eq_none {k : Classified} :
    captureMarkOf s k = none ↔ captures s.rules k.selectRule = false ∧ captures s.rules k.trimRule = false := by
  unfold captureMarkOf
  dsimp only
  split
  · rename_i h
    simp only [reduceCtorEq, false_iff, not_and]
    intro hs ht
    rw [hs, ht] at h
    cases h
  · rename_i h
    simpa using h

theorem captureMarkOf_some {k : Classified} {z : CaptureMark} (h : captureMarkOf s k = some z) :
    z = ⟨captures s.rules k.selectRule, captures s.rules k.trimRule, k.key.rangeBits⟩ := by
  unfold captureMarkOf at h
  dsimp only at h
  split at h
  · exact (Option.some.inj h).symm
  · cases h

/-! ## The admission -/

/-- The state with a burst admitted, its counters counted and its captures cleared, but for the CAPTURE notice. -/
def State.admitted (s : State) (c : Chan) (b : Burst) (k : Classified) : State :=
  { s.setChan c ((s.chan c).admitted b) with
    counters := countAdmission k s.counters
    rules := clearCapture k.trimRule (clearCapture k.selectRule s.rules) }

/-- A rule without its capture flag is as it was when the flag is cleared. -/
theorem clearCapture_unset {k : Option (Fin 64)} {v : Vector RuleEntry 64} (h : captures v k = false) :
    clearCapture k v = v := by
  have hoff : ∀ r : RuleEntry, r.capture = false → { r with capture := false } = r := by
    rintro ⟨⟩ rfl
    rfl
  ext i hi
  have hget := clearCapture_get k v ⟨i, hi⟩
  split at hget
  · rename_i hk
    exact hget.trans (hoff _ (captures_eq_false.1 h _ hk))
  · exact hget

theorem admitBurst_eq {b : Burst} (hbar : b.decidedBar = none) (k : Classified) (s : State) :
    admitBurst b k s =
      match captureMarkOf s k with
      | none => s.admitted b.channel (b.marked none) k
      | some m => placeNotice (captureOf (b.marked (some m)) k m) (s.admitted b.channel (b.marked (some m)) k) := by
  have hinsert := insertBurst_eq b.channel (b := b.marked (captureMarkOf s k)) hbar s
  unfold admitBurst
  dsimp only
  rw [show ({ b with plan := { b.plan with capture := captureMarkOf s k } } : Burst) =
    b.marked (captureMarkOf s k) from rfl, hinsert]
  cases hm : captureMarkOf s k with
  | none =>
    obtain ⟨hs, ht⟩ := captureMarkOf_eq_none.1 hm
    have hrules : clearCapture k.trimRule (clearCapture k.selectRule s.rules) = s.rules := by
      rw [clearCapture_unset hs, clearCapture_unset ht]
    unfold State.admitted
    rw [hrules]
    generalize b.channel = c
    cases c <;> rfl
  | some m =>
    unfold State.admitted
    generalize b.channel = c
    cases c <;> rfl

@[simp] theorem admitted_chan (s : State) (c : Chan) (b : Burst) (k : Classified) :
    (s.admitted c b k).chan c = (s.chan c).admitted b := by cases c <;> rfl

theorem admitted_other (s : State) (c : Chan) (b : Burst) (k : Classified) : SameOther c s (s.admitted c b k) := by
  cases c <;> rfl

theorem admitted_rest (s : State) (c : Chan) (b : Burst) (k : Classified) :
    (s.admitted c b k).heads = s.heads ∧ (s.admitted c b k).supply = s.supply ∧ (s.admitted c b k).link = s.link := by
  cases c <;> exact ⟨rfl, rfl, rfl⟩

theorem admitted_tables (s : State) (c : Chan) (b : Burst) (k : Classified) :
    SameTables s { s.admitted c b k with rules := s.rules, counters := s.counters } := by
  cases c <;> exact ⟨⟨rfl, rfl, rfl, rfl, rfl, rfl, rfl, rfl, rfl, rfl, rfl, rfl⟩, rfl, rfl⟩

/-- A target wedge lies after the anchor (R4). -/
theorem lt_targetAfter {w : Nat} (hw : 0 < w) (a : Anchor) (wedge laps : Nat) : a.count < targetAfter w a wedge laps := by
  unfold targetAfter
  dsimp only
  split <;> omega

theorem below_eq_nil {q : List Burst} {p : Nat} (h : ∀ d ∈ q, p ≤ d.position) : below q p = [] :=
  List.filter_eq_nil_iff.2 fun d hd => by simpa using h d hd

theorem below_ne_nil {q : List Burst} {p : Nat} (h : ∃ d ∈ q, d.position < p) : below q p ≠ [] := by
  obtain ⟨d, hd, hlt⟩ := h
  exact List.ne_nil_of_mem (mem_below.2 ⟨hd, hlt⟩)

/-- What an admission leaves of the channel, whatever mark it carries (R19, R69). -/
theorem admission_state {s t : State} {c : Chan} {b : Burst} {k : Classified} (n : Option Notice)
    (ht : t = match n with
      | none => s.admitted c b k
      | some n => placeNotice n (s.admitted c b k)) :
    t.chan c = (s.chan c).admitted b ∧ SameOther c s t ∧ t.heads = s.heads ∧ t.supply = s.supply ∧
      t.counters = countAdmission k s.counters ∧ t.rules = clearCapture k.trimRule (clearCapture k.selectRule s.rules) ∧
      SameTables s { t with rules := s.rules, counters := s.counters } := by
  obtain ⟨hheads, hsupply, -⟩ := admitted_rest s c b k
  cases n with
  | none =>
    subst ht
    exact ⟨admitted_chan .., admitted_other .., hheads, hsupply, rfl, rfl, admitted_tables ..⟩
  | some n =>
    subst ht
    have htables := admitted_tables s c b k
    exact ⟨(placeNotice_chan ..).trans (admitted_chan ..), (placeNotice_chan ..).trans (admitted_other s c b k), hheads,
      hsupply, rfl, rfl, htables.trans ⟨⟨rfl, rfl, rfl, rfl, rfl, rfl, rfl, rfl, rfl, rfl, rfl, rfl⟩, rfl, rfl⟩⟩

/-- Settles O38: an entry that passes the checks is admitted, and `admitBurst_eq` says what that leaves. -/
theorem planEntryAdmits : Obligations.PlanEntryAdmits := by
  intro e s h kind c x a target position k p hlaw hsafe hh hk hlaps hlen htrack hc hx hw hp hr hsync ha htarget hpos hclass
    hplan htag hroom hfree hfront hdrive hlate
  subst hc hx
  have hfields := checkFields_of hh hk hlaps hlen htrack s
  rw [if_pos ⟨hw, hp⟩] at hfields
  have hlt : a.count < target := by rw [htarget]; exact lt_targetAfter (by omega) ..
  rw [← targetWedge_eq (by omega)] at htarget
  have hclear : ¬ overlaps (s.chan s.heads[h].channel).queue (s.chan s.heads[h].channel).config.spacing position
      e.length.toNat = true := by
    rw [overlaps_iff (hlaw.spaced _)]
    push Not
    exact ⟨hfree, hfront⟩
  have hjudge : judgeEntry e s = (admitBurst (newBurst e ⟨h, s.heads[h].channel, kind, e.wedge.toNat, e.laps.toNat,
      e.offset.toNat, e.length.toNat, e.track.toNat⟩ target position p) k s, .ok) := by
    rw [judgeEntry_synced hsafe hfields hr (synced_iff.2 hsync) ha]
    unfold judgeSynced
    dsimp only
    subst htarget hpos hclass hplan
    rw [if_neg (by rw [tagHeld_iff]; push Not; exact htag), if_neg (by simp only [Config.queueCapacity]; omega),
      if_neg hclear, if_neg (by omega)]
    exact if_neg (not_lt.2 hlate)
  generalize hb0 : newBurst e ⟨h, s.heads[h].channel, kind, e.wedge.toNat, e.laps.toNat, e.offset.toNat, e.length.toNat,
    e.track.toNat⟩ target position p = b0 at hjudge
  have hbar : b0.decidedBar = none := by rw [← hb0]; rfl
  have hchan : b0.channel = s.heads[h].channel := by rw [← hb0]; rfl
  have heq := admitBurst_eq hbar k s
  obtain ⟨hmarked, hother, hheads, hsupply, hcounters, hrules, htables⟩ :=
    admission_state (t := admitBurst b0 k s) (c := b0.channel) (b := b0.marked (captureMarkOf s k)) (k := k)
      ((captureMarkOf s k).map fun m => captureOf (b0.marked (some m)) k m)
      (by rw [heq]; cases captureMarkOf s k <;> rfl)
  rw [hchan] at hmarked hother
  have hlink := (admitted_rest s b0.channel (b0.marked (captureMarkOf s k)) k).2.2
  have hposition : (b0.marked (captureMarkOf s k)).position = position := by rw [← hb0]; rfl
  refine ⟨_, b0.marked (captureMarkOf s k), captureMarkOf s k, hjudge, ?_, fun z hz => ?_, fun hnone => ?_, ?_, ?_, ?_, ?_,
    fun i => ?_, fun i => ?_, ?_, ?_, hother, hheads, hsupply, htables⟩
  · rw [captureMarkOf_eq_none, captures_eq_false, captures_eq_false]
  · obtain rfl := captureMarkOf_some hz
    refine ⟨captures_iff, captures_iff, rfl, ?_⟩
    rw [hz] at heq hlink ⊢
    rw [heq, placeNotice_link, placeNotice_link, hlink, ← hb0]
    rfl
  · rw [hnone] at heq hlink
    rw [heq]
    exact hlink
  · rw [← hb0]; rfl
  · rw [hmarked, ← hposition]; rfl
  · intro hall
    rw [hmarked, Channel.admitted, if_pos (below_eq_nil (by rw [hposition]; exact hall))]
    have hbefore : decide (target ≤ a.count) = false := by simpa using hlt
    rw [expectedGate, ha, ← hb0]
    show some (GateTime.mk _ (decide (target ≤ a.count)) false) = _
    rw [hbefore]
    rfl
  · intro hsome
    rw [hmarked, Channel.admitted, if_neg (below_ne_nil (by rw [hposition]; exact hsome))]
  · rw [hcounters, countAdmission_get]
  · rw [hrules, clearCaptures_get]
  · rw [hmarked]; rfl
  · rw [hmarked]
    exact ⟨rfl, rfl, rfl, rfl, rfl, rfl, rfl, rfl⟩

end Sys2Proof.Machine
end

section
/-! PROOFS. The transmitter and the places of the link (R170 to R173): what a free transmitter takes, the place of a served
request, and the entries of a PLAN taken in turn (R14). -/

namespace Sys2Proof.Machine

variable {s : State}

/-! ## The free transmitter -/

theorem beginFrame_eq (f : Frame) (acts : Option Scope) (s : State) : beginFrame f acts s = s.sending f acts := rfl

theorem pump_busyReply {q : QueuedReply} {rest : List QueuedReply} (htx : s.link.tx = none)
    (hq : s.link.replies = q :: rest) (hrole : q.role = .busy) :
    pump s = State.sending { s with link := { s.link with replies := rest } } ⟨q.kind, q.tag, q.reply.payload⟩ none := by
  unfold pump
  rw [htx, hq]
  dsimp only
  rw [hrole]
  rfl

/-- The reply of the served request is begun, and its place is released (R171). -/
theorem pump_servedReply {q : QueuedReply} {rest : List QueuedReply} (htx : s.link.tx = none)
    (hq : s.link.replies = q :: rest) (hrole : q.role = .served) :
    pump s = releasePlace (State.sending { s with link := { s.link with replies := rest } }
      ⟨q.kind, q.tag, q.reply.payload⟩ (actsAfter s.link)) := by
  unfold pump
  rw [htx, hq]
  dsimp only
  rw [hrole]
  rfl

theorem startNotice_notice {n : QueuedNotice} {rest : List QueuedNotice} (htx : s.link.tx = none)
    (hq : s.link.replies = []) (hn : s.link.notices = n :: rest) :
    startNotice s = State.sending { s with link := { s.link with notices := rest } } ⟨n.notice.kind, 0, n.payload⟩ none := by
  unfold startNotice
  rw [htx, hq, hn]
  rfl

theorem startNotice_none (hn : s.link.notices = []) : startNotice s = s := by
  unfold startNotice
  rw [hn]
  cases s.link.tx <;> cases s.link.replies <;> rfl

theorem releasePlace_free (hr : s.link.resetting = false) (hw : s.link.waiting = none) :
    releasePlace s = { s with link := { s.link with served := none } } := by
  unfold releasePlace
  rw [if_neg (by simp [hr]), hw]
  rfl

theorem releasePlace_waiting {r : Instr} (hr : s.link.resetting = false) (hw : s.link.waiting = some r) :
    releasePlace s = serve r { s with link := { s.link with served := none, waiting := none } } := by
  unfold releasePlace
  rw [if_neg (by simp [hr]), hw]
  rfl

theorem releasePlace_resetting (hr : s.link.resetting = true) : releasePlace s = s := by
  unfold releasePlace
  rw [if_pos hr]

theorem resetting_replied {l : Link} {r : Instr} (h : l.served = some ⟨r, .replied⟩) : l.resetting = false := by
  unfold Link.resetting
  rw [h]

theorem actsAfter_replied {l : Link} {r : Instr} (h : l.served = some ⟨r, .replied⟩) : actsAfter l = none := by
  unfold actsAfter
  rw [h]

/-- A request that arrives at a busy transmitter with both places free is served, and its reply waits. -/
theorem exec_served_busy {f : Frame} (hh : s.held = false) (htx : s.link.tx ≠ none) (hs : s.link.served = none)
    (hw : s.link.waiting = none) : exec (requestOf f) s = .next (driveOutputs (serve (requestOf f) s)) := by
  have hnot : s.link.resetting = false := by unfold Link.resetting; rw [hs]
  have harrive : arrive (requestOf f) s = serve (requestOf f) s := by
    unfold arrive
    rw [if_neg (by simp [hnot]), hs, hw]
  rw [exec_requestOf f hh, arrived, harrive, pump_busy (by rw [(serve_linkServed _ _).tx]; exact htx)]

/-! ## The end of a frame -/

theorem exec_transmitEnd {x : Sending} (hh : s.held = false) (htx : s.link.tx = some x) (hend : x.endsAt ≤ s.now)
    (hacts : x.acts = none) :
    exec .transmitEnd s = .next (driveOutputs (pump { s with link := { s.link with tx := none } })) := by
  have hexec : exec .transmitEnd s = .next (onLink endFrame s) := rfl
  rw [hexec, onLink, if_neg (by simp [hh]), endFrame, htx]
  dsimp only
  rw [if_pos hend, hacts]
  rfl

/-- Settles O18: what the free transmitter takes, and the place that it releases. -/
theorem transmitEndSendsWhatWaits : Obligations.TransmitEndSendsWhatWaits := by
  intro x s hh hs htx hend hacts
  have hexec := exec_transmitEnd hh htx hend hacts
  have hdriven : ∀ l : Link, driveOutputs { s with link := l } = { s with link := l } := driven_with_link hs
  refine ⟨fun q rest hq hrole => ?_, fun q rest r hq hrole hserved hwait => ?_,
    fun q rest r f hq hrole hserved hwait => ?_, fun q rest r sc hq hrole hserved => ?_, fun n rest hq hn => ?_,
    fun hq hn => ?_⟩
  · rw [hexec, pump_busyReply (s := { s with link := { s.link with tx := none } })
      rfl hq hrole]
    exact congrArg _ (hdriven _)
  · rw [hexec, pump_servedReply (s := { s with link := { s.link with tx := none } })
      rfl hq hrole, releasePlace_free, actsAfter_replied]
    · exact congrArg _ (hdriven _)
    · exact hserved
    · exact resetting_replied hserved
    · exact hwait
  · rw [hexec, pump_servedReply (s := { s with link := { s.link with tx := none } })
      rfl hq hrole, releasePlace_waiting, actsAfter_replied, exec_served_busy]
    · rfl
    · exact hh
    · exact Option.some_ne_none _
    · rfl
    · rfl
    · exact hserved
    · exact resetting_replied hserved
    · exact hwait
  · have hresetting : s.link.resetting = true := by
      unfold Link.resetting
      rw [hserved]
    have hacting : actsAfter s.link = some sc := by
      unfold actsAfter
      rw [hserved]
    rw [hexec, pump_servedReply (s := { s with link := { s.link with tx := none } })
      rfl hq hrole, releasePlace_resetting]
    · exact congrArg _ ((congrArg (fun a => driveOutputs (State.sending
        { s with link := { s.link with replies := rest } } ⟨q.kind, q.tag, q.reply.payload⟩ a)) hacting).trans (hdriven _))
    · exact hresetting
  · rw [hexec, pump_no_reply (s := { s with link := { s.link with tx := none } }) hq,
      startNotice_notice (s := { s with link := { s.link with tx := none } }) rfl hq hn]
    exact congrArg _ (hdriven _)
  · rw [hexec, pump_no_reply (s := { s with link := { s.link with tx := none } }) hq,
      startNotice_none (s := { s with link := { s.link with tx := none } }) hn]
    exact congrArg _ (hdriven _)

/-! ## PLAN -/

theorem exec_planEntry (hh : s.held = false) : exec .planEntry s = .next (driveOutputs (pump (takeEntry s))) := by
  have hexec : exec .planEntry s = .next (onLink takeEntry s) := rfl
  rw [hexec, onLink, if_neg (by simp [hh])]

/-- The last entry of a PLAN is judged, and the reply is built. -/
theorem takeEntry_last {r : Instr} {e : PlanEntry} {done : List Code}
    (hserved : s.link.served = some ⟨r, .planning [e] done⟩) :
    takeEntry s = answer r .replied ((judgeEntry e s).1, .plan (done ++ [(judgeEntry e s).2])) := by
  unfold takeEntry
  rw [hserved]

theorem takeEntry_more {r : Instr} {e e' : PlanEntry} {left : List PlanEntry} {done : List Code}
    (hserved : s.link.served = some ⟨r, .planning (e :: e' :: left) done⟩) :
    takeEntry s = { (judgeEntry e s).1 with
      link := { (judgeEntry e s).1.link with
        served := some ⟨r, .planning (e' :: left) (done ++ [(judgeEntry e s).2])⟩ } } := by
  unfold takeEntry
  rw [hserved]
  rfl

theorem takeEntry_idle (hserved : s.link.served = none) : takeEntry s = s := by
  unfold takeEntry
  rw [hserved]

/-- A free transmitter with no reply waiting, or a busy one, takes a notice at most. -/
theorem pump_eq_startNotice (h : s.link.tx = none → s.link.replies = []) : pump s = startNotice s := by
  by_cases htx : s.link.tx = none
  · exact pump_no_reply (h htx)
  · rw [pump_busy htx, startNotice_busy htx]

/-- Settles O36. -/
theorem planIsJudgedEntryByEntry : Obligations.PlanIsJudgedEntryByEntry := by
  refine ⟨fun tag es s hidle hs => ⟨fun hcount => ?_, fun hlow hhigh => ?_⟩, fun r e e' left done s hh hserved hfree => ?_,
    fun tag p e done s codes payload hh hserved hcodes hpayload => ?_, fun s hh hserved htx hs => ?_⟩
  · exact exec_unchanged (.code .badLength) hidle hs (by simp only [serve, servePlan, if_pos hcount])
  · obtain ⟨hh, hserved, hwaiting, hreplies, htx⟩ := hidle
    have hnot : s.link.resetting = false := by unfold Link.resetting; rw [hserved]
    have harrive : arrive (.plan tag (.fits es)) s =
        { s with link := { s.link with served := some ⟨.plan tag (.fits es), .planning es []⟩ } } := by
      unfold arrive
      rw [if_neg (by simp [hnot]), hserved, hwaiting]
      simp only [serve, servePlan]
      rw [if_neg (by omega)]
      rfl
    have hexec : exec (.plan tag (.fits es)) s = .next (onLink (arrive (.plan tag (.fits es))) s) := rfl
    rw [hexec, onLink, if_neg (by simp [hh]), harrive, pump_no_reply]
    · rfl
    · exact hreplies
  · have hkept := judgeEntry_kept e s
    rw [exec_planEntry hh, takeEntry_more hserved, pump_eq_startNotice]
    · rfl
    · intro htx
      exact hkept.requests.replies.trans (hfree (hkept.tx.symm.trans htx))
  · have hkept := judgeEntry_kept e s
    rw [exec_planEntry hh, takeEntry_last hserved, ← hcodes]
    have hframe : Reply.payload (.plan codes) = payload := by
      rw [hpayload, hcodes]
      simp [Reply.payload, Code.byte, u8]
    have hsend : s.link.tx = none → s.link.replies = [] →
        pump (answer (.plan tag p) .replied ((judgeEntry e s).1, .plan codes)) =
          releasePlace (State.sending { (judgeEntry e s).1 with
            link := { (judgeEntry e s).1.link with
              served := some ⟨.plan tag p, .replied⟩, replies := [] } } ⟨0xA0, tag, payload⟩ none) := by
      intro htx hreplies
      have hone : (answer (.plan tag p) .replied ((judgeEntry e s).1, .plan codes)).link.replies =
          [⟨.served, 0xA0, tag, .plan codes⟩] := by
        show (judgeEntry e s).1.link.replies ++ _ = _
        rw [hkept.requests.replies, hreplies]
        simp [requestKind, replyKind, requestTag]
      rw [pump_servedReply (s := answer (.plan tag p) .replied ((judgeEntry e s).1, .plan codes))
        (hkept.tx.trans htx) hone rfl, actsAfter_replied (r := .plan tag p) rfl]
      dsimp only
      rw [hframe]
      rfl
    refine ⟨fun htx hreplies hwait => ?_, fun f htx hreplies hwait => ?_, fun htx => ?_⟩
    · rw [hsend htx hreplies, releasePlace_free]
      · have hsame : (judgeEntry e s).1.link.replies = [] := hkept.requests.replies.trans hreplies
        rw [State.replying, State.sending, State.sending]
        dsimp only
        rw [hsame]
      · rfl
      · exact hkept.requests.waiting.trans hwait
    · have hsame : (judgeEntry e s).1.link.replies = [] := hkept.requests.replies.trans hreplies
      rw [hsend htx hreplies, releasePlace_waiting, exec_served_busy]
      · rw [State.sending, State.sending]
        dsimp only
        rw [hsame]
      · exact hkept.held.trans hh
      · exact Option.some_ne_none _
      · rfl
      · rfl
      · rfl
      · exact hkept.requests.waiting.trans hwait
    · have hbusy : (answer (.plan tag p) .replied ((judgeEntry e s).1, .plan codes)).link.tx ≠ none :=
        fun h => htx (hkept.tx.symm.trans h)
      rw [pump_busy hbusy, answer, ← hkept.requests.replies]
      simp [requestKind, replyKind, requestTag, State.modLink]
  · rw [exec_planEntry hh, takeEntry_idle hserved, pump_busy htx, hs]

end Sys2Proof.Machine
end

section
/-! PROOFS. What a flush of a whole queue leaves (R22, R23, R92), and the requests and events that flush: CHANNEL_OFFLINE, an
early TEND, the supply fault line and the expiry of the Safety Timer (R54, R145, R155, R157, R159). -/

namespace Sys2Proof.Machine

variable {s t : State}

/-! ## Events -/

theorem onEvent_eq {f : State → State} (hh : s.held = false) : onEvent f s = (f s).settled := by
  rw [onEvent, if_neg (by simp [hh])]
  rfl

/-! ## What charges read -/

/-- A charge reads and writes the head records and the link alone. -/
theorem charge_congr (h : Fin 24) (u : Nat) (hh : t.heads = s.heads) (hl : t.link = s.link) :
    (charge h u t).heads = (charge h u s).heads ∧ (charge h u t).link = (charge h u s).link := by
  have hwear : ∀ s t : State, t.heads = s.heads → t.link = s.link →
      (wearTest h t).heads = (wearTest h s).heads ∧ (wearTest h t).link = (wearTest h s).link := by
    intro s t hh hl
    by_cases hw : s.heads[h].wears
    · rw [wearTest_of_wears hw, wearTest_of_wears (s := t) (by rw [hh]; exact hw)]
      simp only [placeNotice_heads, placeNotice_link, State.setHead_heads, State.setHead_link, hh, hl, and_self]
    · rw [wearTest_of_not hw, wearTest_of_not (s := t) (by rw [hh]; exact hw)]
      exact ⟨hh, hl⟩
  unfold charge
  split
  · exact ⟨hh, hl⟩
  · exact hwear _ _ (by rw [State.setHead_heads, State.setHead_heads, hh]) hl

/-- The heat that a darkening charges depends on the heads, the link, the time and the channel's queue and Sequencer. -/
theorem darkenHeat_congr {c : Chan} (hh : t.heads = s.heads) (hl : t.link = s.link) (hn : t.now = s.now)
    (hq : (t.chan c).queue = (s.chan c).queue) (hseq : (t.chan c).seq = (s.chan c).seq) :
    (darkenHeat c t).heads = (darkenHeat c s).heads ∧ (darkenHeat c t).link = (darkenHeat c s).link := by
  unfold darkenHeat Channel.litUpTo
  dsimp only
  rw [hn, hq, hseq]
  split
  · exact charge_congr _ _ hh hl
  · obtain ⟨hh, hl⟩ := charge_congr (Burst.head _) (heatOf _) hh hl
    exact charge_congr _ _ hh hl
  · exact charge_congr _ _ hh hl
  · exact charge_congr _ _ hh hl
  · exact ⟨hh, hl⟩
  · exact ⟨hh, hl⟩

theorem darkenHeat_frame (c : Chan) (s : State) :
    darkenHeat c s = { s with heads := (darkenHeat c s).heads, link := (darkenHeat c s).link } := by
  unfold darkenHeat
  dsimp only
  split
  · exact charge_frame ..
  · rw [charge_frame, charge_frame]
  · exact charge_frame ..
  · exact charge_frame ..
  · rfl
  · rfl

@[simp] theorem darkenHeat_now (c : Chan) (s : State) : (darkenHeat c s).now = s.now := by rw [darkenHeat_frame]
@[simp] theorem darkenHeat_chan (c d : Chan) (s : State) : (darkenHeat c s).chan d = s.chan d := by
  rw [darkenHeat_frame]; cases d <;> rfl

theorem litUpTo_head (x : Channel) (b : Burst) (n : Nat) : (x.litUpTo b n).head = b.head := by
  unfold Channel.litUpTo
  split <;> rfl

/-! ## The flush -/

/-- The charges of a flush are the heat that a darkening charges. -/
theorem flushCharges_eq (c : Chan) (s : State) : flushCharges ((s.chan c).phaseEnded s.now) s = darkenHeat c s := by
  unfold flushCharges darkenHeat Channel.phaseEnded Sequencer.tailBurst
  dsimp only
  cases ha : (s.chan c).seq.active <;> cases hq : (s.chan c).queue <;>
    simp only [modFirst, List.head?, chargeSome, chargeBurst, litUpTo_head] <;> rfl

@[simp] theorem flushAll_heads (c : Chan) (s : State) : (flushAll c s).1.heads = (darkenHeat c s).heads := by
  rw [flushAll_eq, setSupply_heads, State.setChan_heads, flushCharges_eq]

@[simp] theorem flushAll_link (c : Chan) (s : State) : (flushAll c s).1.link = (darkenHeat c s).link := by
  rw [flushAll_eq, setSupply_link, State.setChan_link, flushCharges_eq]

theorem flushed_darkened (x : Channel) (now : Nat) : ChannelDarkened x (x.flushed now) now where
  queue := rfl
  gate := rfl
  laser := rfl
  selected := rfl
  active := rfl
  committed := rfl
  bias := ⟨rfl, rfl⟩
  light := rfl
  phaseEnd := rfl
  overrunAt := rfl
  absent h d hsel hlight hlit hd := by
    have hdue : lightDue x.seq now = true := by simp [lightDue, hlight, hlit, hd]
    simp [Channel.flushed, Sequencer.dark, darkenedSpan, hsel, hdue, hlight]
  dropout h hsel hlight hlit htail := by
    have hdrop : dropsOut x.seq = true := by
      unfold dropsOut
      cases hl : x.seq.laser <;> simp_all [LaserState.lit]
    simp [Channel.flushed, Sequencer.dark, darkenedSpan, hsel, hdrop, hlight]
  config := rfl
  temp := rfl
  guardLine := rfl
  lightLine := rfl
  wgate := rfl

/-- A channel darkens alike whatever its tracker and the records of its sync lines. -/
theorem ChannelDarkened.of_same {x x' y : Channel} {now : Nat} (h : ChannelDarkened x' y now) (hseq : x'.seq = x.seq)
    (hconfig : x'.config = x.config) (htemp : x'.temp = x.temp) (hguard : x'.guardLine = x.guardLine)
    (hlight : x'.lightLine = x.lightLine) (hgate : x'.wgate = x.wgate) : ChannelDarkened x y now where
  queue := h.queue
  gate := h.gate
  laser := h.laser
  selected := h.selected
  active := h.active
  committed := h.committed
  bias := h.bias
  light := h.light
  phaseEnd := h.phaseEnd
  overrunAt := h.overrunAt
  absent := hseq ▸ h.absent
  dropout := hseq ▸ h.dropout
  config := h.config.trans hconfig
  temp := h.temp.trans htemp
  guardLine := h.guardLine.trans hguard
  lightLine := h.lightLine.trans hlight
  wgate := h.wgate.trans hgate

theorem flushed_keeps {x y : Channel} {now : Nat} (h : y = x.flushed now) :
    ChannelDarkened x y now ∧ y.tracker = x.tracker ∧ y.syncLine = x.syncLine ∧ y.indexPin = x.indexPin :=
  h ▸ ⟨flushed_darkened .., rfl, rfl, rfl⟩

/-! ## Safe Dark -/

/-- A limit adopted at one sum is adopted at 0 too (R144). -/
theorem supplyAfter_zero (u : Supply) (n : Nat) : supplyAfter (supplyAfter u n) 0 = supplyAfter u 0 := by
  cases hp : u.pending with
  | none => simp [supplyAfter, hp]
  | some p =>
    by_cases hn : n ≤ p <;> simp [supplyAfter, hp, hn]

/-- An entry to Safe Dark (R159, R160). -/
theorem enterSafeDark_enters (k : SafeCause) (hsafe : s.safe = none) : EntersSafeDark k s (enterSafeDark k s) := by
  have henter : enterSafeDark k s =
      placeNotice (.safeDark k s.ch0.queue.length (flushAll .c0 { s with safe := some k }).1.ch1.queue.length)
        { (flushAll .c1 (flushAll .c0 { s with safe := some k }).1).1 with
          safety := (flushAll .c1 (flushAll .c0 { s with safe := some k }).1).1.safety.stop } := by
    unfold enterSafeDark
    rw [if_neg (by simp [hsafe])]
    rfl
  have hcalm : Calm { s with safe := some k } (flushAll .c1 (flushAll .c0 { s with safe := some k }).1).1 :=
    (Calm.flushAll ..).trans (Calm.flushAll ..)
  have hother : (flushAll .c0 { s with safe := some k }).1.ch1 = s.ch1 := flushAll_other .c0 _
  have hheat : (darkenHeat .c1 (flushAll .c0 { s with safe := some k }).1).heads =
        (darkenHeat .c1 (darkenHeat .c0 s)).heads ∧
      (darkenHeat .c1 (flushAll .c0 { s with safe := some k }).1).link = (darkenHeat .c1 (darkenHeat .c0 s)).link := by
    have hfirst := darkenHeat_congr (c := .c0) (t := { s with safe := some k }) (s := s) rfl rfl rfl rfl rfl
    refine darkenHeat_congr ((flushAll_heads ..).trans hfirst.1) ((flushAll_link ..).trans hfirst.2) ?_ ?_ ?_
    · rw [flushAll_now, darkenHeat_now]
    · rw [darkenHeat_chan]; exact congrArg Channel.queue hother
    · rw [darkenHeat_chan]; exact congrArg Channel.seq hother
  have hchan0 : (flushAll .c1 (flushAll .c0 { s with safe := some k }).1).1.ch0 = s.ch0.flushed s.now :=
    (flushAll_other .c1 _).trans (flushAll_chan .c0 _)
  have hchan1 : (flushAll .c1 (flushAll .c0 { s with safe := some k }).1).1.ch1 = s.ch1.flushed s.now := by
    have h := flushAll_chan .c1 (flushAll .c0 { s with safe := some k }).1
    rw [flushAll_now, State.chan_c1, State.chan_c1, hother] at h
    exact h
  rw [henter]
  constructor
  case safe => exact hcalm.tables.safe
  case darkened =>
    intro c
    rw [placeNotice_chan]
    cases c
    · exact flushed_keeps hchan0
    · exact flushed_keeps hchan1
  case safety =>
    have h : (flushAll .c1 (flushAll .c0 { s with safe := some k }).1).1.safety = s.safety := hcalm.tables.safety
    rw [placeNotice_safety, h]
    rfl
  case supply =>
    have hsum : (flushAll .c1 (flushAll .c0 { s with safe := some k }).1).1.supply =
        supplyAfter (supplyAfter s.supply s.ch1.seq.committed) 0 := by
      rw [flushAll_supply, flushAll_supply]
      exact congrArg _ (congrArg (fun x : Channel => x.seq.committed) (flushAll_chan .c0 { s with safe := some k }))
    exact hsum.trans (supplyAfter_zero ..)
  case heads =>
    rw [placeNotice_heads]
    exact (flushAll_heads ..).trans hheat.1
  case link =>
    rw [placeNotice_link, placeNotice_link, hother]
    exact congrArg _ ((flushAll_link ..).trans hheat.2)
  case rest =>
    obtain ⟨h1, h2, h3, h4, h5, h6, h7, h8, h9, h10, h11, h12⟩ := hcalm.tables.toSameRest
    exact ⟨h1, h2, h3, h4, h5, h6, h7, h8, h9, h10, h11, h12⟩

/-! ## CHANNEL_OFFLINE -/

/-- Settles O30: the service flushes the channel whose tracker has gone OFF. -/
theorem channelOfflineFlushesTheChannel : Obligations.ChannelOfflineFlushesTheChannel := by
  intro tag b s hidle hs
  refine ⟨fun hb => ?_, fun c hb => ⟨fun hoff => ?_, fun hon => ?_⟩⟩
  · exact exec_unchanged (.code .fieldRange) hidle hs
      (by simp only [serve, serveChannelOffline, withPayload, chanOf_of_two_le hb])
  · exact exec_unchanged (.channelOffline 0) hidle hs
      (by simp only [serve, serveChannelOffline, withPayload, hb, chanOf_chanCode, online_eq_false hoff, Bool.false_eq_true,
        if_false])
  · let u := (flushAll c (setTracker c (offTracker (s.chan c).config.pnom) s)).1
    have hkept : Calm s u := (Calm.setTracker ..).trans (Calm.flushAll ..)
    have hchan : u.chan c = Channel.flushed { s.chan c with tracker := offTracker (s.chan c).config.pnom } s.now := by
      simp only [u, flushAll_chan, setTracker, State.modChan_chan, State.modChan_now]
    have hother : u.chan c.other = s.chan c.other := by
      simp only [u, flushAll_other, setTracker, State.modChan_other]
    have hsupply : u.supply = supplyAfter s.supply (s.chan c.other).seq.committed := by
      simp only [u, flushAll_supply, setTracker, State.modChan_other, State.modChan_supply]
    have hheat := darkenHeat_congr (c := c) (t := setTracker c (offTracker (s.chan c).config.pnom) s) (s := s)
      (State.modChan_heads ..) (State.modChan_link ..) (State.modChan_now ..) (by simp [setTracker]) (by simp [setTracker])
    obtain ⟨k, hk⟩ : ∃ k, k = if (s.chan c.other).tracker.state = .off then
      { s.safety with state := .stopped, pointer := .a } else s.safety := ⟨_, rfl⟩
    have hserve : serve (.channelOffline tag (.fits b)) s = answer (.channelOffline tag (.fits b)) .replied
        ({ u with safety := k }, .channelOffline (s.chan c).queue.length) := by
      have hsafety : u.safety = s.safety := hkept.tables.safety
      simp only [serve, serveChannelOffline, withPayload, hb, chanOf_chanCode, online_eq_true hon, if_true, flushAll_count,
        setTracker, State.modChan_chan]
      rw [hk]
      congr 2
      by_cases ho : (s.chan c.other).tracker.state = .off
      · rw [if_pos ho, online_eq_false ho, if_neg Bool.false_ne_true, ← hsafety]
        rfl
      · rw [if_neg ho, online_eq_true ho, if_pos rfl, ← hsafety]
        rfl
    refine ⟨_, exec_request { u with safety := k } _ hidle (hkept.kept.trans (.of_eq rfl rfl rfl rfl)) hserve, ?_⟩
    refine ⟨?_, ?_, ?_, ?_, hother, ?_, ?_, hsupply, hk, hkept.tables.safe, ?_⟩
    · exact congrArg Channel.tracker hchan
    · exact (congrArg Channel.syncLine hchan :)
    · exact (congrArg Channel.indexPin hchan :)
    · have hdark := (flushed_darkened { s.chan c with tracker := offTracker (s.chan c).config.pnom } s.now).of_same
        (x := s.chan c) rfl rfl rfl rfl rfl rfl
      exact hchan ▸ hdark
    · exact (flushAll_heads ..).trans hheat.1
    · exact (flushAll_link ..).trans hheat.2
    · obtain ⟨h1, h2, h3, h4, h5, h6, h7, h8, h9, h10, h11, h12⟩ := hkept.tables.toSameRest
      exact ⟨h1, h2, h3, h4, h5, h6, h7, h8, h9, h10, h11, h12⟩

/-! ## TEND -/

theorem phaseOf_of_two_le {b : Byte} (h : 2 ≤ b.toNat) : phaseOf b = none := by
  have h0 : b ≠ 0 := by bv_omega
  have h1 : b ≠ 1 := by bv_omega
  rw [phaseOf, if_neg h0, if_neg h1]

@[simp] theorem phaseOf_code (p : Phase) : phaseOf p.code = some p := by cases p <;> rfl

theorem phaseOf_of_lt {b : Byte} (h : b.toNat < 2) : ∃ p, phaseOf b = some p := by
  have hb : b = 0 ∨ b = 1 := by bv_omega
  obtain rfl | rfl := hb <;> exact ⟨_, rfl⟩

theorem Phase.flip_of_ne {p q : Phase} (h : p ≠ q) : q.flip = p := by cases p <;> cases q <;> simp_all [Phase.flip]

theorem elapsed_of_ne (h : s.safety.state ≠ .stopped) : s.elapsed = s.now - s.safety.restartedAt := by
  simp [State.elapsed, h]

/-- A TEND of a running timer is taken by `takeTend` and answered from the state after it. -/
theorem serve_tend {tag : Byte} {p : Phase} (hrun : s.safety.state ≠ .stopped) {a : TendAnswer}
    (htake : takeTend p s = (t, a)) :
    serve (.tend tag (.fits p.code)) s = answer (.tend tag (.fits p.code)) .replied
      (t, .tend a t.safety.pointer t.safety.state ((s.now - s.safety.restartedAt) / 500000)) := by
  simp only [serve, serveTend, withPayload, phaseOf_code, if_neg hrun, htake, elapsed_of_ne hrun, Config.ticksPerMs]

theorem tend_payload (a : TendAnswer) (p : Phase) (k : TimerState) (n : Nat) :
    (Reply.tend a p k n).payload = 0x00 :: a.code :: p.code :: k.code :: u16 n := rfl

theorem exec_tend {tag : Byte} {p : Phase} (hidle : LinkIdle s) (hrun : s.safety.state ≠ .stopped) {a : TendAnswer}
    (htake : takeTend p s = (t, a)) (hkept : LinkKept s t) :
    exec (.tend tag (.fits p.code)) s = .next (t.replying 0xA9 tag
      (0x00 :: a.code :: t.safety.pointer.code :: t.safety.state.code ::
        u16 ((s.now - s.safety.restartedAt) / 500000))) :=
  exec_request t _ hidle hkept (serve_tend hrun htake)

/-- An entry to Safe Dark leaves the same whatever pointer the timer had. -/
theorem EntersSafeDark.of_pointer {k : SafeCause} {p : Phase} {u : State}
    (hu : u = { s with safety := { s.safety with pointer := p } }) (h : EntersSafeDark k u t) : EntersSafeDark k s t := by
  subst hu
  have hfirst := darkenHeat_congr (c := .c0) (t := { s with safety := { s.safety with pointer := p } }) (s := s)
    rfl rfl rfl rfl rfl
  have hheat := darkenHeat_congr (c := .c1) (s := darkenHeat .c0 s)
    (t := darkenHeat .c0 { s with safety := { s.safety with pointer := p } }) hfirst.1 hfirst.2
    (by rw [darkenHeat_now, darkenHeat_now]) (by rw [darkenHeat_chan, darkenHeat_chan]; rfl)
    (by rw [darkenHeat_chan, darkenHeat_chan]; rfl)
  constructor
  case safe => exact h.safe
  case darkened =>
    intro c
    have hc := h.darkened c
    cases c <;> exact hc
  case safety => exact h.safety
  case supply => exact h.supply
  case heads => exact h.heads.trans hheat.1
  case link => rw [h.link, placeNotice_link, placeNotice_link, hheat.2]
  case rest =>
    obtain ⟨h1, h2, h3, h4, h5, h6, h7, h8, h9, h10, h11, h12⟩ := h.rest
    exact ⟨h1, h2, h3, h4, h5, h6, h7, h8, h9, h10, h11, h12⟩

theorem closedPart_eq (period : Nat) (w : Window) :
    closedPart period w = if period ≤ 8 then 0 else
      match w with
      | .open100 => 0
      | .open75 => period * 125000
      | .open50 => period * 250000 := by
  by_cases h : period ≤ 8 <;> cases w <;> simp [closedPart, effectiveWindow, h]

/-- Settles O42: the pointer and the part of the window decide which answer a TEND has. -/
theorem tendTakesThePhases : Obligations.TendTakesThePhases := by
  intro tag b s hidle hs
  have hdriven : ∀ k : SafetyTimer, driveOutputs { s with safety := k } = { s with safety := k } := driven_with_safety hs
  refine ⟨fun hb => ?_, fun hb hstopped => ?_, fun p elapsed closed hb hrun helapsed hclosed => ?_⟩
  · exact exec_unchanged (.code .fieldRange) hidle hs (by simp only [serve, serveTend, withPayload, phaseOf_of_two_le hb])
  · obtain ⟨p, hp⟩ := phaseOf_of_lt hb
    exact exec_unchanged (.code .wrongState) hidle hs
      (by simp only [serve, serveTend, withPayload, hp, if_pos hstopped])
  · subst hb helapsed
    have hpart : closedPart s.safety.period s.safety.window = closed := by
      rw [closedPart_eq, hclosed] <;> cases s.safety.window <;> rfl
    refine ⟨fun hp => ?_, fun hp hpointer => ?_, fun hp hpointer hle => ?_, fun hp hpointer hlt hsafe => ?_⟩
    · have htake : takeTend p s = ({ s with safety := { s.safety with pointer := p } }, .outOfStep) := by
        simp only [takeTend, if_pos hp, Phase.flip_of_ne hp]
      exact exec_request_driven _ _ hidle (hdriven _) (.of_eq rfl rfl rfl rfl) (serve_tend hrun htake)
    · subst hp
      have htake : takeTend .a s = ({ s with safety := { s.safety with pointer := .b } }, .half) := by
        simp only [takeTend, hpointer, ne_eq, not_true_eq_false, if_false]
      exact exec_request_driven _ _ hidle (hdriven _) (.of_eq rfl rfl rfl rfl) (serve_tend hrun htake)
    · subst hp
      have htake : takeTend .b s =
          ({ s with safety := { s.safety with state := .running, pointer := .a, restartedAt := s.now } }, .restarted) := by
        simp only [takeTend, hpointer, ne_eq, not_true_eq_false, if_false, hpart, elapsed_of_ne hrun, if_pos hle]
      exact exec_request_driven _ _ hidle (hdriven _) (.of_eq rfl rfl rfl rfl) (serve_tend hrun htake)
    · subst hp
      have htake : takeTend .b s =
          (enterSafeDark .earlyTend { s with safety := { s.safety with pointer := .a } }, .early) := by
        simp only [takeTend, hpointer, ne_eq, not_true_eq_false, if_false, hpart, elapsed_of_ne hrun,
          if_neg (Nat.not_le.2 hlt)]
      have henter := enterSafeDark_enters .earlyTend (s := { s with safety := { s.safety with pointer := .a } }) hsafe
      have hkept : LinkKept s (enterSafeDark .earlyTend { s with safety := { s.safety with pointer := .a } }) :=
        LinkKept.trans (t := { s with safety := { s.safety with pointer := .a } }) (.of_eq rfl rfl rfl rfl)
          (enterSafeDark_kept ..)
      have hexec := exec_tend (tag := tag) hidle hrun htake hkept
      rw [henter.safety] at hexec
      exact ⟨_, henter.of_pointer rfl, hexec⟩

/-! ## The supply fault line and the expiry -/

theorem enterSafeDark_of_safe {k : SafeCause} (h : s.safe ≠ none) : enterSafeDark k s = s := by
  rw [enterSafeDark, if_pos (Option.isSome_iff_ne_none.2 h)]

theorem exec_safetyExpiry (hh : s.held = false) :
    exec .safetyExpiry s = .next (if expiryDue s then expire s else s).settled := by
  have hexec : exec .safetyExpiry s = .next (onEvent (fun s => if expiryDue s then expire s else s) s) := rfl
  rw [hexec, onEvent_eq hh]

/-- Settles O44. -/
theorem supplyFaultAndExpiryEnterSafeDark : Obligations.SupplyFaultAndExpiryEnterSafeDark := by
  refine ⟨fun s hh hlow => ?_, fun s => rfl, fun s eff hh heff => ?_⟩
  · have hexec : exec .supfltRise s = .next (State.settled (enterSafeDark .supply { s with supflt := true })) := by
      have hrise : exec .supfltRise s = execSupfltRise s := rfl
      rw [hrise, execSupfltRise, if_neg (by simp [hlow]), onEvent_eq (s := { s with supflt := true }) hh]
    refine ⟨fun hsafe => ⟨_, enterSafeDark_enters .supply (s := { s with supflt := true }) hsafe, hexec⟩, fun hsafe => ?_⟩
    rw [hexec, enterSafeDark_of_safe (s := { s with supflt := true }) hsafe]
  · have hwindow : effectiveWindow s.safety.period s.safety.window = eff := heff.symm
    rw [exec_safetyExpiry hh]
    refine ⟨fun hnot => ?_, fun hrun hdue hopen => ?_, fun hrun hdue hcause hsafe => ?_⟩
    · rw [if_neg]
      unfold expiryDue
      by_cases hstop : s.safety.state = .stopped
      · simp [hstop]
      · have := hnot.resolve_left hstop
        simp [elapsed_of_ne hstop, Config.ticksPerMs, this]
    · have hrunning : s.safety.state ≠ .stopped := by rw [hrun]; decide
      rw [if_pos (by simp [expiryDue, hrunning, elapsed_of_ne hrunning, Config.ticksPerMs, hdue])]
      unfold expire
      dsimp only
      rw [hwindow, if_pos ⟨hrun, hopen⟩]
    · rw [if_pos (by simp [expiryDue, hrun, elapsed_of_ne hrun, Config.ticksPerMs, hdue])]
      refine ⟨_, enterSafeDark_enters .expiry hsafe, ?_⟩
      unfold expire
      dsimp only
      rw [hwindow, if_neg]
      rintro ⟨hr, ho⟩
      rcases hcause with hw | hn
      · rw [hr] at hw; cases hw
      · exact hn ho

end Sys2Proof.Machine
end

section
/-! PROOFS. Resets: the reset that acts at the end of its reply, and the cold reset that RSTN brings about (R48, R145, R178 to
R180). -/

namespace Sys2Proof.Machine

variable {s t : State}

/-! ## The heads that a darkening charges -/

/-- A charge writes the heated record of its head. -/
theorem charge_heads (h : Fin 24) (u : Nat) (s : State) :
    (charge h u s).heads = s.heads.set h (s.heads[h].heated u) := by
  by_cases hu : u = 0
  · subst hu
    have hsame : s.heads[h].heated 0 = s.heads[h] := rfl
    rw [hsame]
    exact (Vector.set_getElem_self _).symm
  · by_cases hw : (s.heads[h].charged u).wears
    · rw [charge_of_wears hu hw]; rfl
    · rw [charge_of_not_wears hu hw]; rfl

/-- The heads that a darkening charges do not depend on the link. -/
theorem darkenHeat_heads_congr {c : Chan} (hh : t.heads = s.heads) (hn : t.now = s.now)
    (hq : (t.chan c).queue = (s.chan c).queue) (hseq : (t.chan c).seq = (s.chan c).seq) :
    (darkenHeat c t).heads = (darkenHeat c s).heads := by
  unfold darkenHeat Channel.litUpTo
  dsimp only
  rw [hn, hq, hseq]
  split <;> simp only [charge_heads, hh]

/-! ## Quiet links -/

theorem startNotice_frame (s : State) : startNotice s = { s with link := (startNotice s).link } := by
  unfold startNotice
  split <;> rfl

theorem pump_idle (h : s.link = idleLink) : pump s = s := by
  rw [pump_no_reply (by rw [h]; rfl), startNotice_none (by rw [h]; rfl)]

theorem exec_transmitEnd_reset {x : Sending} {sc : Scope} (hh : s.held = false) (htx : s.link.tx = some x)
    (hend : x.endsAt ≤ s.now) (hacts : x.acts = some sc) :
    exec .transmitEnd s =
      .next (driveOutputs (pump (actReset sc { s with link := { s.link with tx := none } }))) := by
  have hexec : exec .transmitEnd s = .next (onLink endFrame s) := rfl
  rw [hexec, onLink, if_neg (by simp [hh]), endFrame, htx]
  dsimp only
  rw [if_pos hend, hacts]
  rfl

/-- A reset with the supply fault line high enters Safe Dark at once (R145). -/
theorem afterReset_high (hlink : s.link = idleLink) (hsafe : s.safe = none) (hfl : s.supflt = true) :
    (driveOutputs (pump (afterReset s))).safe = some .supply ∧ (driveOutputs (pump (afterReset s))).supflt = true ∧
      (driveOutputs (startNotice (afterReset s))).safe = some .supply := by
  have henter := enterSafeDark_enters .supply hsafe
  have hafter : afterReset s = enterSafeDark .supply s := if_pos hfl
  have hreplies : (enterSafeDark .supply s).link.replies = [] :=
    (enterSafeDark_kept .supply s).requests.replies.trans (by rw [hlink]; rfl)
  rw [hafter, pump_no_reply hreplies, startNotice_frame]
  exact ⟨henter.safe, henter.rest.supflt.trans hfl, henter.safe⟩

theorem afterReset_low (h : s.supflt = false) : afterReset s = s := if_neg (by simp [h])

theorem afterReset_now (s : State) : (afterReset s).now = s.now := by
  unfold afterReset
  split
  · exact (enterSafeDark_kept ..).now
  · rfl

/-! ## The cold-reset state -/

theorem coldChannel_levels (x : Channel) : x.cold.AtLevels false := by
  refine ⟨?_, rfl⟩
  show true = _
  simp [vetoLevel, Channel.cold, coldChannel, Channel.online, offTracker]

theorem coldState_driven (s : State) : driveOutputs (coldState s) = coldState s :=
  driveOutputs_self_iff.2 fun c => by cases c <;> exact coldChannel_levels _

/-! ## RUN -/

theorem runChannel_driven (n : Nat) (x : Channel) (v : Bool) : (runChannel n x).driven v = runChannel n x := by
  refine driven_of_levels ⟨?_, rfl⟩
  show true = _
  simp [vetoLevel, runChannel, Channel.online, offTracker]

theorem runState_driven (s : State) : driveOutputs (runState s) = runState s := by
  unfold runState driveOutputs
  simp only [runChannel_driven]

/-- The state of which a RUN reset keeps the tables: both queues flushed, and a pending limit dropped (R23, R138). -/
def runFlushed (s : State) : State := (flushAll .c1 (flushAll .c0 { s with supply := ⟨s.supply.limit, none⟩ }).1).1

theorem runState_chan (s : State) (c : Chan) : (runState s).chan c = runChannel s.now ((runFlushed s).chan c) := by
  cases c <;> rfl

theorem runFlushed_calm (s : State) : Calm { s with supply := ⟨s.supply.limit, none⟩ } (runFlushed s) :=
  (Calm.flushAll ..).trans (Calm.flushAll ..)

theorem runState_safety (s : State) : (runState s).safety = { s.safety with state := .stopped, pointer := .a } :=
  congrArg SafetyTimer.stop (runFlushed_calm s).tables.safety

theorem runState_supply (s : State) : (runState s).supply = ⟨s.supply.limit, none⟩ := by
  have h : (runState s).supply = (runFlushed s).supply := rfl
  rw [h, runFlushed, flushAll_supply, flushAll_supply]
  rfl

theorem runState_head (s : State) (h : Fin 24) :
    (runState s).heads[h] = { (darkenHeat .c1 (darkenHeat .c0 s)).heads[h] with strikes := 0 } := by
  have hheads : (runFlushed s).heads = (darkenHeat .c1 (darkenHeat .c0 s)).heads := by
    rw [runFlushed, flushAll_heads]
    refine darkenHeat_heads_congr ?_ ?_ ?_ ?_
    · rw [flushAll_heads]
      exact darkenHeat_heads_congr rfl rfl rfl rfl
    · rw [flushAll_now, darkenHeat_now]
    · rw [darkenHeat_chan]
      exact congrArg Channel.queue (flushAll_other .c0 { s with supply := ⟨s.supply.limit, none⟩ })
    · rw [darkenHeat_chan]
      exact congrArg Channel.seq (flushAll_other .c0 { s with supply := ⟨s.supply.limit, none⟩ })
  have h : (runState s).heads = mapAll (fun r : Head => { r with strikes := 0 }) (runFlushed s).heads := rfl
  simp only [h, hheads, mapAll_get]

/-- What a RUN reset leaves of a channel (R25, R49, R65, R66). -/
theorem runState_channel (s : State) (c : Chan) :
    ((runState s).chan c).config = (s.chan c).config ∧ ((runState s).chan c).temp = (s.chan c).temp ∧
      ((runState s).chan c).tracker = ⟨.off, none, (s.chan c).config.pnom, 0, 0⟩ ∧ ((runState s).chan c).queue = [] ∧
      ((runState s).chan c).seq.laser = .dark ∧ ((runState s).chan c).seq.committed = 0 ∧
      ((runState s).chan c).seq.veto = true ∧ ((runState s).chan c).seq.lane = ⟨none, 0⟩ ∧
      ((runState s).chan c).wgate = (s.chan c).wgate ∧
      ((runState s).chan c).syncLine = ⟨(s.chan c).syncLine.high, s.now, false⟩ ∧
      ((runState s).chan c).indexPin = ⟨(s.chan c).indexPin.high, s.now⟩ ∧
      ((runState s).chan c).guardLine = ⟨(s.chan c).guardLine.high, s.now, false⟩ ∧
      ((runState s).chan c).lightLine = ⟨(s.chan c).lightLine.high, s.now, false⟩ := by
  have hsame : State.chan { s with supply := ⟨s.supply.limit, none⟩ } c = s.chan c := by cases c <;> rfl
  have hline := (runFlushed_calm s).lines c
  rw [hsame] at hline
  obtain ⟨hconfig, htemp, hsync, hindex, hguard, hlight, hgate⟩ := hline
  have hqueue := runState_queue s c
  rw [runState_chan] at hqueue ⊢
  refine ⟨hconfig, htemp, ?_, hqueue, rfl, rfl, rfl, rfl, hgate, ?_, ?_, ?_, ?_⟩
  · rw [runChannel, hconfig]; rfl
  · rw [runChannel, hsync]; rfl
  · rw [runChannel, hindex]
  · rw [runChannel, hguard]; rfl
  · rw [runChannel, hlight]; rfl

/-- Settles O19: FULL, RUN and a supply fault line that is high. -/
theorem resetActsAtTheEndOfItsReply : Obligations.ResetActsAtTheEndOfItsReply := by
  intro x s hh htx hend
  refine ⟨fun hacts hfl => ?_, fun hacts hfl => ?_, fun hacts hfl => ?_⟩
  · have hcold : afterReset (coldState { s with link := { s.link with tx := none } }) =
        coldState { s with link := { s.link with tx := none } } :=
      afterReset_low hfl
    refine ⟨_, exec_transmitEnd_reset hh htx hend hacts, ?_⟩
    rw [actReset, hcold, pump_idle rfl, coldState_driven]
    exact congrArg (fun v => { coldState { s with link := { s.link with tx := none } } with supflt := v }) hfl
  · obtain ⟨u, hu⟩ : ∃ u, u = { s with link := { s.link with tx := none } } := ⟨_, rfl⟩
    have hcalm := runFlushed_calm u
    have hfault : (runState u).supflt = false := hcalm.tables.supflt.trans (by rw [hu]; exact hfl)
    have hrun : afterReset (runState u) = runState u := afterReset_low hfault
    refine ⟨runState u, ?_, ?_⟩
    · rw [exec_transmitEnd_reset hh htx hend hacts, ← hu, actReset, hrun, pump_idle rfl, runState_driven]
    · have hs := hcalm.tables.toSameRest
      have hchan := runState_channel u
      have hhead := runState_head u
      have hheat : (darkenHeat .c1 (darkenHeat .c0 u)).heads = (darkenHeat .c1 (darkenHeat .c0 s)).heads := by
        have hfirst : (darkenHeat .c0 u).heads = (darkenHeat .c0 s).heads := by
          refine darkenHeat_heads_congr ?_ ?_ ?_ ?_ <;> rw [hu] <;> rfl
        refine darkenHeat_heads_congr hfirst ?_ ?_ ?_ <;> simp only [darkenHeat_now, darkenHeat_chan] <;> rw [hu] <;> rfl
      rw [hheat] at hhead
      have hsafety := runState_safety u
      have hsupply := runState_supply u
      subst hu
      refine ⟨hs.now, hs.rstn, rfl, rfl, rfl, hsafety, hsupply, hs.profiles, hs.checkers, hs.rules, hs.counters, hhead,
        fun c => ?_⟩
      have hc := hchan c
      cases c <;> exact hc
  · obtain ⟨sc, hsc⟩ := Option.ne_none_iff_exists'.1 hacts
    obtain ⟨u, hu⟩ : ∃ u, u = { s with link := { s.link with tx := none } } := ⟨_, rfl⟩
    have hfu : u.supflt = true := by rw [hu]; exact hfl
    refine ⟨_, exec_transmitEnd_reset hh htx hend hsc, ?_⟩
    rw [← hu]
    cases sc
    · have h := afterReset_high (s := coldState u) rfl rfl hfu
      exact ⟨h.1, h.2.1⟩
    · have h := afterReset_high (s := runState u) rfl rfl ((runFlushed_calm u).tables.supflt.trans hfu)
      exact ⟨h.1, h.2.1⟩

/-! ## RSTN -/

theorem fallen_of_low {x : ResetPin} (h : x.low = true) (edge : Int) (now : Nat) : x.fallen edge now = x := by
  simp [ResetPin.fallen, h]

theorem fallen_of_high {x : ResetPin} {edge : Int} {now : Nat} (h : x.low = false) (hs : x.since ≤ edge)
    (hn : edge ≤ (now : Int)) : x.fallen edge now = ⟨true, edge⟩ := by
  simp [ResetPin.fallen, h, hs, hn]

theorem fallen_of_outside {x : ResetPin} {edge : Int} {now : Nat} (h : edge < x.since ∨ (now : Int) < edge) :
    x.fallen edge now = x := by
  unfold ResetPin.fallen
  rw [if_neg]
  simp only [Bool.and_eq_true, decide_eq_true_eq]
  omega

theorem exec_coldResetBegin (hh : s.held = false) (low : Int) :
    exec (.coldResetBegin low) s =
      .next (if holdDue { s with rstn := s.rstn.fallen low s.now } then
        beginHold { s with rstn := s.rstn.fallen low s.now } else { s with rstn := s.rstn.fallen low s.now }) := by
  have hexec : exec (.coldResetBegin low) s = execColdResetBegin low s := rfl
  rw [hexec, execColdResetBegin, if_neg (by simp [hh])]

theorem holdDue_eq : holdDue s = true ↔ s.rstn.low = true ∧ s.rstn.since + 500 ≤ (s.now : Int) := by
  rw [holdDue, Bool.and_eq_true, decide_eq_true_eq]
  rfl

theorem holdDue_high (h : s.rstn.low = false) : holdDue s = false := by simp [holdDue, h]

theorem exec_coldResetAct_held (hh : s.held = true) : exec .coldResetAct s = .next (endHold s) := by
  have hexec : exec .coldResetAct s = execColdResetAct s := rfl
  rw [hexec, execColdResetAct, if_pos hh]

theorem exec_coldResetAct_running (hh : s.held = false) :
    exec .coldResetAct s = .next (if holdDue s then endHold (beginHold s) else
      if s.rstn.low then { s with rstn := ⟨false, (s.now : Int)⟩ } else s) := by
  have hexec : exec .coldResetAct s = execColdResetAct s := rfl
  rw [hexec, execColdResetAct, if_neg (by simp [hh])]

theorem beginHold_spec (s : State) :
    (beginHold s).held = true ∧ (beginHold s).rstn = s.rstn ∧ (beginHold s).now = s.now ∧ (beginHold s).link = idleLink ∧
      ∀ c : Chan, ((beginHold s).chan c).seq.lane = ⟨none, 0⟩ ∧ ((beginHold s).chan c).seq.veto = true := by
  refine ⟨rfl, rfl, rfl, rfl, fun c => ?_⟩
  have hc : (beginHold s).chan c = (s.chan c).cold := by
    have h : ∀ x : Channel, x.cold.driven false = x.cold := fun x => driven_of_levels (coldChannel_levels x)
    cases c
    · exact h s.ch0
    · exact h s.ch1
  rw [hc]
  exact ⟨rfl, rfl⟩

theorem endHold_low (hfl : s.supflt = false) : endHold s = { coldState s with rstn := ⟨false, 0⟩ } := by
  have hdriven : driveOutputs { coldState s with rstn := ⟨false, 0⟩ } = { coldState s with rstn := ⟨false, 0⟩ } :=
    congrArg (fun u : State => { u with rstn := ⟨false, 0⟩ }) (coldState_driven s)
  rw [endHold, afterReset_low (s := { coldState s with rstn := ⟨false, 0⟩ }) hfl, startNotice_none rfl, hdriven]

/-! ## A held part -/

theorem onEvent_of_held {f : State → State} (hh : s.held = true) : onEvent f s = s := if_pos hh

theorem onLink_of_held {f : State → State} (hh : s.held = true) : onLink f s = s := if_pos hh

/-- The edges of the line `p` among those of both lines. -/
def edgesOf (p : SyncPin) (l : List (SyncPin × LineEdge)) : List LineEdge :=
  l.filterMap fun d => if d.1 = p then some d.2 else none

theorem edgesOf_placeEdge_sync (e : LineEdge) (l : List (SyncPin × LineEdge)) :
    edgesOf .sync (placeEdge e l) = edgesOf .sync l := by
  induction l with
  | nil => rfl
  | cons d rest ih =>
    unfold placeEdge
    split
    · rfl
    · unfold edgesOf at ih ⊢
      rw [List.filterMap_cons, List.filterMap_cons, ih]

/-- An edge of INDEXn that is no later than the others of its line stands before them. -/
theorem edgesOf_placeEdge_index {e : LineEdge} {l : List (SyncPin × LineEdge)}
    (h : ∀ d ∈ edgesOf .index l, e.time ≤ d.time) : edgesOf .index (placeEdge e l) = e :: edgesOf .index l := by
  induction l with
  | nil => rfl
  | cons d rest ih =>
    unfold placeEdge
    split
    · rfl
    · rename_i hlate
      obtain ⟨p, d⟩ := d
      cases p with
      | sync => exact ih h
      | index => exact absurd (h d (List.mem_cons_self ..)) hlate

theorem edgesOf_sync_map (l : List LineEdge) : edgesOf .sync (l.map fun e => (SyncPin.sync, e)) = l := by
  induction l with
  | nil => rfl
  | cons e rest ih => exact congrArg (e :: ·) ih

theorem edgesOf_index_map (l : List LineEdge) : edgesOf .index (l.map fun e => (SyncPin.sync, e)) = [] := by
  induction l with
  | nil => rfl
  | cons e rest ih => exact ih

theorem edgesWf_tail {e : LineEdge} {rest : List LineEdge} (h : edgesWf (e :: rest) = true) : edgesWf rest = true := by
  cases rest with
  | nil => rfl
  | cons d rest => exact (Bool.and_eq_true_iff.1 h).2

theorem edgesWf_le {e : LineEdge} {rest : List LineEdge} (h : edgesWf (e :: rest) = true) : ∀ d ∈ rest, e.time ≤ d.time := by
  induction rest generalizing e with
  | nil => intro d hd; cases hd
  | cons a rest ih =>
    obtain ⟨hea, hrest⟩ := Bool.and_eq_true_iff.1 h
    have hea : e.time ≤ a.time := of_decide_eq_true hea
    intro d hd
    rcases List.mem_cons.1 hd with rfl | hd
    · exact hea
    · exact hea.trans (ih hrest d hd)

/-- The edges in the order of time hold those of each line in their order. -/
theorem edgesInOrder_edges (sync : List LineEdge) {index : List LineEdge} (h : edgesWf index = true) :
    edgesOf .sync (edgesInOrder sync index) = sync ∧ edgesOf .index (edgesInOrder sync index) = index := by
  induction index with
  | nil => exact ⟨edgesOf_sync_map sync, edgesOf_index_map sync⟩
  | cons e rest ih =>
    obtain ⟨hs, hi⟩ := ih (edgesWf_tail h)
    have hcons : edgesInOrder sync (e :: rest) = placeEdge e (edgesInOrder sync rest) := rfl
    rw [hcons, edgesOf_placeEdge_sync, edgesOf_placeEdge_index (by rw [hi]; exact edgesWf_le h), hs, hi]
    exact ⟨rfl, rfl⟩

/-- The level of a pin after the edges `l`. -/
def levelAfter (l : List LineEdge) (high : Bool) : Bool := (l.getLast?.map fun d => d.high).getD high

theorem levelAfter_cons (e : LineEdge) (l : List LineEdge) (high : Bool) :
    levelAfter (e :: l) high = levelAfter l e.high := by
  cases l with
  | nil => rfl
  | cons d rest =>
    unfold levelAfter
    rw [List.getLast?_cons_cons, List.getLast?_cons]
    rfl

/-- The pins move with the edges of their lines. -/
theorem pinEdges_eq (c : Chan) (l : List (SyncPin × LineEdge)) (s : State) :
    l.foldl (pinEdge c) s = s.setChan c { s.chan c with
      syncLine := { (s.chan c).syncLine with high := levelAfter (edgesOf .sync l) (s.chan c).syncLine.high }
      indexPin := { (s.chan c).indexPin with high := levelAfter (edgesOf .index l) (s.chan c).indexPin.high } } := by
  induction l generalizing s with
  | nil => exact (setChan_self s c).symm
  | cons d rest ih =>
    obtain ⟨p, e⟩ := d
    rw [List.foldl_cons, ih]
    cases p with
    | sync =>
      have hs : edgesOf .sync ((SyncPin.sync, e) :: rest) = e :: edgesOf .sync rest := rfl
      have hi : edgesOf .index ((SyncPin.sync, e) :: rest) = edgesOf .index rest := rfl
      rw [hs, hi, levelAfter_cons, pinEdge, modChan_eq, setChan_setChan, State.setChan_chan]
      rfl
    | index =>
      have hs : edgesOf .sync ((SyncPin.index, e) :: rest) = edgesOf .sync rest := rfl
      have hi : edgesOf .index ((SyncPin.index, e) :: rest) = e :: edgesOf .index rest := rfl
      rw [hs, hi, levelAfter_cons, pinEdge, modChan_eq, setChan_setChan, State.setChan_chan]

theorem exec_syncRecognition_held (hh : s.held = true) (c : Chan) (sync index : List LineEdge) :
    exec (.syncRecognition c sync index) s = .next ((edgesInOrder sync index).foldl (pinEdge c) s) := by
  have hexec : exec (.syncRecognition c sync index) s = execSyncRecognition c sync index s := rfl
  rw [hexec, execSyncRecognition, if_pos hh]

/-- No event and no command of the link has an effect on a held part (R180). -/
theorem exec_held {i : Instr} (hh : s.held = true) (hact : i ≠ .coldResetAct) (hrise : i ≠ .supfltRise)
    (hfall : i ≠ .supfltFall) (hgate : ∀ c : Chan, i ≠ .wgateRise c ∧ i ≠ .wgateFall c)
    (hline : ∀ (c : Chan) (e : Nat), i ≠ .guardAssertion c e ∧ i ≠ .guardDeassertion c e ∧ i ≠ .lightAssertion c e ∧
      i ≠ .lightDeassertion c e)
    (hsync : ∀ (c : Chan) (sync index : List LineEdge), i ≠ .syncRecognition c sync index) : exec i s = .next s := by
  cases i
  case coldResetAct => exact absurd rfl hact
  case supfltRise => exact absurd rfl hrise
  case supfltFall => exact absurd rfl hfall
  case wgateRise c => exact absurd rfl (hgate c).1
  case wgateFall c => exact absurd rfl (hgate c).2
  case guardAssertion c e => exact absurd rfl (hline c e).1
  case guardDeassertion c e => exact absurd rfl (hline c e).2.1
  case lightAssertion c e => exact absurd rfl (hline c e).2.2.1
  case lightDeassertion c e => exact absurd rfl (hline c e).2.2.2
  case syncRecognition c sync index => exact absurd rfl (hsync c sync index)
  case coldResetBegin low => exact if_pos hh
  case frameArrival cs => exact congrArg Host.Outcome.next (if_pos hh)
  case missExpiry | arming | preheatEnd | windowClose | boostEnd | overrun | tailEnd | lightDeadline | biasHoldExpiry |
    leakInstant | safetyExpiry => exact congrArg Host.Outcome.next (onEvent_of_held hh)
  all_goals exact congrArg Host.Outcome.next (onLink_of_held hh)

/-- Settles O20: the beginning, the short pulse, what a held part takes, and the rise. -/
theorem coldResetHoldsThenActs : Obligations.ColdResetHoldsThenActs := by
  refine ⟨fun low since s hh hpin hdue => ?_, fun low s hh => ⟨fun hlow hshort => ?_, fun hhigh => ⟨?_, ?_, ?_⟩⟩,
    fun i s hh hact hrise hfall hgate hline hsync => exec_held hh hact hrise hfall hgate hline hsync,
    fun c e s x hh hx => ⟨?_, ?_, ?_, fun sync index _ hindex => ?_⟩, fun c e s x hh hx => ?_, fun s hh hfl => ?_,
    fun s hh hfl => ?_⟩
  · have hpinned : s.rstn.fallen low s.now = ⟨true, since⟩ := by
      obtain ⟨hlow, rfl⟩ | ⟨hhigh, hs, rfl⟩ := hpin
      · rw [fallen_of_low hlow, ← hlow]
      · exact fallen_of_high hhigh hs (by omega)
    have hexec := exec_coldResetBegin hh low
    rw [hpinned, if_pos (holdDue_eq.2 ⟨rfl, hdue⟩)] at hexec
    refine ⟨⟨_, hexec, beginHold_spec _⟩, fun hlow => ?_⟩
    have hsince : since = s.rstn.since := by
      obtain ⟨-, rfl⟩ | ⟨hhigh, -⟩ := hpin
      · rfl
      · rw [hlow] at hhigh; cases hhigh
    subst hsince
    have hhold : holdDue s = true := holdDue_eq.2 ⟨hlow, hdue⟩
    refine ⟨?_, fun t ht => ?_⟩
    · unfold dueEvents
      rw [if_neg (by simp [hh])]
      simp [mem_whenDue, hhold]
    · have hbegin := exec_coldResetBegin hh s.rstn.since
      rw [fallen_of_low hlow, if_pos hhold, ht] at hbegin
      obtain rfl : t = beginHold s := Host.Outcome.next.inj hbegin
      rw [exec_coldResetAct_running hh, if_pos hhold, exec_coldResetAct_held (beginHold_spec s).1]
  · have hnot : holdDue s = false := by
      have h : ¬ holdDue s = true := fun h => by have := (holdDue_eq.1 h).2; omega
      simpa using h
    refine ⟨?_, ?_⟩
    · rw [exec_coldResetBegin hh, fallen_of_low hlow, if_neg (by rw [hnot]; decide)]
    · rw [exec_coldResetAct_running hh, if_neg (by rw [hnot]; decide), if_pos hlow]
  · intro hs hn hshort
    rw [exec_coldResetBegin hh, fallen_of_high hhigh hs hn, if_neg]
    intro h
    have := (holdDue_eq.1 h).2
    dsimp only at this
    omega
  · intro hout
    rw [exec_coldResetBegin hh, fallen_of_outside hout, if_neg (by rw [holdDue_high hhigh]; decide)]
  · rw [exec_coldResetAct_running hh, if_neg (by rw [holdDue_high hhigh]; decide), if_neg (by simp [hhigh])]
  · subst hx
    rw [exec_syncRecognition_held hh, pinEdges_eq]
    rfl
  · subst hx
    rw [exec_syncRecognition_held hh, pinEdges_eq]
    rfl
  · rw [exec_syncRecognition_held hh]
    rfl
  · subst hx
    rw [exec_syncRecognition_held hh, pinEdges_eq, (edgesInOrder_edges sync hindex).1, (edgesInOrder_edges sync hindex).2]
    rfl
  · subst hx
    have hguard : ∀ v, onGuard c v e s = setGuardLine c ((s.chan c).guardLine.pinned v) s := fun v => if_pos hh
    have hlight : ∀ v, onLight c v e s = setLightLine c ((s.chan c).lightLine.pinned v) s := fun v => if_pos hh
    exact ⟨congrArg Host.Outcome.next (hguard true), congrArg Host.Outcome.next (hguard false),
      congrArg Host.Outcome.next (hlight true), congrArg Host.Outcome.next (hlight false)⟩
  · refine ⟨_, exec_coldResetAct_held hh, ?_⟩
    rw [endHold_low hfl]
    exact congrArg (fun v : Bool => { coldState s with rstn := ⟨false, 0⟩, supflt := v }) hfl
  · have h := (afterReset_high (s := { coldState s with rstn := ⟨false, 0⟩ }) rfl rfl hfl).2.2
    refine ⟨_, exec_coldResetAct_held hh, ?_, ?_, h⟩
    · show (startNotice _).held = false
      rw [startNotice_held, afterReset_held]
      rfl
    · rw [endHold, driveOutputs_now, startNotice_frame]
      exact afterReset_now _

end Sys2Proof.Machine
end

section
/-! PROOFS. HEAD_SET and RETIRE (R92, R98, R99, R105): what the darkening of a head's bias or detached tail leaves, and the two
requests that write the record of a head without bursts. -/

namespace Sys2Proof.Machine

variable {s t : State}

/-! ## The darkening of a head -/

theorem phaseEnded_dark (x : Channel) (n : Nat) : (x.phaseEnded n).seq.dark = x.seq.darkAt n := by
  obtain ⟨a, h, -⟩ := phaseEnded_seq x n
  rw [h]
  rfl

/-- A Sequencer that holds a head runs no held burst: the end of its phase leaves the queue. -/
theorem holdsHead_phaseEnded {x : Channel} {h : Fin 24} (hh : holdsHead x.seq h = true) (n : Nat) :
    { x.phaseEnded n with seq := x.seq.darkAt n } = { x with seq := x.seq.darkAt n } := by
  unfold Channel.phaseEnded
  cases ha : x.seq.active with
  | idle => rfl
  | detached b => rfl
  | front =>
    have hlaser : x.seq.laser = .bias := by simpa [holdsHead, ha] using (Bool.and_eq_true_iff.1 hh).2
    have hunlit : (fun b => x.litUpTo b n) = fun b => b := by
      funext b
      simp [Channel.litUpTo, hlaser, LaserState.lit]
    dsimp only
    rw [hunlit, modFirst_id]

/-- What a Sequencer's detached tail has lit up to `now`. -/
def Channel.tailLit (x : Channel) (now : Nat) : Option Burst := (x.phaseEnded now).seq.tailBurst

theorem tailLit_idle {x : Channel} (h : x.seq.active = .idle) (n : Nat) : x.tailLit n = none := by
  obtain ⟨a, hseq, ha, -⟩ := phaseEnded_seq x n
  rw [Channel.tailLit, hseq, Sequencer.tailBurst]
  dsimp only
  rw [ha h]

theorem tailLit_front {x : Channel} (h : x.seq.active = .front) (n : Nat) : x.tailLit n = none := by
  obtain ⟨a, hseq, -, ha, -⟩ := phaseEnded_seq x n
  rw [Channel.tailLit, hseq, Sequencer.tailBurst]
  dsimp only
  rw [ha h]

theorem tailLit_detached {x : Channel} {b : Burst} (h : x.seq.active = .detached b) (n : Nat) :
    x.tailLit n = some (x.litUpTo b n) := by
  obtain ⟨a, hseq, -, -, ha⟩ := phaseEnded_seq x n
  rw [Channel.tailLit, hseq, Sequencer.tailBurst]
  dsimp only
  rw [ha b h]

/-- A Sequencer that holds the head goes DARK, and its detached tail is charged (R92, R99, R105). -/
theorem darkenHeadOn_held {h : Fin 24} {c : Chan} (hh : holdsHead (s.chan c).seq h = true) :
    darkenHeadOn h c s =
      ((chargeSome ((s.chan c).tailLit s.now) s).setChan c
        { s.chan c with seq := (s.chan c).seq.darkAt s.now }).setSupply
          (supplyAfter s.supply (s.chan c.other).seq.committed) := by
  rw [darkenHeadOn, if_pos hh, chargeDetached_eq, endPhase_eq, State.setChan_chan, chargeSome_setChan, goDark_eq,
    setChan_setChan, State.setChan_chan, State.setChan_other, State.setChan_supply, chargeSome_supply, chargeSome_chan,
    phaseEnded_dark, holdsHead_phaseEnded hh]
  rfl

theorem darkenHeadOn_free {h : Fin 24} {c : Chan} (hh : (s.chan c).seq.selected ≠ some h) : darkenHeadOn h c s = s := by
  rw [darkenHeadOn, if_neg]
  simp [holdsHead, hh]

theorem darkenHeadOn_chan (h : Fin 24) (c : Chan) (s : State) :
    (darkenHeadOn h c s).chan c = { s.chan c with
      seq := if holdsHead (s.chan c).seq h then (s.chan c).seq.darkAt s.now else (s.chan c).seq } := by
  by_cases hh : holdsHead (s.chan c).seq h = true
  · rw [darkenHeadOn_held hh, setSupply_chan, State.setChan_chan, if_pos hh]
  · rw [darkenHeadOn, if_neg hh, if_neg hh]

theorem darkenHead_chan (h : Fin 24) (d : Chan) (s : State) :
    (darkenHead h s).chan d = { s.chan d with
      seq := if holdsHead (s.chan d).seq h then (s.chan d).seq.darkAt s.now else (s.chan d).seq } := by
  cases d
  · have hother : (darkenHeadOn h .c1 (darkenHeadOn h .c0 s)).chan .c0 = (darkenHeadOn h .c0 s).chan .c0 :=
      SameOther.darkenHeadOn h .c1 _
    rw [darkenHead, hother, darkenHeadOn_chan]
  · have hother : (darkenHeadOn h .c0 s).chan .c1 = s.chan .c1 := SameOther.darkenHeadOn h .c0 s
    rw [darkenHead, darkenHeadOn_chan, hother, (Calm.darkenHeadOn h .c0 s).tables.now]

theorem darkenHead_free {h : Fin 24} (hh : ∀ d : Chan, (s.chan d).seq.selected ≠ some h) : darkenHead h s = s := by
  rw [darkenHead, darkenHeadOn_free (hh .c0), darkenHeadOn_free (hh .c1)]

/-- Where one Sequencer alone has the head selected, that one alone is darkened. -/
theorem darkenHead_one {h : Fin 24} {d : Chan} (hother : (s.chan d.other).seq.selected ≠ some h) :
    darkenHead h s = darkenHeadOn h d s := by
  cases d
  · have hkept : (darkenHeadOn h .c0 s).chan .c1 = s.chan .c1 := SameOther.darkenHeadOn h .c0 s
    rw [darkenHead, darkenHeadOn_free (c := .c1)]
    rw [hkept]
    exact hother
  · rw [darkenHead, darkenHeadOn_free (c := .c0) hother]

/-! ## The heads after it -/

/-- The records agree but for what a charge moves: the bucket, the lifetime heat and the wear-noticed flag. -/
def Head.SameButHeat (r p : Head) : Prop :=
  { p with bucket := r.bucket, lifetime := r.lifetime, wearNoticed := r.wearNoticed } = r

theorem Head.SameButHeat.refl (r : Head) : r.SameButHeat r := rfl

theorem Head.SameButHeat.trans {r p q : Head} (a : r.SameButHeat p) (b : p.SameButHeat q) : r.SameButHeat q :=
  Eq.trans (b := ({ p with bucket := r.bucket, lifetime := r.lifetime, wearNoticed := r.wearNoticed } : Head))
    (congrArg (fun x : Head => { x with bucket := r.bucket, lifetime := r.lifetime, wearNoticed := r.wearNoticed }) b) a

theorem Head.SameButHeat.heated (r : Head) (u : Nat) : r.SameButHeat (r.heated u) := by
  unfold Head.heated
  split
  · exact .refl r
  · rfl

theorem charge_head (h k : Fin 24) (u : Nat) (s : State) :
    (charge h u s).heads[k] = if k = h then s.heads[k].heated u else s.heads[k] := by
  rw [charge_heads]
  by_cases hk : k = h
  · subst hk; rw [if_pos rfl, heads_set_same]
  · rw [if_neg hk, heads_set_ne _ _ _ _ hk]

theorem charge_sameButHeat (h k : Fin 24) (u : Nat) (s : State) : s.heads[k].SameButHeat (charge h u s).heads[k] := by
  rw [charge_head]
  split
  · exact .heated ..
  · exact .refl _

theorem darkenHeadOn_sameButHeat (h k : Fin 24) (c : Chan) (s : State) :
    s.heads[k].SameButHeat (darkenHeadOn h c s).heads[k] := by
  by_cases hh : holdsHead (s.chan c).seq h = true
  · rw [darkenHeadOn_held hh, setSupply_heads, State.setChan_heads]
    cases (s.chan c).tailLit s.now with
    | none => exact .refl _
    | some b => exact charge_sameButHeat ..
  · rw [darkenHeadOn, if_neg hh]
    exact .refl _

theorem darkenHead_sameButHeat (h k : Fin 24) (s : State) : s.heads[k].SameButHeat (darkenHead h s).heads[k] :=
  (darkenHeadOn_sameButHeat h k .c0 s).trans (darkenHeadOn_sameButHeat ..)

/-- A head that no detached tail of the darkened Sequencer was lit on is as it was. -/
theorem darkenHeadOn_head {h k : Fin 24} {c : Chan}
    (hk : ∀ x, (s.chan c).seq.selected = some h → (s.chan c).seq.active = .detached x → x.head ≠ k) :
    (darkenHeadOn h c s).heads[k] = s.heads[k] := by
  by_cases hh : holdsHead (s.chan c).seq h = true
  · have hsel : (s.chan c).seq.selected = some h := beq_iff_eq.1 (Bool.and_eq_true_iff.1 hh).1
    rw [darkenHeadOn_held hh, setSupply_heads, State.setChan_heads]
    cases ha : (s.chan c).seq.active with
    | idle => rw [tailLit_idle ha]; rfl
    | front => rw [tailLit_front ha]; rfl
    | detached b =>
      rw [tailLit_detached ha]
      have hne : k ≠ ((s.chan c).litUpTo b s.now).head := by rw [litUpTo_head]; exact (hk b hsel ha).symm
      exact (charge_head ..).trans (if_neg hne)
  · rw [darkenHeadOn, if_neg hh]

theorem SameRequests.of_link (h : t.link = s.link) : SameRequests s t := by constructor <;> rw [h]

/-- What a darkening of the head leaves of all but its record (R92, R99, R105). -/
theorem darkenHead_darkened (h : Fin 24) (r : Head) (s : State) : HeadDarkened h s (darkenHead h (s.setHead h r)) := by
  have hcalm := (Calm.setHead s h r).trans (Calm.darkenHead h (s.setHead h r))
  have hchan : ∀ d, (darkenHead h (s.setHead h r)).chan d = { s.chan d with
      seq := if holdsHead (s.chan d).seq h then (s.chan d).seq.darkAt s.now else (s.chan d).seq } := fun d => by
    rw [darkenHead_chan, State.setHead_chan, State.setHead_now]
  constructor
  case darkened =>
    intro d hsel hlaser
    have hh : holdsHead (s.chan d).seq h = true := by
      obtain hb | ⟨x, hx⟩ := hlaser
      · simp [holdsHead, hsel, hb]
      · simp [holdsHead, hsel, hx]
    rw [hchan, if_pos hh]
    exact ⟨rfl, rfl, rfl⟩
  case others =>
    intro d hsel
    rw [hchan, if_neg (by simp [holdsHead, hsel])]
  case queues =>
    intro d
    rw [hchan]
    exact ⟨rfl, rfl, ⟨rfl, rfl, rfl, rfl, rfl, rfl, rfl, rfl⟩⟩
  case heads =>
    intro k hk htail
    have h1 : (darkenHeadOn h .c0 (s.setHead h r)).chan .c1 = s.chan .c1 := SameOther.darkenHeadOn h .c0 (s.setHead h r)
    rw [darkenHead, darkenHeadOn_head (by rw [h1]; exact htail .c1),
      darkenHeadOn_head (by rw [State.setHead_chan]; exact htail .c0)]
    exact heads_set_ne _ _ _ _ hk
  case tables => exact hcalm.tables
  case requests => exact hcalm.requests

/-- A Sequencer in BIAS alone on the head goes DARK with nothing charged. -/
theorem darkenHead_bias {h : Fin 24} {d : Chan} {r : Head} (hsel : (s.chan d).seq.selected = some h)
    (hother : (s.chan d.other).seq.selected ≠ some h) (hlaser : (s.chan d).seq.laser = .bias)
    (hactive : (s.chan d).seq.active = .idle) :
    darkenHead h (s.setHead h r) = State.setHead
      { (s.setChan d { s.chan d with seq := (s.chan d).seq.darkAt s.now }) with
        supply := supplyAfter s.supply (s.chan d.other).seq.committed } h r := by
  have hh : holdsHead (s.chan d).seq h = true := by simp [holdsHead, hsel, hlaser]
  rw [darkenHead_one (d := d) (by rw [State.setHead_chan]; exact hother), darkenHeadOn_held (by rw [State.setHead_chan]; exact hh),
    State.setHead_chan, State.setHead_chan, tailLit_idle hactive]
  cases d <;> rfl

/-- A Sequencer that alone runs a detached tail of the head goes DARK, and the tail is charged. -/
theorem darkenHead_tail {h : Fin 24} {d : Chan} {r : Head} {b : Burst} (hsel : (s.chan d).seq.selected = some h)
    (hother : (s.chan d.other).seq.selected ≠ some h) (hlaser : (s.chan d).seq.laser = .tail)
    (hactive : (s.chan d).seq.active = .detached b) (hb : b.head = h) :
    darkenHead h (s.setHead h r) = charge h (heatOf (b.litFor .tail (s.now - (s.chan d).seq.phaseStart)).acc)
      (State.setHead { (s.setChan d { s.chan d with seq := (s.chan d).seq.darkAt s.now }) with
        supply := supplyAfter s.supply (s.chan d.other).seq.committed } h r) := by
  have hh : holdsHead (s.chan d).seq h = true := by simp [holdsHead, hsel, hactive]
  have hlit : (s.chan d).litUpTo b s.now = b.litFor .tail (s.now - (s.chan d).seq.phaseStart) := by
    rw [Channel.litUpTo, hlaser]; rfl
  have hstate : State.setHead { (s.setChan d { s.chan d with seq := (s.chan d).seq.darkAt s.now }) with
        supply := supplyAfter s.supply (s.chan d.other).seq.committed } h r =
      ((s.setHead h r).setChan d { s.chan d with seq := (s.chan d).seq.darkAt s.now }).setSupply
        (supplyAfter s.supply (s.chan d.other).seq.committed) := by cases d <;> rfl
  rw [hstate, charge_setSupply, charge_setChan, darkenHead_one (d := d) (by rw [State.setHead_chan]; exact hother),
    darkenHeadOn_held (by rw [State.setHead_chan]; exact hh), State.setHead_chan, State.setHead_chan, State.setHead_now,
    State.setHead_supply, tailLit_detached hactive, hlit]
  subst hb
  rfl

theorem headBusy_eq_true {h : Fin 24} : s.headBusy h = true ↔ HoldsBurstOf s h := by
  rw [← Bool.not_eq_false, headBusy_eq_false]
  simp only [HoldsBurstOf, not_forall, ne_eq, not_not, exists_prop]

/-! ## RETIRE -/

theorem serve_retire {tag b : Byte} {h : Fin 24} (hb : b.toNat = h.val) (hfree : ¬ HoldsBurstOf s h) :
    serve (.retire tag (.fits b)) s = answer (.retire tag (.fits b)) .replied
      (darkenHead h (s.setHead h { s.heads[h] with state := .absent, strikes := 0 }), .headState .ok .absent 0) := by
  rw [serve, serveRetire, withHeadState_fits hb, if_neg (by rw [headBusy_eq_true]; exact hfree)]

/-- Settles O34. -/
theorem retireMakesAHeadAbsent : Obligations.RetireMakesAHeadAbsent := by
  intro tag b s hidle hs
  refine ⟨fun hb => ?_, fun a => ?_, fun h r hb hr => ⟨fun hbusy => ?_, fun hfree hnone => ?_,
    fun d t hfree hsel hother ht => ⟨fun hlaser hactive => ?_, fun x hlaser hactive hx => ?_⟩, fun hfree => ?_⟩⟩
  · exact exec_unchanged (.code .fieldRange) hidle hs (by rw [serve, serveRetire, withHeadState_undefined hb])
  · exact exec_unchanged (.code .fieldRange) hidle hs rfl
  · exact exec_unchanged (.headState .headBusy s.heads[h].state 0) hidle hs
      (by rw [serve, serveRetire, withHeadState_fits hb, if_pos (headBusy_eq_true.2 hbusy)]; rfl)
  all_goals
    have hkept : LinkKept s (darkenHead h (s.setHead h r)) := ((Calm.setHead s h r).trans (.darkenHead ..)).kept
    have hserve := serve_retire (tag := tag) hb hfree
    rw [← hr] at hserve
    have hexec := exec_request (kind := 0x92) (tag := tag) (payload := [0x00, 0, 0]) _ _ hidle hkept hserve
  · rw [darkenHead_free (fun d => by rw [State.setHead_chan]; exact hnone d)] at hexec
    rw [hexec, replying_of_driven (driven_with_head hs h r)]
  · rw [darkenHead_bias hsel hother hlaser hactive, ← ht] at hexec
    exact hexec
  · rw [darkenHead_tail hsel hother hlaser hactive hx, ← ht] at hexec
    exact hexec
  · refine ⟨_, hexec, ?_, darkenHead_darkened ..⟩
    have hheat := darkenHead_sameButHeat h h (s.setHead h r)
    have hget : (s.setHead h r).heads[h] = r := heads_set_same ..
    rw [hget] at hheat
    exact hheat

/-! ## HEAD_SET -/

theorem headAsSet_set (f : HeadSetFields) (c : Chan) (old : Head) : headAsSet f c old (old.set f c) where
  channel := rfl
  ith25 := Nat.zero_max _
  ktemp := rfl
  gain := by
    have := f.gain.isLt
    simp only [Head.set, writeHeadFields, clampNat]
    omega
  imax := Nat.zero_max _
  ibias := Nat.zero_max _
  lightEst := Nat.zero_max _
  coldExtra := Nat.zero_max _
  lt := rfl
  samplePeriod := rfl
  sampleCountdown := rfl
  strikeLimit := rfl
  ceiling := by
    have := f.ceiling.isLt
    simp only [Head.set, writeHeadFields, clampNat]
    omega
  leak := rfl
  wearThreshold := rfl
  wearNoticed := by simp [Head.set, writeHeadFields]
  state := rfl
  strikes := rfl
  bucket := rfl
  lifetime := rfl

theorem headSetCode_byte (f : HeadSetFields) (c : Chan) (old : Head) :
    (headSetCode f (old.set f c)).byte = if headInRange f then 0x00 else 0x01 := by
  rw [headSetCode, clampCode_byte]
  refine if_congr ?_ rfl rfl
  have hgain : f.gain.toNat ≤ 255 := Nat.le_of_lt_succ f.gain.isLt
  have hceiling : f.ceiling.toNat ≤ 65535 := Nat.le_of_lt_succ f.ceiling.isLt
  simp (disch := decide) only [Head.set, writeHeadFields, List.forall_mem_cons, List.not_mem_nil, false_implies, implies_true,
    and_true, eq_clampInt_iff, eq_clampNat_iff, headInRange, Nat.zero_le, true_and, hgain, hceiling]

theorem serve_headSet {tag : Byte} {f : HeadSetFields} {h : Fin 24} {c : Chan} (hh : f.head.toNat = h.val)
    (hc : f.channel = chanCode c) (hfree : ¬ HoldsBurstOf s h) :
    serve (.headSet tag (.fits f)) s = answer (.headSet tag (.fits f)) .replied
      (wearTest h (darkenHead h (s.setHead h (s.heads[h].set f c))),
        .head (headSetCode f (s.heads[h].set f c)) h (darkenHead h (s.setHead h (s.heads[h].set f c))).heads[h]) := by
  simp only [serve, serveHeadSet, withPayload, indexOf_of_eq hh, hc, chanOf_chanCode]
  rw [if_neg (by rw [headBusy_eq_true]; exact hfree)]

theorem head_payload (k : Code) (h : Fin 24) (r : Head) : (Reply.head k h r).payload = k.byte :: headBytes h r := rfl

/-- The wear test may set the wear-noticed flag of its head, and touches no other record (R150). -/
theorem wearTest_head (h : Fin 24) (s : State) :
    (wearTest h s).heads[h] = { s.heads[h] with wearNoticed := s.heads[h].wearNoticed ||
      (s.heads[h].wearThreshold != 0 && decide (s.heads[h].wearThreshold ≤ s.heads[h].lifetime)) } := by
  by_cases hw : s.heads[h].wears
  · rw [wearTest_of_wears hw, placeNotice_heads, State.setHead_heads, heads_set_same]
    obtain ⟨hne, -, hle⟩ := hw
    rw [bne_iff_ne.2 hne, decide_eq_true hle, Bool.and_self, Bool.or_true]
  · rw [wearTest_of_not hw]
    have hflag : (s.heads[h].wearNoticed ||
        (s.heads[h].wearThreshold != 0 && decide (s.heads[h].wearThreshold ≤ s.heads[h].lifetime))) =
        s.heads[h].wearNoticed := by
      cases hn : s.heads[h].wearNoticed with
      | true => rfl
      | false =>
        by_contra hne
        rw [Bool.false_or, Bool.not_eq_false, Bool.and_eq_true, bne_iff_ne, decide_eq_true_eq] at hne
        exact hw ⟨hne.1, hn, hne.2⟩
    rw [hflag]

theorem wearTest_head_ne {h k : Fin 24} (hk : k ≠ h) (s : State) : (wearTest h s).heads[k] = s.heads[k] := by
  by_cases hw : s.heads[h].wears
  · rw [wearTest_of_wears hw, placeNotice_heads, State.setHead_heads, heads_set_ne _ _ _ _ hk]
  · rw [wearTest_of_not hw]

theorem HeadDarkened.wearTest {h : Fin 24} (d : HeadDarkened h s t) : HeadDarkened h s (wearTest h t) where
  darkened c := by rw [wearTest_chan]; exact d.darkened c
  others c := by rw [wearTest_chan]; exact d.others c
  queues c := by rw [wearTest_chan]; exact d.queues c
  heads k hk htail := (wearTest_head_ne hk t).trans (d.heads k hk htail)
  tables := d.tables.trans (Calm.wearTest h t).tables
  requests := d.requests.trans (Calm.wearTest h t).requests

/-- Settles O32. -/
theorem headSetWritesTheCalibration : Obligations.HeadSetWritesTheCalibration := by
  intro tag f s hidle hs
  refine ⟨fun hout => ?_, fun h c code hh hc hcode => ⟨fun hbusy => ?_, fun hfree => ?_⟩⟩
  · refine exec_unchanged (.code .fieldRange) hidle hs ?_
    obtain hout | hout := hout
    · simp only [serve, serveHeadSet, withPayload, indexOf_of_le hout]
    · simp only [serve, serveHeadSet, withPayload, chanOf_of_two_le hout]
      cases indexOf 24 f.head <;> rfl
  · refine exec_unchanged (.code .headBusy) hidle hs ?_
    simp only [serve, serveHeadSet, withPayload, indexOf_of_eq hh, hc, chanOf_chanCode, if_pos (headBusy_eq_true.2 hbusy)]
  · obtain ⟨r, hr⟩ : ∃ r, r = s.heads[h].set f c := ⟨_, rfl⟩
    have hset : headAsSet f c s.heads[h] r := by rw [hr]; exact headAsSet_set ..
    have hbyte : (headSetCode f r).byte = code := by rw [hr, hcode]; exact headSetCode_byte ..
    have hkept : LinkKept s (wearTest h (darkenHead h (s.setHead h r))) :=
      (((Calm.setHead s h r).trans (.darkenHead ..)).trans (.wearTest ..)).kept
    have hserve := serve_headSet (tag := tag) hh hc hfree
    rw [← hr] at hserve
    have hexec := exec_request (kind := 0x90) (tag := tag)
      (payload := code :: headBytes h (darkenHead h (s.setHead h r)).heads[h]) _ _
      hidle hkept hserve (hpayload := by rw [head_payload, hbyte])
    have hget : ∀ u : State, (u.setHead h r).heads[h] = r := fun u => heads_set_same ..
    refine ⟨r, hset, fun hnone => ?_, fun d t hsel hother ht => ⟨fun hlaser hactive => ?_,
      fun b units hlaser hactive hb hunits => ?_⟩, _, _, hexec, ?_, ?_, (darkenHead_darkened h r s).wearTest⟩
    · rw [darkenHead_free (fun d => by rw [State.setHead_chan]; exact hnone d), hget] at hexec
      exact hexec
    · have htr : t.heads[h] = r := by rw [ht]; exact hget _
      rw [darkenHead_bias hsel hother hlaser hactive, ← ht, htr] at hexec
      exact hexec
    · have htr : t.heads[h] = r := by rw [ht]; exact hget _
      rw [darkenHead_tail hsel hother hlaser hactive hb, ← ht, ← hunits, charge_head, if_pos rfl, htr] at hexec
      exact hexec
    · have hheat := darkenHead_sameButHeat h h (s.setHead h r)
      rw [hget] at hheat
      exact hheat
    · exact wearTest_head ..

end Sys2Proof.Machine
end

section
/-! PROOFS. What follows an event at once (R75, R81): every round of `atOnceRounds` leaves fewer rounds to take, so `runAtOnce`
takes rounds until none is left, and is read one round at a time. -/

namespace Sys2Proof.Machine

variable {s t : State} {c : Chan} {own : Option U16}

/-! ## The rounds that are left -/

/-- The rounds that the front burst can still need, its tail left out. -/
def frontRounds (x : Channel) : Nat :=
  match x.queue.head? with
  | none => 0
  | some b =>
    match b.state with
    | .queued | .heating | .ready => 2
    | .barred _ => if x.gate.any fun g => !g.closed then 1 else 0
    | .writing | .cooling _ => 0

/-- The rounds that a running tail needs. -/
def tailRounds (q : Sequencer) : Nat := if q.laser = .tail then 1 else 0

/-- A bound on the rounds that a channel can still need. -/
def Channel.rounds (x : Channel) : Nat := tailRounds x.seq + 2 * (x.queue.length - 1) + frontRounds x

theorem frontRounds_le (x : Channel) : frontRounds x ≤ 2 := by
  unfold frontRounds
  split
  · omega
  · split
    · exact le_rfl
    · exact le_rfl
    · exact le_rfl
    · split <;> omega
    · omega
    · omega

theorem tailRounds_le (q : Sequencer) : tailRounds q ≤ 1 := by
  unfold tailRounds
  split <;> omega

theorem rounds_le (x : Channel) : x.rounds ≤ 2 * x.queue.length + 2 := by
  have h1 := frontRounds_le x
  have h2 := tailRounds_le x.seq
  unfold Channel.rounds
  cases hq : x.queue with
  | nil =>
    have h0 : frontRounds x = 0 := by unfold frontRounds; rw [hq]; rfl
    simp only [List.length_nil]
    omega
  | cons b rest =>
    simp only [List.length_cons]
    omega

/-- What the front burst needs depends on its state and the gate. -/
theorem frontRounds_congr {x y : Channel} (hq : y.queue.head?.map Burst.state = x.queue.head?.map Burst.state)
    (hg : y.gate = x.gate) : frontRounds y = frontRounds x := by
  unfold frontRounds
  rw [hg]
  cases hx : x.queue.head? <;> cases hy : y.queue.head? <;> simp only [hx, hy, Option.map, reduceCtorEq] at hq ⊢
  rename_i b d
  obtain hq := Option.some.inj hq
  rw [hq]

theorem rounds_congr {x y : Channel} (hl : y.seq.laser = x.seq.laser) (hn : y.queue.length = x.queue.length)
    (hq : y.queue.head?.map Burst.state = x.queue.head?.map Burst.state) (hg : y.gate = x.gate) : y.rounds = x.rounds := by
  unfold Channel.rounds tailRounds
  rw [hl, hn, frontRounds_congr hq hg]

/-- A bound on the rounds from bounds on their parts. -/
theorem rounds_le_of {x : Channel} {k n t : Nat} (hl : tailRounds x.seq ≤ t) (hn : x.queue.length = n)
    (hf : frontRounds x ≤ k) : x.rounds ≤ t + 2 * (n - 1) + k := by
  unfold Channel.rounds
  omega

theorem litUpTo_state (x : Channel) (b : Burst) (n : Nat) : (x.litUpTo b n).state = b.state := by
  unfold Channel.litUpTo
  split <;> rfl

theorem modFirst_length {α : Type} (f : α → α) (l : List α) : (modFirst f l).length = l.length := by cases l <;> rfl

theorem asFront_length (q : List Burst) : (asFront q).length = q.length := by cases q <;> rfl

theorem phaseEnded_rounds (x : Channel) (n : Nat) : (x.phaseEnded n).rounds = x.rounds := by
  unfold Channel.phaseEnded
  split
  · exact rounds_congr rfl rfl rfl rfl
  · refine rounds_congr rfl (modFirst_length ..) ?_ rfl
    cases x.queue with
    | nil => rfl
    | cons b rest => exact congrArg some (litUpTo_state ..)
  · exact rounds_congr rfl rfl rfl rfl

/-- A completion of the front burst takes the rounds it needed with it. -/
theorem advanced_rounds (x : Channel) : x.advanced.rounds ≤ tailRounds x.seq + 2 * (x.queue.length - 1) := by
  have hfront := frontRounds_le x.advanced
  have hlen : x.advanced.queue.length = x.queue.length - 1 := by
    rw [Channel.advanced, asFront_length, List.length_tail]
  unfold Channel.rounds
  rw [hlen, show x.advanced.seq = x.seq from rfl]
  by_cases hnil : x.queue.length - 1 = 0
  · have hempty : x.advanced.queue = [] := List.eq_nil_of_length_eq_zero (hlen.trans hnil)
    have h0 : frontRounds x.advanced = 0 := by unfold frontRounds; rw [hempty]; rfl
    omega
  · omega

theorem completeFront_rounds (v : Verdict) : ((completeFront c v s).chan c).rounds ≤
    tailRounds (s.chan c).seq + 2 * ((s.chan c).queue.length - 1) := by
  rw [completeFront_chan]
  split
  · rename_i hq
    have h0 : frontRounds (s.chan c) = 0 := by unfold frontRounds; rw [hq]; rfl
    unfold Channel.rounds
    omega
  · exact advanced_rounds _

theorem completeBarred_rounds : ((completeBarred c s).chan c).rounds ≤ (s.chan c).rounds := by
  have h := fun v => (completeFront_rounds (c := c) (s := s) v).trans (Nat.le_add_right _ (frontRounds (s.chan c)))
  unfold completeBarred
  split
  · exact le_rfl
  · split
    · split
      · exact h _
      · exact le_rfl
    all_goals exact le_rfl

/-- An arming takes no more rounds than the QUEUED burst needed. -/
theorem arm_rounds (h : armDue c s = true) : ((arm c s).chan c).rounds ≤ (s.chan c).rounds := by
  obtain ⟨b, g, hb, hg, hq, -⟩ := armDue_front h
  have hqueue := front_queue hb
  have hfront : frontRounds (s.chan c) = 2 := by
    unfold frontRounds
    rw [hqueue]
    simp only [List.head?_cons, hq]
  have hrounds : (s.chan c).rounds = tailRounds (s.chan c).seq + 2 * ((s.chan c).queue.length - 1) + 2 := by
    rw [Channel.rounds, hfront]
  have hbar : ∀ (d : Burst) (r : Reason), ((barAtArming c d r s).chan c).rounds ≤ (s.chan c).rounds := by
    intro d r
    have hchan : (barAtArming c d r s).chan c = { s.chan c with
        queue := { d with state := .barred r } :: (s.chan c).queue.tail
        seq := { (s.chan c).seq with biasCount := 0 } } := by
      rw [barAtArming, State.modSeq_chan, modFront_chan, hqueue]
      rfl
    rw [hchan, hrounds]
    refine rounds_le_of (t := tailRounds (s.chan c).seq) le_rfl ?_ (frontRounds_le _)
    exact (congrArg List.length hqueue).symm
  have hstart : ∀ (d : Burst) (l : LeadUsed), ((startBurst c d l s).chan c).rounds ≤ (s.chan c).rounds := by
    intro d l
    rw [startBurst_eq, setSupply_chan, State.setChan_chan, hrounds]
    refine rounds_le_of (t := tailRounds (s.chan c).seq) ?_ (modFirst_length ..) (frontRounds_le _)
    exact (if_neg (by decide : ¬ LaserState.preheat = .tail)).trans_le (Nat.zero_le _)
  unfold arm
  dsimp only
  rw [show (s.chan c).queue.head? = some b from hb]
  dsimp only
  split
  · exact hbar ..
  · split
    · exact hbar ..
    all_goals
      split
      · exact hstart ..
      · exact hbar ..

theorem settleRest_rounds (b : Burst) (hl : (s.chan c).seq.laser = .tail) :
    ((settleRest c b s).chan c).rounds + 1 = (s.chan c).rounds := by
  have hone : tailRounds (s.chan c).seq = 1 := if_pos hl
  have hdrop : ∀ q : Sequencer, q.laser ≠ .tail →
      Channel.rounds { s.chan c with seq := q } + 1 = (s.chan c).rounds := by
    intro q hq
    have h0 : tailRounds q = 0 := if_neg hq
    have hf : frontRounds { s.chan c with seq := q } = frontRounds (s.chan c) := frontRounds_congr rfl rfl
    unfold Channel.rounds
    rw [hf, h0, hone]
    dsimp only
    omega
  unfold settleRest
  split
  · rw [setCommit_chan, State.modSeq_chan]
    exact hdrop _ (fun h => nomatch h)
  · rw [goDark_chan]
    exact hdrop _ (fun h => nomatch h)

theorem endTailBurst_rounds : ((endTailBurst c s).chan c).rounds ≤ (s.chan c).rounds ∧
    ((endTailBurst c s).chan c).seq.laser = (s.chan c).seq.laser := by
  have hidle : ((s.modSeq c fun q => { q with active := .idle }).chan c).rounds = (s.chan c).rounds := by
    rw [State.modSeq_chan]
    exact rounds_congr rfl rfl rfl rfl
  have hlaser : ((s.modSeq c fun q => { q with active := .idle }).chan c).seq.laser = (s.chan c).seq.laser := by
    rw [State.modSeq_chan]
  have hfront : ∀ v, ((completeFront c v (s.modSeq c fun q => { q with active := .idle })).chan c).rounds ≤
      (s.chan c).rounds ∧
      ((completeFront c v (s.modSeq c fun q => { q with active := .idle })).chan c).seq.laser =
        (s.chan c).seq.laser := by
    intro v
    refine ⟨((completeFront_rounds v).trans (Nat.le_add_right _ (frontRounds _))).trans hidle.le, ?_⟩
    rw [completeFront_chan]
    split
    · exact hlaser
    · exact hlaser
  unfold endTailBurst
  dsimp only
  split
  · exact ⟨hidle.le, hlaser⟩
  · rw [chargeBurst_chan]
    exact ⟨hidle.le, hlaser⟩
  · split
    · exact ⟨hidle.le, hlaser⟩
    · split
      · exact hfront _
      · refine ⟨completeBarred_rounds.trans hidle.le, ?_⟩
        unfold completeBarred
        split
        · exact hlaser
        · split
          · split
            · exact (hfront _).2
            · exact hlaser
          all_goals exact hlaser
      all_goals exact ⟨hidle.le, hlaser⟩

/-- The end of a tail leaves fewer rounds. -/
theorem endTail_rounds (hl : (s.chan c).seq.laser = .tail) : ((endTail c s).chan c).rounds < (s.chan c).rounds := by
  have hend : ((endPhase c s).chan c).rounds = (s.chan c).rounds := by rw [endPhase_chan, phaseEnded_rounds]
  have hlaser : ((endPhase c s).chan c).seq.laser = .tail := by
    obtain ⟨a, h, -⟩ := phaseEnded_seq (s.chan c) s.now
    rw [endPhase_chan, h]
    exact hl
  unfold endTail
  dsimp only
  split
  · rw [goDark_chan]
    have hf : frontRounds { (endPhase c s).chan c with seq := ((endPhase c s).chan c).seq.dark } =
        frontRounds ((endPhase c s).chan c) := frontRounds_congr rfl rfl
    have h0 : tailRounds ((endPhase c s).chan c).seq.dark = 0 := rfl
    have h1 : tailRounds ((endPhase c s).chan c).seq = 1 := if_pos hlaser
    rw [← hend]
    unfold Channel.rounds
    rw [hf, h0, h1]
    dsimp only
    omega
  · rename_i b _
    obtain ⟨hle, hl'⟩ := endTailBurst_rounds (c := c) (s := endPhase c s)
    have hrest := settleRest_rounds b (hl'.trans hlaser)
    split
    · rename_i hdue
      have := arm_rounds hdue
      omega
    · omega

theorem closeDue_front {x : Channel} {n : Nat} (h : closeDue x n = true) :
    ∃ g b, x.gate = some g ∧ x.queue.head? = some b ∧ g.time + (x.config.late : Int) ≤ (n : Int) ∧ awaitsClose b g := by
  unfold closeDue at h
  cases hg : x.gate with
  | none => rw [hg] at h; cases h
  | some g =>
    cases hb : x.queue.head? with
    | none => rw [hg, hb] at h; simp at h
    | some b =>
      rw [hg, hb] at h
      simp only [Option.any_some, Bool.and_eq_true, decide_eq_true_eq] at h
      refine ⟨g, b, rfl, rfl, h.1, ?_⟩
      cases hs : b.state with
      | heating => exact .inl hs
      | ready => exact .inr (.inl hs)
      | barred r => exact .inr (.inr ⟨r, hs, by simpa [hs] using h.2⟩)
      | queued => simp [hs] at h
      | writing => simp [hs] at h
      | cooling v => simp [hs] at h

theorem closeDue_of {x : Channel} {n : Nat} {g : GateTime} {b : Burst} (hg : x.gate = some g)
    (hb : x.queue.head? = some b) (ht : g.time + (x.config.late : Int) ≤ (n : Int)) (hw : awaitsClose b g) :
    closeDue x n = true := by
  unfold closeDue
  rw [hg, hb]
  simp only [Option.any_some, ht, decide_true, Bool.true_and]
  obtain h | h | ⟨r, h, hc⟩ := hw
  · rw [h]
  · rw [h]
  · rw [h]
    simp [hc]

theorem dueClose_eq_none : dueClose c s = none ↔ closeDue (s.chan c) s.now = false := by
  unfold dueClose
  split
  · rename_i h
    obtain ⟨g, b, -, hb, -⟩ := closeDue_front h
    simp [State.front, hb, h]
  · rename_i h
    simpa using h

theorem dueClose_of_due {b : Burst} (h : closeDue (s.chan c) s.now = true) (hb : s.front c = some b) :
    dueClose c s = some b.tag := by
  rw [dueClose, if_pos h, hb]
  rfl

/-- The close of a window leaves fewer rounds. -/
theorem closeWindow_rounds (h : closeDue (s.chan c) s.now = true) :
    ((closeWindow c s).chan c).rounds < (s.chan c).rounds := by
  obtain ⟨g, b, hg, hb, -, hw⟩ := closeDue_front h
  have hqueue : (s.chan c).queue = b :: (s.chan c).queue.tail := front_queue hb
  have hlit : b.state = .heating ∨ b.state = .ready →
      ((enterTail c (modFront c (fun d => { d with state := .cooling ⟨.missed, .none⟩ }) s)).chan c).rounds <
        (s.chan c).rounds := by
    intro hstate
    have h2 : frontRounds (s.chan c) = 2 := by
      unfold frontRounds
      rw [hb]
      obtain h | h := hstate <;> simp only [h]
    have hcool : frontRounds { s.chan c with
        queue := modFirst (fun d => { d with state := .cooling ⟨.missed, .none⟩ }) (s.chan c).queue } = 0 := by
      unfold frontRounds
      rw [hqueue]
      rfl
    have htailed : ∀ (x : Channel) (n : Nat), (x.tailed n).rounds ≤ 1 + 2 * (x.queue.length - 1) + frontRounds x := by
      intro x n
      have hend := phaseEnded_rounds x n
      have hlaser := tailRounds_le x.seq
      obtain ⟨a, hseq, -⟩ := phaseEnded_seq x n
      have hsame : tailRounds (x.phaseEnded n).seq = tailRounds x.seq := by rw [hseq]; rfl
      unfold Channel.tailed
      split
      · rw [hend]
        unfold Channel.rounds
        omega
      · have hparts : 2 * ((x.phaseEnded n).queue.length - 1) + frontRounds (x.phaseEnded n) =
            2 * (x.queue.length - 1) + frontRounds x := by
          unfold Channel.rounds at hend
          omega
        have hbound : ∀ q : Sequencer, Channel.rounds { x.phaseEnded n with seq := q } ≤
            1 + 2 * ((x.phaseEnded n).queue.length - 1) + frontRounds (x.phaseEnded n) := fun q =>
          rounds_le_of (tailRounds_le q) rfl (frontRounds_congr (x := x.phaseEnded n) rfl rfl).le
        refine (hbound _).trans ?_
        omega
    rw [enterTail_chan, modFront_chan]
    refine lt_of_le_of_lt (htailed _ _) ?_
    rw [hcool]
    dsimp only
    rw [modFirst_length]
    unfold Channel.rounds
    rw [h2]
    omega
  unfold closeWindow
  rw [show s.front c = some b from hb]
  dsimp only
  obtain hs | hs | ⟨r, hs, hopen⟩ := hw
  · rw [hs]
    exact hlit (.inl hs)
  · rw [hs]
    exact hlit (.inr hs)
  · have h1 : frontRounds (s.chan c) = 1 := by
      unfold frontRounds
      rw [hb, hg]
      simp [hs, hopen]
    have hclosed : ∀ q : List Burst, q.length = (s.chan c).queue.length → q.head?.map Burst.state = some (.barred r) →
        Channel.rounds { s.chan c with gate := some { g with closed := true }, queue := q } < (s.chan c).rounds := by
      intro q hlen hq
      have h0 : frontRounds { s.chan c with gate := some { g with closed := true }, queue := q } = 0 := by
        unfold frontRounds
        obtain ⟨d, hd, hds⟩ := Option.map_eq_some_iff.1 hq
        dsimp only
        rw [hd]
        simp [hds]
      unfold Channel.rounds
      rw [h0, h1]
      dsimp only
      omega
    have hmark : (markClosed c s).chan c = { s.chan c with gate := some { g with closed := true } } := by
      rw [markClosed, State.modChan_chan, hg]
      rfl
    rw [hs]
    dsimp only
    split
    · rw [hmark]
      exact hclosed _ rfl (by rw [hb]; exact congrArg some hs)
    · refine lt_of_le_of_lt completeBarred_rounds ?_
      rw [modFront_chan, hmark]
      refine hclosed _ (modFirst_length ..) ?_
      dsimp only
      rw [hqueue]
      exact congrArg some hs

/-! ## Rounds one at a time -/

/-- Nothing follows at once. -/
def Still (c : Chan) (own : Option U16) (s : State) : Prop :=
  zeroTail (s.chan c).seq = false ∧ (dueClose c s = none ∨ dueClose c s = own)

theorem atOnceRounds_still (h : Still c own s) (n : Nat) : atOnceRounds n c own s = s := by
  cases n with
  | zero => rfl
  | succ n => rw [atOnceRounds, if_neg (by simp [h.1]), if_pos h.2]

/-- Any number of rounds that is no less than the bound takes them all. -/
theorem atOnceRounds_enough {n m : Nat} (hn : (s.chan c).rounds ≤ n) (hm : (s.chan c).rounds ≤ m) :
    atOnceRounds n c own s = atOnceRounds m c own s := by
  induction n generalizing m s with
  | zero =>
    have htail : zeroTail (s.chan c).seq = false := by
      by_contra h
      have := endTail_rounds (zeroTail_laser (by simpa using h))
      omega
    have hclose : dueClose c s = none := by
      rw [dueClose_eq_none]
      by_contra h
      have := closeWindow_rounds (by simpa using h)
      omega
    rw [atOnceRounds_still ⟨htail, .inl hclose⟩, atOnceRounds_still ⟨htail, .inl hclose⟩]
  | succ n ih =>
    by_cases htail : zeroTail (s.chan c).seq = true
    · have hlt := endTail_rounds (zeroTail_laser htail)
      obtain ⟨m, rfl⟩ : ∃ k, m = k + 1 := ⟨m - 1, by omega⟩
      rw [atOnceRounds, if_pos htail, atOnceRounds, if_pos htail]
      exact ih (by omega) (by omega)
    · by_cases hclose : dueClose c s = none ∨ dueClose c s = own
      · rw [atOnceRounds_still ⟨by simpa using htail, hclose⟩, atOnceRounds_still ⟨by simpa using htail, hclose⟩]
      · have hdue : closeDue (s.chan c) s.now = true := by
          rw [not_or, dueClose_eq_none] at hclose
          simpa using hclose.1
        have hlt := closeWindow_rounds hdue
        obtain ⟨m, rfl⟩ : ∃ k, m = k + 1 := ⟨m - 1, by omega⟩
        rw [atOnceRounds, if_neg htail, if_neg hclose, atOnceRounds, if_neg htail, if_neg hclose]
        exact ih (by omega) (by omega)

theorem runAtOnce_still (h : Still c own s) : runAtOnce c own s = s := atOnceRounds_still h _

/-- The end of a tail of no length is taken first. -/
theorem runAtOnce_tail (h : zeroTail (s.chan c).seq = true) : runAtOnce c own s = runAtOnce c own (endTail c s) := by
  have hlt := endTail_rounds (zeroTail_laser h)
  have hle := rounds_le (s.chan c)
  rw [runAtOnce, show 2 * (s.chan c).queue.length + 2 = 2 * (s.chan c).queue.length + 1 + 1 from rfl, atOnceRounds, if_pos h]
  exact atOnceRounds_enough (by omega) (rounds_le _)

/-- The close of a window that the event has brought about. -/
theorem runAtOnce_close (htail : zeroTail (s.chan c).seq = false) (hdue : closeDue (s.chan c) s.now = true)
    (hown : dueClose c s ≠ own) : runAtOnce c own s = runAtOnce c own (closeWindow c s) := by
  have hlt := closeWindow_rounds hdue
  have hle := rounds_le (s.chan c)
  have hsome : dueClose c s ≠ none := by rw [ne_eq, dueClose_eq_none, hdue]; decide
  rw [runAtOnce, show 2 * (s.chan c).queue.length + 2 = 2 * (s.chan c).queue.length + 1 + 1 from rfl, atOnceRounds,
    if_neg (by simp [htail]), if_neg (by simp [hsome, hown])]
  exact atOnceRounds_enough (by omega) (rounds_le _)

/-- A tag that no held burst has keeps no close back. -/
theorem runAtOnce_absent (h : ∀ b ∈ (s.chan c).queue, own ≠ some b.tag) : runAtOnce c own s = runAtOnce c none s := by
  have hrounds : ∀ (n : Nat) (s : State), (∀ b ∈ (s.chan c).queue, own ≠ some b.tag) →
      atOnceRounds n c own s = atOnceRounds n c none s := by
    intro n
    induction n with
    | zero => exact fun s _ => rfl
    | succ n ih =>
      intro s h
      have hkeeps : ∀ t : State, Steady s t → ∀ b ∈ (t.chan c).queue, own ≠ some b.tag := by
        intro t ht b hb
        obtain ⟨d, hd, htag⟩ := List.mem_map.1 ((ht.ages c).queue.tags.subset (List.mem_map_of_mem hb))
        rw [← htag]
        exact h d hd
      have hclose : (dueClose c s = none ∨ dueClose c s = own) ↔ (dueClose c s = none ∨ dueClose c s = none) := by
        rw [or_self]
        refine ⟨fun hd => hd.elim id fun hd => ?_, .inl⟩
        by_contra hne
        have hdue : closeDue (s.chan c) s.now = true := by rw [dueClose_eq_none] at hne; simpa using hne
        obtain ⟨g, b, -, hb, -⟩ := closeDue_front hdue
        exact h b (List.mem_of_mem_head? hb) (hd.symm.trans (dueClose_of_due hdue hb))
      rw [atOnceRounds, atOnceRounds, ih _ (hkeeps _ (.endTail c s)), ih _ (hkeeps _ (.closeWindow c s))]
      simp only [hclose]
  exact hrounds _ s h

end Sys2Proof.Machine
end

section
/-! PROOFS. The tail of the front burst (R81) and the edges of the filtered lines (R49), and the events that rest on them
alone: the phase ends (R74, R80, R86), GUARDn (R87) and the rise of the write gate (R75 to R79). -/

namespace Sys2Proof.Machine

variable {s t : State} {c : Chan} {x : Channel} {b d : Burst} {rest : List Burst}

/-! ## Lit phases and tails of the front burst -/

theorem litUpTo_lit (hl : x.seq.laser.lit = true) (b : Burst) (n : Nat) :
    x.litUpTo b n = b.litFor x.seq.laser (n - x.seq.phaseStart) := if_pos hl

theorem litUpTo_unlit (hl : x.seq.laser.lit = false) (b : Burst) (n : Nat) : x.litUpTo b n = b := if_neg (by simp [hl])

/-- The end of a phase that lights the front burst. -/
theorem phaseEnded_front (hq : x.queue = b :: rest) (ha : x.seq.active = .front) (hl : x.seq.laser.lit = true) (n : Nat) :
    x.phaseEnded n = { x with
      queue := b.litFor x.seq.laser (n - x.seq.phaseStart) :: rest, seq := { x.seq with phaseStart := n } } := by
  unfold Channel.phaseEnded
  rw [ha]
  dsimp only
  rw [hq, modFirst, litUpTo_lit hl]

/-- The front burst, changed by `f`, is lit up to now, and the laser enters TAIL for it (R81). -/
theorem enterTail_front (hq : (s.chan c).queue = b :: rest) (ha : (s.chan c).seq.active = .front)
    (hl : (s.chan c).seq.laser.lit = true) (f : Burst → Burst) :
    enterTail c (modFront c f s) = s.setChan c ((s.chan c).tailing
      ((f b).litFor (s.chan c).seq.laser (s.now - (s.chan c).seq.phaseStart)) s.now) := by
  rw [enterTail_eq, modFront_eq, setChan_setChan, State.setChan_chan, State.setChan_now]
  congr 1
  have hend := phaseEnded_front (x := { s.chan c with queue := modFirst f (s.chan c).queue }) (b := f b) (rest := rest)
    (by dsimp only; rw [hq]; rfl) ha hl s.now
  unfold Channel.tailed Channel.activeBurst
  rw [hend]
  dsimp only
  rw [ha]
  dsimp only [List.head?_cons]
  unfold Channel.tailing
  rw [hq, ← ha]
  rfl

theorem zeroTail_eq_false : zeroTail x.seq = false ↔ tailRuns x := by
  unfold zeroTail tailRuns
  cases he : x.seq.phaseEnd with
  | none => simp
  | some e =>
    by_cases hl : x.seq.laser = .tail
    · simp [hl]
    · simp [hl]

theorem zeroTail_tailing (y : Channel) (d : Burst) (n : Nat) :
    zeroTail (y.tailing d n).seq = decide (d.plan.tailLen = 0) := by
  unfold zeroTail Channel.tailing
  simp

/-- A tail that has no length ends at once; one that has runs on. -/
theorem exec_tailEnd (hh : s.held = false) (c : Chan) :
    exec (.tailEnd c) s = .next (if phaseDue .tail (s.chan c).seq s.now then tailOver c s else s).settled := by
  have hexec : exec (.tailEnd c) s =
      .next (onEvent (fun s => if phaseDue .tail (s.chan c).seq s.now then tailOver c s else s) s) := rfl
  rw [hexec, onEvent_eq hh]

theorem exec_tailEnd_tailing {y : Channel} (hh : s.held = false) (hlen : d.plan.tailLen = 0) :
    exec (.tailEnd c) (s.setChan c (y.tailing d s.now)) =
      .next (tailOver c (s.setChan c (y.tailing d s.now))).settled := by
  rw [exec_tailEnd (by rw [State.setChan_held]; exact hh), if_pos]
  rw [State.setChan_chan, State.setChan_now]
  simp [phaseDue, Channel.tailing, hlen]

theorem tailAtOnce_tailing_runs {y : Channel} (hlen : 0 < d.plan.tailLen) :
    tailAtOnce c (s.setChan c (y.tailing d s.now)) = s.setChan c (y.tailing d s.now) := by
  rw [tailAtOnce, if_neg]
  rw [State.setChan_chan, zeroTail_tailing]
  simp [hlen.ne']

theorem tailAtOnce_tailing_over {y : Channel} (hlen : d.plan.tailLen = 0) :
    tailAtOnce c (s.setChan c (y.tailing d s.now)) = tailOver c (s.setChan c (y.tailing d s.now)) := by
  rw [tailAtOnce, if_pos]
  rw [State.setChan_chan, zeroTail_tailing]
  simp [hlen]

theorem tailAtOnce_still (h : tailRuns (s.chan c)) : tailAtOnce c s = s := by
  rw [tailAtOnce, if_neg]
  rw [zeroTail_eq_false.2 h]
  decide

/-- An outcome that leaves the laser in TAIL for the front burst `d`: the tail runs on, or is over at once. -/
theorem exec_tailing {o : Host.Outcome State Fault Refusal} {y : Channel} (hh : s.held = false)
    (hi : o = .next (tailAtOnce c (s.setChan c (y.tailing d s.now))).settled) :
    (0 < d.plan.tailLen → o = .next (s.setChan c (y.tailing d s.now)).settled) ∧
      (d.plan.tailLen = 0 → o = exec (.tailEnd c) (s.setChan c (y.tailing d s.now))) := by
  refine ⟨fun hlen => ?_, fun hlen => ?_⟩
  · rw [hi, tailAtOnce_tailing_runs hlen]
  · rw [hi, tailAtOnce_tailing_over hlen, exec_tailEnd_tailing hh hlen]

/-- The front burst as a guard assertion or a dropout leaves it, when the laser `l` has lit it for `n` ticks (R87, R90). -/
def struckFor (l : LaserState) (r : Reason) (now n : Nat) (b : Burst) : Burst :=
  if l.writing then
    { b.litFor l n with state := .cooling ⟨.aborted, r⟩, gate := b.gate.map fun g => { g with stop := some now } }
  else { b.litFor l n with state := .barred r }

theorem strikeLaser_front (hq : (s.chan c).queue = b :: rest) (ha : (s.chan c).seq.active = .front)
    (hl : (s.chan c).seq.laser.lit = true) (hnt : (s.chan c).seq.laser ≠ .tail) (r : Reason) :
    strikeLaser c r s = s.setChan c ((s.chan c).tailing
      (struckFor (s.chan c).seq.laser r s.now (s.now - (s.chan c).seq.phaseStart) b) s.now) := by
  unfold strikeLaser
  cases hlaser : (s.chan c).seq.laser with
  | dark => rw [hlaser] at hl; cases hl
  | bias => rw [hlaser] at hl; cases hl
  | tail => exact absurd hlaser hnt
  | preheat => exact (enterTail_front hq ha hl _).trans (by rw [hlaser]; rfl)
  | hold => exact (enterTail_front hq ha hl _).trans (by rw [hlaser]; rfl)
  | boost => exact (enterTail_front hq ha hl _).trans (by rw [hlaser]; rfl)
  | sustain => exact (enterTail_front hq ha hl _).trans (by rw [hlaser]; rfl)

/-- A strike on a channel that has just been written. -/
theorem strikeLaser_setChan {y : Channel} {r : Reason} (hq : y.queue = b :: rest) (ha : y.seq.active = .front)
    (hl : y.seq.laser.lit = true) (hnt : y.seq.laser ≠ .tail) :
    strikeLaser c r (s.setChan c y) =
      s.setChan c (y.tailing (struckFor y.seq.laser r s.now (s.now - y.seq.phaseStart) b) s.now) := by
  have hchan := State.setChan_chan s c y
  have h := strikeLaser_front (s := s.setChan c y) (c := c) (b := b) (rest := rest) (hchan.symm ▸ hq) (hchan.symm ▸ ha)
    (hchan.symm ▸ hl) (hchan.symm ▸ hnt) r
  rwa [hchan, State.setChan_now, setChan_setChan] at h

theorem struckFor_plan (l : LaserState) (r : Reason) (now n : Nat) (b : Burst) : (struckFor l r now n b).plan = b.plan := by
  unfold struckFor
  split <;> rfl

/-! ## Phase ends -/

/-- Settles O54. -/
theorem phasesEndInTurn : Obligations.PhasesEndInTurn := by
  intro c s x hh hx
  subst hx
  have hpreheat : exec (.preheatEnd c) s =
      .next (if phaseDue .preheat (s.chan c).seq s.now then endPreheat c s else s).settled := by
    have hexec : exec (.preheatEnd c) s =
      .next (onEvent (fun s => if phaseDue .preheat (s.chan c).seq s.now then endPreheat c s else s) s) := rfl
    rw [hexec, onEvent_eq hh]
  have hboost : exec (.boostEnd c) s =
      .next (if phaseDue .boost (s.chan c).seq s.now then endBoost c s else s).settled := by
    have hexec : exec (.boostEnd c) s =
      .next (onEvent (fun s => if phaseDue .boost (s.chan c).seq s.now then endBoost c s else s) s) := rfl
    rw [hexec, onEvent_eq hh]
  have hbias : exec (.biasHoldExpiry c) s = .next (if biasHoldDue (s.chan c) then goDark c s else s).settled := by
    have hexec : exec (.biasHoldExpiry c) s = .next (onEvent (fun s => if biasHoldDue (s.chan c) then goDark c s else s) s) := rfl
    rw [hexec, onEvent_eq hh]
  refine ⟨fun e b rest hl he ha hq => ⟨fun hlt => ?_, fun hle => ?_⟩, fun e b rest hl he ha hq => ⟨fun hlt => ?_, fun hle => ?_⟩,
    fun hl => ⟨fun hnot => ?_, fun hne hle => ?_⟩⟩
  · rw [hpreheat, if_neg (by simp [phaseDue, he, hlt])]
  · rw [hpreheat, if_pos (by simp [phaseDue, hl, he, hle]), endPreheat, endPhase_eq, modFront_eq, modSeq_eq,
      phaseEnded_front hq ha (by rw [hl]; rfl), hl]
    simp only [setChan_setChan, State.setChan_chan]
    rfl
  · rw [hboost, if_neg (by simp [phaseDue, he, hlt])]
  · rw [hboost, if_pos (by simp [phaseDue, hl, he, hle]), endBoost, endPhase_eq, modSeq_eq,
      phaseEnded_front hq ha (by rw [hl]; rfl), hl]
    simp only [setChan_setChan, State.setChan_chan]
  · rw [hbias, if_neg]
    simp only [biasHoldDue, Bool.and_eq_true, bne_iff_ne, decide_eq_true_eq]
    omega
  · rw [hbias, if_pos (by simp [biasHoldDue, hl, hne, hle]), goDark_eq]
    rfl

/-! ## Edges of a filtered line -/

/-- No edge leaves the line, and nothing is recognised. -/
theorem edgeIdle.line {p : Line} {f : Filter} {level : Bool} {stamp now : Nat} (h : edgeIdle p f level stamp now) :
    p.moved level stamp now = p ∧ p.overtaken f level stamp now = false ∧
      (p.high == level && p.due f now) = false := by
  unfold edgeIdle at h
  unfold Line.moved Line.overtaken Line.due edgeMovesPin filterHeld
  obtain ⟨hhigh, h⟩ | ⟨hhigh, h⟩ := h
  · refine ⟨by simp [hhigh], by simp [hhigh], ?_⟩
    obtain h | h := h
    · simp [hhigh, h]
    · simp [h]
  · refine ⟨?_, ?_, by simp [hhigh]⟩
    · rw [if_neg]
      simp only [Bool.and_eq_true, decide_eq_true_eq]
      omega
    · by_contra hne
      simp only [Bool.not_eq_false, Bool.and_eq_true, decide_eq_true_eq] at hne
      omega

/-- An edge that moves the pin alone. -/
theorem edgeMoves.line {p : Line} {f : Filter} {level : Bool} {stamp now : Nat} (h : edgeMoves p f level stamp now) :
    p.moved level stamp now = ⟨level, stamp, p.filtered⟩ ∧ p.overtaken f level stamp now = false ∧
      Line.due ⟨level, stamp, p.filtered⟩ f now = false := by
  obtain ⟨hhigh, hs, hn, h⟩ := h
  unfold Line.moved Line.overtaken Line.due edgeMovesPin filterHeld
  refine ⟨by simp [hhigh, hs, hn], ?_, ?_⟩
  · obtain ⟨hf, -⟩ | ⟨-, hlt⟩ := h
    · have hsame : p.high = p.filtered := by
        revert hhigh hf
        cases p.high <;> cases p.filtered <;> cases level <;> decide
      simp [hsame]
    · simp [hlt]
  · obtain ⟨-, hlt⟩ | ⟨hf, -⟩ := h
    · simp [hlt]
    · simp [hf]

/-- An edge after which the line's level is recognised at once. -/
theorem edgeRecognised.line {p : Line} {f : Filter} {level : Bool} {stamp since now : Nat}
    (h : edgeRecognised p f level stamp since now) :
    p.moved level stamp now = ⟨level, since, p.filtered⟩ ∧ p.overtaken f level stamp now = false ∧
      Line.due ⟨level, since, p.filtered⟩ f now = true := by
  obtain ⟨hf, hpin, hheld⟩ := h
  unfold Line.moved Line.overtaken Line.due edgeMovesPin filterHeld
  refine ⟨?_, ?_, by simp [hf.symm, hheld]⟩
  · obtain ⟨hhigh, hs, rfl⟩ | ⟨rfl, rfl⟩ := hpin
    · have hn : since ≤ now := by omega
      simp [hhigh, hs, hn]
    · simp
  · obtain ⟨hhigh, -⟩ | ⟨rfl, -⟩ := hpin
    · have hsame : p.high = p.filtered := by
        revert hhigh hf
        cases p.high <;> cases p.filtered <;> cases level <;> decide
      simp [hsame]
    · simp

theorem edgeOvertakes.line {p : Line} {f : Filter} {level : Bool} {stamp now : Nat} (h : edgeOvertakes p f level stamp now) :
    p.overtaken f level stamp now = true ∧ p.high = !level ∧ p.due f now = true := by
  obtain ⟨hhigh, hf, hheld, hn⟩ := h
  have hlevel : p.high = !level := by
    revert hhigh
    cases p.high <;> cases level <;> decide
  have hle : p.since + f.ticks ≤ now := hheld.trans hn
  refine ⟨?_, hlevel, ?_⟩
  · simp [Line.overtaken, Line.due, filterHeld, hhigh, hn, hheld, hf]
  · simp [Line.due, filterHeld, hle, hf, hhigh]

/-- A line whose level has been recognised has no recognition to be overtaken. -/
theorem overtaken_of_settled {p : Line} (h : p.high = p.filtered) (f : Filter) (level : Bool) (stamp now : Nat) :
    p.overtaken f level stamp now = false := by
  simp [Line.overtaken, Line.due, h]

theorem moved_of_level {p : Line} {level : Bool} (h : p.high = level) (stamp now : Nat) : p.moved level stamp now = p := by
  simp [Line.moved, edgeMovesPin, h]

theorem lineDue_of {p : Line} {f : Filter} {level : Bool} {now : Nat} (hhigh : p.high = level) (hf : p.filtered ≠ level)
    (hheld : p.since + f.ticks ≤ now) : lineDue p f level now = true := by
  have hne : p.high ≠ p.filtered := by rw [hhigh]; exact hf.symm
  simp [lineDue, Line.due, filterHeld, hhigh, hheld, hhigh ▸ hne]

/-! ## GUARDn -/

/-- The command for an edge of GUARDn to a level. -/
def guardCommand (c : Chan) (level : Bool) (edge : Nat) : Instr :=
  if level then .guardAssertion c edge else .guardDeassertion c edge

theorem exec_guardCommand (hh : s.held = false) (c : Chan) (level : Bool) (edge : Nat) :
    exec (guardCommand c level edge) s = .next (State.settled (guardEdge c level (stampOf edge s)
      (if (s.chan c).guardLine.overtaken (s.chan c).config.guardFilter level (stampOf edge s) s.now then
        (recogniseGuard c s).settled else s))) := by
  have hexec : exec (guardCommand c level edge) s = .next (onGuard c level edge s) := by cases level <;> rfl
  rw [hexec, onGuard, if_neg (by simp [hh])]
  dsimp only
  split
  · rw [onEvent_eq hh, onEvent_eq]
    exact (startNotice_held _).trans ((recogniseGuard_held c s).trans hh)
  · rw [onEvent_eq hh]

theorem guardEdge_still {level : Bool} {stamp : Nat}
    (h : (((s.chan c).guardLine.moved level stamp s.now).high == level &&
      ((s.chan c).guardLine.moved level stamp s.now).due (s.chan c).config.guardFilter s.now) = false) :
    guardEdge c level stamp s =
      s.setChan c { s.chan c with guardLine := (s.chan c).guardLine.moved level stamp s.now } := by
  unfold guardEdge
  dsimp only
  rw [if_neg (by rw [h]; decide)]
  rfl

/-- The level of GUARDn is recognised: its record, and what an assertion does to a lit laser. -/
theorem recogniseGuard_eq (c : Chan) (s : State) :
    recogniseGuard c s =
      if (s.chan c).guardLine.high then
        tailAtOnce c (strikeLaser c .guard (s.setChan c
          { s.chan c with guardLine := (s.chan c).guardLine.recognised (s.chan c).config.guardFilter }))
      else s.setChan c
        { s.chan c with guardLine := (s.chan c).guardLine.recognised (s.chan c).config.guardFilter } := rfl

theorem guardEdge_recognised {level : Bool} {stamp since : Nat}
    (h : edgeRecognised (s.chan c).guardLine (s.chan c).config.guardFilter level stamp since s.now) :
    guardEdge c level stamp s =
      if level then
        tailAtOnce c (strikeLaser c .guard (s.setChan c { s.chan c with
          guardLine := ⟨level, since + (s.chan c).config.guardFilter.ticks, level⟩ }))
      else s.setChan c { s.chan c with guardLine := ⟨level, since + (s.chan c).config.guardFilter.ticks, level⟩ } := by
  obtain ⟨hmoved, -, hdue⟩ := h.line
  unfold guardEdge
  dsimp only
  rw [hmoved, if_pos (by simp [hdue]), setGuardLine, modChan_eq, recogniseGuard_eq]
  simp only [State.setChan_chan, setChan_setChan, Line.recognised]

theorem recogniseGuard_line (c : Chan) (s : State) :
    ((recogniseGuard c s).settled.chan c).guardLine = (s.chan c).guardLine.recognised (s.chan c).config.guardFilter := by
  have hcalm : ∀ u : State, ((tailAtOnce c (strikeLaser c .guard u)).chan c).guardLine = (u.chan c).guardLine := fun u =>
    (((Calm.strikeLaser c .guard u).trans (.tailAtOnce ..)).lines c).guardLine
  have hline : ((recogniseGuard c s).chan c).guardLine =
      (s.chan c).guardLine.recognised (s.chan c).config.guardFilter := by
    rw [recogniseGuard_eq]
    split
    · rw [hcalm, State.setChan_chan]
    · rw [State.setChan_chan]
  have hsettled : ((recogniseGuard c s).settled.chan c).guardLine = ((startNotice (recogniseGuard c s)).chan c).guardLine := by
    rw [State.settled, driveOutputs_chan]
    rfl
  rw [hsettled, ← hline, startNotice_frame]
  cases c <;> rfl

theorem recogniseGuard_tables (c : Chan) (s : State) : SameTables s (recogniseGuard c s) := by
  have hset : ∀ y, SameTables s (s.setChan c y) := fun y => ⟨by constructor <;> simp, by simp, by simp⟩
  rw [recogniseGuard_eq]
  split
  · exact (hset _).trans ((Calm.strikeLaser ..).trans (.tailAtOnce ..)).tables
  · exact hset _

theorem mem_dueEvents {i : Instr} (hh : s.held = false) (h : i ∈ channelDue c s) : i ∈ dueEvents s := by
  unfold dueEvents
  rw [if_neg (by simp [hh])]
  simp only [List.mem_append]
  cases c with
  | c0 => exact .inl (.inl (.inl (.inl (.inl (.inl (.inr h))))))
  | c1 => exact .inl (.inl (.inl (.inl (.inl (.inr h)))))

theorem settled_frame (s : State) : s.settled = { s with
    ch0 := s.settled.ch0, ch1 := s.settled.ch1, link := s.settled.link } := by
  rw [State.settled, startNotice_frame]
  rfl

/-- An edge of GUARDn that moves nothing, or the pin alone. -/
theorem exec_guardCommand_moved (hh : s.held = false) {level : Bool} {edge : Nat} {p : Line}
    (hmoved : (s.chan c).guardLine.moved level (stampOf edge s) s.now = p)
    (hover : (s.chan c).guardLine.overtaken (s.chan c).config.guardFilter level (stampOf edge s) s.now = false)
    (hdue : (p.high == level && p.due (s.chan c).config.guardFilter s.now) = false) :
    exec (guardCommand c level edge) s = .next (State.settled (s.setChan c { s.chan c with guardLine := p })) := by
  subst hmoved
  rw [exec_guardCommand hh, if_neg (by rw [hover]; decide), guardEdge_still hdue]

/-- An edge of GUARDn whose level is recognised at once. -/
theorem exec_guardCommand_recognised (hh : s.held = false) {level : Bool} {edge since : Nat}
    (h : edgeRecognised (s.chan c).guardLine (s.chan c).config.guardFilter level (stampOf edge s) since s.now) :
    exec (guardCommand c level edge) s = .next (State.settled (
      if level then
        tailAtOnce c (strikeLaser c .guard (s.setChan c { s.chan c with
          guardLine := ⟨level, since + (s.chan c).config.guardFilter.ticks, level⟩ }))
      else s.setChan c { s.chan c with guardLine := ⟨level, since + (s.chan c).config.guardFilter.ticks, level⟩ })) := by
  rw [exec_guardCommand hh, if_neg (by rw [h.line.2.1]; decide), guardEdge_recognised h]

/-- The recognition that an edge comes after is the event of the level that the edge ends, taken first. -/
theorem exec_guardCommand_overtaking (hh : s.held = false) {level : Bool} {edge : Nat}
    (h : edgeOvertakes (s.chan c).guardLine (s.chan c).config.guardFilter level (stampOf edge s) s.now) :
    ∃ t : State, exec (guardCommand c (!level) (s.chan c).guardLine.since) s = .next t ∧
      exec (guardCommand c level edge) s = exec (guardCommand c level edge) t := by
  obtain ⟨hover, hlevel, hdue⟩ := h.line
  have htables := recogniseGuard_tables c s
  have hline := recogniseGuard_line c s
  have hframe := settled_frame (recogniseGuard c s)
  refine ⟨(recogniseGuard c s).settled, ?_, ?_⟩
  · rw [exec_guardCommand hh, if_neg (by simp [Line.overtaken, hlevel])]
    have hself : setGuardLine c (s.chan c).guardLine s = s := setChan_self s c
    unfold guardEdge
    dsimp only
    rw [moved_of_level hlevel, hself, if_pos (by simp [hlevel, hdue])]
  · obtain ⟨u, hu⟩ : ∃ u, u = (recogniseGuard c s).settled := ⟨_, rfl⟩
    rw [← hu] at hframe hline
    have hheld : u.held = false := by rw [hframe]; exact htables.held.trans hh
    have hepoch : stampOf edge u = stampOf edge s := by rw [stampOf, stampOf, hframe]; exact congrArg _ htables.lineEpoch
    rw [exec_guardCommand hh, if_pos hover, ← hu, exec_guardCommand hheld,
      overtaken_of_settled (by rw [hline]; rfl), if_neg (by decide), hepoch]

theorem guard_mem_dueEvents (hh : s.held = false) {level : Bool} (hhigh : (s.chan c).guardLine.high = level)
    (hf : (s.chan c).guardLine.filtered ≠ level)
    (hheld : (s.chan c).guardLine.since + (s.chan c).config.guardFilter.ticks ≤ s.now) :
    guardCommand c level (s.chan c).guardLine.since ∈ dueEvents s := by
  have hdue := lineDue_of hhigh hf hheld
  refine mem_dueEvents (c := c) hh ?_
  unfold channelDue guardCommand
  cases level <;> simp [mem_whenDue, hdue]

/-- Settles O48: the four edges that every command can name, then the recognised fall and the recognised rise. -/
theorem guardStrikesALitLaser : Obligations.GuardStrikesALitLaser := by
  intro c edge s x p f stamp hh hx hp hf hstamp
  subst hx hp hf
  obtain rfl : stampOf edge s = stamp := hstamp.symm
  refine ⟨fun level i hi => ?_, fun since h => exec_guardCommand_recognised (level := false) hh h,
    fun since y h hy => ?_⟩
  · obtain rfl : i = guardCommand c level edge := hi
    refine ⟨fun h => ?_, fun h => ?_, fun h => ?_, fun hhigh hf hheld => guard_mem_dueEvents hh hhigh hf hheld⟩
    · obtain ⟨hmoved, hover, hdue⟩ := h.line
      rw [exec_guardCommand_moved hh hmoved hover hdue]
      exact congrArg (fun u => Host.Outcome.next (State.settled u)) (setChan_self s c)
    · obtain ⟨hmoved, hover, hdue⟩ := h.line
      exact exec_guardCommand_moved hh hmoved hover (by rw [hdue, Bool.and_false])
    · have hopposite : (if level then Instr.guardDeassertion c (s.chan c).guardLine.since
          else .guardAssertion c (s.chan c).guardLine.since) = guardCommand c (!level) (s.chan c).guardLine.since := by
        cases level <;> rfl
      rw [hopposite]
      exact exec_guardCommand_overtaking hh h
  · have hexec := exec_guardCommand_recognised (level := true) hh h
    rw [if_pos rfl, ← hy] at hexec
    refine ⟨fun hl hruns => ?_, fun b d rest hq ha hd => ?_⟩
    · have hstill : strikeLaser c .guard (s.setChan c y) = s.setChan c y := by
        unfold strikeLaser
        rw [State.setChan_chan, hy]
        dsimp only
        obtain hl | hl | hl := hl <;> rw [hl]
      rw [hstill, tailAtOnce_still (by rw [State.setChan_chan, hy]; exact hruns)] at hexec
      exact hexec
    · obtain ⟨hl, hnt, rfl⟩ : (s.chan c).seq.laser.lit = true ∧ (s.chan c).seq.laser ≠ .tail ∧
          d = struckFor (s.chan c).seq.laser .guard s.now (s.now - (s.chan c).seq.phaseStart) b := by
        obtain ⟨hl | hl, rfl⟩ | ⟨hl | hl, rfl⟩ := hd <;> rw [hl] <;> exact ⟨rfl, by decide, rfl⟩
      have hseq : y.seq = (s.chan c).seq := by rw [hy]
      have hqueue : y.queue = b :: rest := by rw [hy]; exact hq
      rw [← struckFor_plan (s.chan c).seq.laser .guard s.now (s.now - (s.chan c).seq.phaseStart) b]
      refine exec_tailing hh ?_
      rw [← hseq] at ha hl hnt ⊢
      rw [← strikeLaser_setChan hqueue ha hl hnt]
      exact hexec

end Sys2Proof.Machine
end

section
/-! PROOFS. What follows an event at once (R75, R81), and what a completion of the front burst leaves (R11 to R13): the rules that
the events of the Laser Sequencer share. -/

namespace Sys2Proof.Machine

variable {s t u : State} {c : Chan} {x y : Channel} {b d : Burst} {v : Verdict} {rest : List Burst}

/-! ## Closes that are due -/

theorem frontStays_iff {n : Nat} : frontStays x n ↔ closeDue x n = false := by
  refine ⟨fun h => ?_, fun h b hb g hg hw => ?_⟩
  · by_contra hne
    obtain ⟨g, b, hg, hb, htime, hw⟩ := closeDue_front (by simpa using hne)
    have := h b hb g hg hw
    omega
  · by_contra hle
    rw [closeDue_of hg hb (by omega) hw] at h
    cases h

theorem closeDue_empty (hq : x.queue = []) (n : Nat) : closeDue x n = false := by
  rw [← frontStays_iff]
  intro b hb
  rw [hq] at hb
  cases hb

/-- A front burst for which no close is an event. -/
theorem closeDue_of_state {n : Nat} (hq : x.queue.head? = some b) (hs : b.state = .queued ∨ runsOn b.state = true) :
    closeDue x n = false := by
  rw [← frontStays_iff]
  intro d hd g _ hw
  rw [hq, Option.mem_some_iff] at hd
  subst hd
  obtain h | h | ⟨r, h, -⟩ := hw <;> rw [h] at hs <;> simp [runsOn] at hs

theorem closeDue_tailing {n m : Nat} (hs : d.state = .cooling v) : closeDue (y.tailing d n) m = false :=
  closeDue_of_state (b := d) rfl (.inr (by rw [hs]; rfl))

theorem closeDue_windowOpen {n : Nat} (h : windowOpen x n) : closeDue x n = false := by
  rw [← frontStays_iff]
  exact fun _ _ g hg _ => h g hg

/-- The close of a window that has been taken is no event for a BARRED burst. -/
theorem closeDue_closed {r : Reason} {n : Nat} (hq : x.queue.head? = some b) (hs : b.state = .barred r)
    (hg : ∀ g ∈ x.gate, g.closed = true) : closeDue x n = false := by
  rw [← frontStays_iff]
  intro d hd g hgate hw
  rw [hq, Option.mem_some_iff] at hd
  subst hd
  obtain h | h | ⟨-, -, h⟩ := hw
  · rw [h] at hs; cases hs
  · rw [h] at hs; cases hs
  · rw [hg g hgate] at h; cases h

/-! ## At once -/

theorem dueClose_setChan : dueClose c (s.setChan c y) = none ↔ closeDue y s.now = false := by
  rw [dueClose_eq_none, State.setChan_chan, State.setChan_now]

/-- With no close due, a tail of no length is all that can follow at once. -/
theorem runAtOnce_none (h : dueClose c t = none) : runAtOnce c none t = tailAtOnce c t := by
  unfold tailAtOnce
  split
  · rename_i hzero
    rw [tailOver, h, runAtOnce_tail hzero]
  · rename_i hzero
    exact runAtOnce_still ⟨by simpa using hzero, .inl h⟩

theorem atOnce_of_none {f : State → State} (h : dueClose c (f s) = none) : atOnce c f s = tailAtOnce c (f s) := by
  have hown : (if dueClose c (f s) = dueClose c s then dueClose c s else none) = none := by
    split
    · rename_i heq; rw [← heq, h]
    · rfl
  unfold atOnce
  dsimp only
  rw [hown, runAtOnce_none h]

theorem atOnce_still {f : State → State} (htail : tailRuns ((f s).chan c)) (h : closeDue ((f s).chan c) (f s).now = false) :
    atOnce c f s = f s := by
  rw [atOnce_of_none (dueClose_eq_none.2 h), tailAtOnce_still htail]

/-- The close of the window that `f` has brought about follows at once. -/
theorem atOnce_new {f : State → State} (h : dueClose c s = none) : atOnce c f s = runAtOnce c none (f s) := by
  unfold atOnce
  dsimp only
  rw [h, ite_self]

theorem tailRuns_of_laser (h : x.seq.laser ≠ .tail) : tailRuns x := fun ht => absurd ht h

/-! ## What a channel's event leaves alone -/

theorem SameLines.refl (x : Channel) : SameLines x x := by constructor <;> rfl

theorem SameLines.trans {z : Channel} (a : SameLines x y) (b : SameLines y z) : SameLines x z := by
  cases a; cases b; constructor <;> simp_all only

/-- Between `s` and `t` nothing has changed but the supply and, on the channel `c`, the queue, the gate time and the
Sequencer. -/
structure OnChannel (c : Chan) (s t : State) : Prop where
  lines : SameLines (s.chan c) (t.chan c)
  other : SameOther c s t
  heads : t.heads = s.heads
  link : t.link = s.link
  tables : SameTables s t

namespace OnChannel

theorem refl (c : Chan) (s : State) : OnChannel c s s := ⟨.refl _, rfl, rfl, rfl, .refl s⟩

theorem trans (a : OnChannel c s t) (b : OnChannel c t u) : OnChannel c s u :=
  ⟨a.lines.trans b.lines, Eq.trans b.other a.other, b.heads.trans a.heads, b.link.trans a.link, a.tables.trans b.tables⟩

theorem setChan (h : SameLines (s.chan c) y) : OnChannel c s (s.setChan c y) where
  lines := by rw [State.setChan_chan]; exact h
  other := State.setChan_other ..
  heads := State.setChan_heads ..
  link := State.setChan_link ..
  tables := ⟨by constructor <;> simp, by simp, by simp⟩

theorem setSupply (s : State) (u : Supply) : OnChannel c s (s.setSupply u) where
  lines := by rw [setSupply_chan]; exact .refl _
  other := setSupply_chan ..
  heads := rfl
  link := rfl
  tables := ⟨by constructor <;> rfl, rfl, rfl⟩

theorem now (h : OnChannel c s t) : t.now = s.now := h.tables.now

end OnChannel

/-! ## Completion -/

theorem reported_iff (x : Channel) (v : Verdict) :
    reported x v = true ↔ ¬ (v.result = .written ∧ x.config.reportOk = false) := by
  unfold reported
  cases v.result <;> cases x.config.reportOk <;> simp

/-- A completion writes the light estimate, the countdown and the strikes of a head (R46, R108). -/
theorem afterCompletion_eq (r : Head) (b : Burst) (v : Verdict) :
    r.afterCompletion b v = { r with
      lightEst := b.latency.elim r.lightEst fun m =>
        (max 0 (min 2047 ((r.lightEst : Int) + Int.tdiv ((m : Int) - (r.lightEst : Int)) 4))).toNat
      sampleCountdown := b.latency.elim (if v.result = .written then r.sampleCountdown - 1 else r.sampleCountdown)
        fun _ => r.samplePeriod
      strikes := if v.result = .written then 0 else r.strikes } := by
  unfold Head.afterCompletion
  by_cases hw : v.result = .written <;> cases b.latency <;> simp only [hw, if_true, if_false] <;> rfl

/-- The head record after a completion of its burst (R46, R108, R149). -/
theorem headCompleted (b : Burst) (v : Verdict) (r : Head) :
    HeadCompleted b v r ((r.heated (heatOf b.acc)).afterCompletion b v) := by
  obtain ⟨p, hp⟩ : ∃ p, p = r.heated (heatOf b.acc) := ⟨_, rfl⟩
  have hsame : ∀ {α : Type} (f : Head → α),
      f { p with bucket := r.bucket, lifetime := r.lifetime, wearNoticed := r.wearNoticed } = f r := fun f =>
    congrArg f (hp ▸ Head.SameButHeat.heated r (heatOf b.acc))
  have hest : p.lightEst = r.lightEst := hsame Head.lightEst
  have hcount : p.sampleCountdown = r.sampleCountdown := hsame Head.sampleCountdown
  rw [← hp, afterCompletion_eq]
  exact {
    heat := by rw [← hp]; exact ⟨rfl, rfl, rfl⟩
    strikes := by rw [← hsame Head.strikes]
    sampled := fun m hm => by rw [hm, ← hest]; exact ⟨hsame Head.samplePeriod, rfl⟩
    counted := fun hnone => by rw [hnone, ← hest, ← hcount]; exact ⟨rfl, rfl⟩
    state := hsame Head.state
    calibration := ⟨hsame Head.channel, hsame Head.ith25, hsame Head.ktemp, hsame Head.gain, hsame Head.imax,
      hsame Head.ibias, hsame Head.coldExtra, hsame Head.lt, hsame Head.samplePeriod, hsame Head.strikeLimit,
      hsame Head.ceiling, hsame Head.leak, hsame Head.wearThreshold⟩ }

theorem completionNoted_link (reportOk : Bool) (b : Burst) (v : Verdict) (s : State) :
    (completionNoted reportOk b v s).link =
      if v.result = .written ∧ reportOk = false then (charge b.head (heatOf b.acc) s).link
      else (charge b.head (heatOf b.acc) s).link.noticed (.burstDone (burstReport b v (heatOf b.acc))) := by
  unfold completionNoted
  dsimp only
  split <;> rfl

theorem burstDoneOf_eq (b : Burst) (v : Verdict) (n : Nat) : burstDoneOf b v n = .burstDone (burstReport b v n) := by
  unfold burstDoneOf burstReport Burst.currents
  cases b.derate <;> rfl

/-- What a completion of the front burst does to the heads and to the link. -/
theorem completeFront_marks (v : Verdict) (hq : (u.chan c).queue = b :: rest) :
    (completeFront c v u).heads =
        u.heads.set b.head ((u.heads[b.head].heated (heatOf b.acc)).afterCompletion b v) ∧
      (completeFront c v u).link = (completionNoted (u.chan c).config.reportOk b v u).link := by
  have hfront : u.front c = some b := by rw [State.front, hq]; rfl
  have hcharge : chargeBurst b (u.setChan c (u.chan c).advanced) =
      (charge b.head (heatOf b.acc) u).setChan c (u.chan c).advanced := chargeBurst_setChan ..
  rw [completeFront_eq v hfront, completionNoted_link]
  dsimp only
  rw [hcharge]
  have hheads : (((charge b.head (heatOf b.acc) u).setChan c (u.chan c).advanced).setHead b.head
      (((charge b.head (heatOf b.acc) u).setChan c (u.chan c).advanced).heads[b.head].afterCompletion b v)).heads =
      u.heads.set b.head ((u.heads[b.head].heated (heatOf b.acc)).afterCompletion b v) := by
    have hget := charge_head b.head b.head (heatOf b.acc) u
    rw [if_pos rfl] at hget
    rw [State.setHead_heads, State.setChan_heads, hget, charge_heads, Vector.set_set]
  by_cases hr : v.result = .written ∧ (u.chan c).config.reportOk = false
  · rw [if_neg (by rw [reported_iff]; exact fun h => h hr), if_pos hr]
    exact ⟨hheads, by rw [State.setHead_link, State.setChan_link]⟩
  · rw [if_pos ((reported_iff _ _).2 hr), if_neg hr, burstDoneOf_eq]
    exact ⟨hheads, by rw [placeNotice_link, State.setHead_link, State.setChan_link]; rfl⟩

theorem completionNoted_congr (hh : t.heads = s.heads) (hl : t.link = s.link) (r : Bool) :
    (completionNoted r b v t).link = (completionNoted r b v s).link := by
  rw [completionNoted_link, completionNoted_link, (charge_congr _ _ hh hl).2]

/-- The completion of the front burst. -/
theorem completeFront_completes (h : OnChannel c s u) (hq : (u.chan c).queue = b :: rest) :
    Completes c b v rest s (completeFront c v u) ∧ ((completeFront c v u).chan c).seq = (u.chan c).seq ∧
      (completeFront c v u).supply = u.supply := by
  have hmarks := completeFront_marks v hq
  have hchan : (completeFront c v u).chan c = (u.chan c).advanced := by
    rw [completeFront_chan, if_neg (by rw [hq]; exact List.cons_ne_nil _ _)]
  have htail : (u.chan c).queue.tail = rest := by rw [hq]; rfl
  obtain ⟨hlines, hother, hheads, hlink, htables⟩ := h
  refine ⟨{
    queue := by rw [hchan, Channel.advanced, htail]
    gate := by rw [hchan, Channel.advanced, htail, hlines.tracker]
    head := ?_
    heads := ?_
    link := ?_
    lines := by rw [hchan]; exact hlines.trans ⟨rfl, rfl, rfl, rfl, rfl, rfl, rfl, rfl⟩
    other := (completeFront_other c v u).trans hother
    tables := htables.trans (Calm.completeFront c v u).tables }, by rw [hchan]; rfl, completeFront_supply ..⟩
  · rw [hmarks.1, heads_set_same, hheads]
    exact headCompleted b v _
  · intro k hk
    rw [hmarks.1, heads_set_ne _ _ _ _ hk, hheads]
  · rw [hmarks.2, hlines.config]
    exact completionNoted_congr hheads hlink _

namespace Completes

/-- What follows a completion on its channel's Sequencer and supply. -/
theorem onward (h : Completes c b v rest s t) (ht : OnChannel c t u) (hq : (u.chan c).queue = (t.chan c).queue)
    (hg : (u.chan c).gate = (t.chan c).gate) : Completes c b v rest s u where
  queue := hq.trans h.queue
  gate := hg.trans h.gate
  head := by rw [ht.heads]; exact h.head
  heads := fun k hk => by rw [ht.heads]; exact h.heads k hk
  link := ht.link.trans h.link
  lines := h.lines.trans ht.lines
  other := Eq.trans ht.other h.other
  tables := h.tables.trans ht.tables

/-- The marks of R79 that a BARRED burst carries are no part of its completion. -/
theorem marked {p q : Bool} (h : Completes c { b with gateVetoed := p, barOver := q } v rest s t) :
    Completes c b v rest s t where
  queue := h.queue
  gate := h.gate
  head := ⟨h.head.heat, h.head.strikes, h.head.sampled, h.head.counted, h.head.state, h.head.calibration⟩
  heads := h.heads
  link := h.link
  lines := h.lines
  other := h.other
  tables := h.tables

end Completes

/-- A burst that comes to the front as R75 lets it brings no close with it. -/
theorem waitsInTurn.closeDue {n : Nat} (h : waitsInTurn x n rest) (hq : y.queue = asFront rest)
    (hg : y.gate = rest.head?.bind (expectedGate x.tracker)) (hc : y.config = x.config) : closeDue y n = false := by
  cases rest with
  | nil => exact closeDue_empty hq n
  | cons d rest =>
    obtain ⟨hs, hbar⟩ := h d rfl
    obtain hbar | hopen := hbar
    · refine closeDue_of_state (b := d) ?_ (.inl hs)
      rw [hq, asFront, hs, hbar]
      rfl
    · refine closeDue_windowOpen fun g hgate => ?_
      rw [hc]
      exact hopen g (hg.symm.trans hgate)

theorem Completes.closeDue (h : Completes c b v rest s t) (hw : waitsInTurn (s.chan c) s.now rest) :
    Machine.closeDue (t.chan c) t.now = false := by
  rw [h.tables.now]
  exact hw.closeDue h.queue h.gate h.lines.config

/-- A BARRED front burst both of whose moments have passed completes (R79). -/
theorem completeBarred_over {r : Reason} (hq : (s.chan c).queue = b :: rest) (hs : b.state = .barred r)
    (ho : b.barOver = true) (ht : ¬ ((s.chan c).seq.laser = .tail ∧ (s.chan c).seq.active = .front)) :
    completeBarred c s = completeFront c ⟨.vetoed, r⟩ s := by
  have htail : (s.chan c).frontTail = false := by rw [← Bool.not_eq_true, frontTail_eq_true]; exact ht
  unfold completeBarred State.front
  rw [hq]
  dsimp only [List.head?_cons]
  rw [hs]
  dsimp only
  rw [ho, htail]
  rfl

/-- A BARRED front burst whose tail still runs stays. -/
theorem completeBarred_tail (h : (s.chan c).seq.laser = .tail ∧ (s.chan c).seq.active = .front) :
    completeBarred c s = s := by
  have htail : (s.chan c).frontTail = true := frontTail_eq_true.2 h
  unfold completeBarred
  split
  · rfl
  · split <;> simp [htail]

/-! ## The write gate rises -/

/-- A gate accepted for the front burst that the laser lights (R76, R77). -/
theorem acceptGate_front {g : GateTime} (hq : (s.chan c).queue = b :: rest) (ha : (s.chan c).seq.active = .front)
    (hl : (s.chan c).seq.laser.lit = true) (hg : (s.chan c).gate = some g) (w : Bool) :
    acceptGate c w s = s.setChan c { s.chan c with
      queue := { b.litFor (s.chan c).seq.laser (s.now - (s.chan c).seq.phaseStart) with
        state := .writing, gate := some ⟨s.now, (s.now : Int) - g.time, none⟩, underheat := b.underheat || w } :: rest
      seq := { (s.chan c).seq with
        laser := if b.plan.boostLen = 0 then .sustain else .boost
        phaseEnd := if b.plan.boostLen = 0 then none else some (s.now + b.plan.boostLen)
        overrunAt := some (s.now + b.length + (s.chan c).config.overrun)
        phaseStart := s.now } } := by
  have hend := phaseEnded_front hq ha hl s.now
  unfold acceptGate State.front
  dsimp only
  rw [endPhase_chan, hend]
  dsimp only [List.head?_cons]
  rw [hg]
  dsimp only
  rw [modFront_eq, modSeq_eq, endPhase_eq, hend]
  simp only [setChan_setChan, State.setChan_chan, modFirst, hg]
  rfl

theorem inWindow_of {g : GateTime} {n : Nat} (hg : x.gate = some g) (hc : g.closed = false)
    (he : g.time - (x.config.early : Int) ≤ (n : Int)) (hl : (n : Int) ≤ g.time + (x.config.late : Int)) :
    inWindow x n = true := by
  unfold inWindow
  rw [hg, Option.any_some, hc, decide_eq_true he, decide_eq_true hl]
  rfl

theorem inWindow_eq_false {n : Nat} (h : ∀ g, x.gate = some g →
    g.closed = true ∨ (n : Int) < g.time - (x.config.early : Int) ∨ g.time + (x.config.late : Int) < (n : Int)) :
    inWindow x n = false := by
  unfold inWindow
  cases hg : x.gate with
  | none => rfl
  | some g =>
    rw [Option.any_some]
    obtain hc | hlt | hlt := h g hg
    · simp [hc]
    · simp [not_le.2 hlt]
    · simp [not_le.2 hlt]

theorem exec_wgateRise (hh : s.held = false) (hw : (s.chan c).wgate = false) :
    exec (.wgateRise c) s =
      .next (tailAtOnce c (gateRise c (s.setChan c { s.chan c with wgate := true }))).settled := by
  have hexec : exec (.wgateRise c) s = if (s.chan c).wgate then .next s
    else .next (onEvent (fun s => tailAtOnce c (gateRise c s)) (s.setChan c { s.chan c with wgate := true })) := rfl
  rw [hexec, if_neg (by rw [hw]; decide), onEvent_eq (by rw [State.setChan_held]; exact hh)]

/-- A rise that no front burst in its window takes is noted (R78). -/
theorem gateRise_unplanned (h : (s.chan c).queue = [] ∨ (∃ b ∈ (s.chan c).queue.head?, b.state = .queued ∨ runsOn b.state = true) ∨
    inWindow (s.chan c) s.now = false) : gateRise c s = unplannedGate c s := by
  unfold gateRise State.front
  cases hq : (s.chan c).queue with
  | nil => rfl
  | cons b rest =>
    dsimp only [List.head?_cons]
    rw [hq] at h
    obtain h | ⟨d, hd, hs⟩ | h := h
    · cases h
    · cases hd
      split
      · cases hstate : b.state <;> rw [hstate] at hs <;> first | rfl | simp [runsOn] at hs
      · rfl
    · rw [h]
      rfl

section InWindow

variable (hq : (s.chan c).queue = b :: rest) (hw : inWindow (s.chan c) s.now = true)
include hq hw

theorem gateRise_ready (hs : b.state = .ready) : gateRise c s = acceptGate c false s := by
  unfold gateRise State.front
  rw [hq]
  dsimp only [List.head?_cons]
  rw [if_pos hw, hs]

theorem gateRise_accept (hs : b.state = .heating) (hp : b.plan.policy = .accept) :
    gateRise c s = acceptGate c true s := by
  unfold gateRise State.front
  rw [hq]
  dsimp only [List.head?_cons]
  rw [if_pos hw, hs, hp]

theorem gateRise_veto (hs : b.state = .heating) (hp : b.plan.policy = .veto) :
    gateRise c s = enterTail c (modFront c (fun d => { d with state := .cooling ⟨.vetoed, .underheat⟩ }) s) := by
  unfold gateRise State.front
  rw [hq]
  dsimp only [List.head?_cons]
  rw [if_pos hw, hs, hp]

theorem gateRise_barred {r : Reason} (hs : b.state = .barred r) :
    gateRise c s = modFront c (fun d => { d with gateVetoed := true, barOver := false }) s := by
  unfold gateRise State.front
  rw [hq]
  dsimp only [List.head?_cons]
  rw [if_pos hw, hs]

end InWindow

/-- Settles O50: the accepted gate, the gate under VETO, the gate of a BARRED burst, and the unplanned one. -/
theorem gateRiseIsJudged : Obligations.GateRiseIsJudged := by
  intro c s x y hx hy
  subst hx
  refine ⟨fun hw => ?_, fun hh hw => ?_⟩
  · have hexec : exec (.wgateRise c) s = if (s.chan c).wgate then .next s
      else .next (onEvent (fun s => tailAtOnce c (gateRise c s)) (s.setChan c { s.chan c with wgate := true })) := rfl
    rw [hexec, if_pos hw]
  · have hexec := exec_wgateRise hh hw
    rw [← hy] at hexec
    have hchan : (s.setChan c y).chan c = y := State.setChan_chan ..
    have hin : ∀ g, (s.chan c).gate = some g → g.closed = false → g.time - ((s.chan c).config.early : Int) ≤ (s.now : Int) →
        (s.now : Int) ≤ g.time + ((s.chan c).config.late : Int) →
        inWindow ((s.setChan c y).chan c) (s.setChan c y).now = true := fun g hg hc he hl => by
      rw [hchan, State.setChan_now, hy]; exact inWindow_of hg hc he hl
    have hqueue : (s.chan c).queue = ((s.setChan c y).chan c).queue := by rw [hchan, hy]
    have hseq : y.seq = (s.chan c).seq := by rw [hy]
    refine ⟨fun b rest g u hq hg hc he hl ha hcase => ?_, fun b rest g hq hg hc he hl =>
      ⟨fun t hs hlaser ha hpol ht => ?_, fun r hs hruns => ?_⟩, fun hout hruns => ?_⟩
    · have hwin := hin g hg hc he hl
      have haccept : ∀ w : Bool, (b.underheat || w) = u → (s.chan c).seq.laser.lit = true →
          gateRise c (s.setChan c y) = acceptGate c w (s.setChan c y) →
          exec (.wgateRise c) s = .next (State.settled (s.setChan c { y with
            queue := { b.litFor (s.chan c).seq.laser (s.now - (s.chan c).seq.phaseStart) with
              state := .writing, gate := some ⟨s.now, (s.now : Int) - g.time, none⟩, underheat := u } :: rest
            seq := { (s.chan c).seq with
              laser := if b.plan.boostLen = 0 then .sustain else .boost
              phaseEnd := if b.plan.boostLen = 0 then none else some (s.now + b.plan.boostLen)
              overrunAt := some (s.now + b.length + (s.chan c).config.overrun)
              phaseStart := s.now } })) := by
        intro w hu hlit hrise
        have hfront := acceptGate_front (s := s.setChan c y) (c := c) (b := b) (rest := rest) (g := g)
          (by rw [hchan, hy]; exact hq) (by rw [hchan, hseq]; exact ha) (by rw [hchan, hseq]; exact hlit)
          (by rw [hchan, hy]; exact hg) w
        rw [hchan, State.setChan_now, setChan_setChan, hu, hseq, show y.config = (s.chan c).config by rw [hy]] at hfront
        rw [hexec, hrise, hfront, tailAtOnce_still]
        rw [State.setChan_chan]
        refine tailRuns_of_laser ?_
        dsimp only
        split <;> exact fun h => nomatch h
      obtain ⟨hs, hlaser, rfl⟩ | ⟨hs, hlaser, hpol, rfl⟩ := hcase
      · exact haccept false (Bool.or_false _) (by rw [hlaser]; rfl) (gateRise_ready (hqueue ▸ hq) hwin hs)
      · exact haccept true (Bool.or_true _) (by rw [hlaser]; rfl) (gateRise_accept (hqueue ▸ hq) hwin hs hpol)
    · have hfront := enterTail_front (s := s.setChan c y) (c := c) (b := b) (rest := rest)
        (hqueue ▸ hq) (by rw [hchan, hseq]; exact ha) (by rw [hchan, hseq, hlaser]; rfl)
        (fun d => { d with state := .cooling ⟨.vetoed, .underheat⟩ })
      rw [hchan, hseq, hlaser, State.setChan_now, setChan_setChan] at hfront
      rw [gateRise_veto (hqueue ▸ hq) (hin g hg hc he hl) hs hpol, hfront] at hexec
      rw [ht]
      exact exec_tailing (c := c) (y := y) hh hexec
    · rw [hexec, gateRise_barred (hqueue ▸ hq) (hin g hg hc he hl) hs, modFront_eq, setChan_setChan, hchan, tailAtOnce_still]
      · rw [show y.queue = b :: rest by rw [hy]; exact hq]
        rfl
      · rw [State.setChan_chan, hy]
        exact hruns
    · have hunplanned : gateRise c (s.setChan c y) = unplannedGate c (s.setChan c y) := by
        refine gateRise_unplanned ?_
        rw [hchan, State.setChan_now, hy]
        obtain h | h | h := hout
        · exact .inl h
        · exact .inr (.inl h)
        · exact .inr (.inr (inWindow_eq_false h))
      rw [hexec, hunplanned, unplannedGate, hchan, State.setChan_now, tailAtOnce_still, hy]
      · rfl
      · rw [placeNotice_chan, hchan, hy]; exact hruns

end Sys2Proof.Machine
end

section
/-! PROOFS. The close of the gate window and the overrun (R75, R82). -/

namespace Sys2Proof.Machine

variable {s t u : State} {c : Chan} {x y : Channel} {b d : Burst} {v : Verdict} {rest : List Burst}

/-! ## The window closes -/

theorem closeWindow_lit (hq : (s.chan c).queue = b :: rest) (hs : b.state = .heating ∨ b.state = .ready) :
    closeWindow c s = enterTail c (modFront c (fun d => { d with state := .cooling ⟨.missed, .none⟩ }) s) := by
  unfold closeWindow State.front
  rw [hq]
  dsimp only [List.head?_cons]
  obtain hs | hs := hs <;> rw [hs]

/-- The close of the window of a HEATING or READY front burst. -/
theorem closeWindow_front (hq : (s.chan c).queue = b :: rest) (hs : b.state = .heating ∨ b.state = .ready)
    (ha : (s.chan c).seq.active = .front) (hl : (s.chan c).seq.laser.lit = true) :
    closeWindow c s = s.setChan c ((s.chan c).tailing
      { b.litFor (s.chan c).seq.laser (s.now - (s.chan c).seq.phaseStart) with state := .cooling ⟨.missed, .none⟩ }
      s.now) := by
  rw [closeWindow_lit hq hs, enterTail_front hq ha hl]
  rfl

theorem windowOver_front (hq : x.queue = b :: rest) :
    x.windowOver = { x with
      gate := x.gate.map fun g => { g with closed := true }
      queue := (if b.gateVetoed then b else { b with barOver := true }) :: rest } := by
  unfold Channel.windowOver
  rw [hq]

/-- The close of the window of a BARRED front burst. -/
theorem closeWindow_barred {r : Reason} (hq : (s.chan c).queue = b :: rest) (hs : b.state = .barred r) :
    closeWindow c s = if b.gateVetoed then s.setChan c (s.chan c).windowOver
      else completeBarred c (s.setChan c (s.chan c).windowOver) := by
  unfold closeWindow State.front
  rw [windowOver_front hq, hq]
  dsimp only [List.head?_cons]
  rw [hs]
  dsimp only
  split
  · rw [markClosed, modChan_eq, ← hq]
  · rw [markClosed, modChan_eq, modFront_eq, State.setChan_chan, setChan_setChan, hq, ← hs]
    rfl

theorem windowOver_seq (x : Channel) : x.windowOver.seq = x.seq := rfl

theorem closeDue_windowOver {r : Reason} (hq : x.queue = b :: rest) (hs : b.state = .barred r) (n : Nat) :
    closeDue x.windowOver n = false := by
  rw [windowOver_front hq]
  refine closeDue_closed (b := if b.gateVetoed then b else { b with barOver := true }) (r := r) rfl ?_ ?_
  · split <;> exact hs
  · intro g hg
    obtain ⟨p, -, rfl⟩ := Option.map_eq_some_iff.1 hg
    rfl

/-- A BARRED burst whose tail runs, or whose vetoed gate is still asserted, outlasts the close of its window (R79). -/
theorem closeWindow_kept {r : Reason} (hq : (s.chan c).queue = b :: rest) (hs : b.state = .barred r)
    (h : (s.chan c).seq.laser = .tail ∧ (s.chan c).seq.active = .front ∨ b.gateVetoed = true) :
    closeWindow c s = s.setChan c (s.chan c).windowOver := by
  rw [closeWindow_barred hq hs]
  split
  · rfl
  · rename_i hv
    exact completeBarred_tail (by rw [State.setChan_chan]; exact h.resolve_right hv)

/-- What is left when the front burst has completed on an unchanged Sequencer, with nothing to follow. -/
structure Settles (c : Chan) (b : Burst) (v : Verdict) (rest : List Burst) (s t : State) : Prop where
  completes : Completes c b v rest s t
  seq : (t.chan c).seq = (s.chan c).seq
  supply : t.supply = s.supply
  still : closeDue (t.chan c) t.now = false

/-- A BARRED burst with neither a tail nor a vetoed gate completes at the close of its window (R79). -/
theorem closeWindow_over {r : Reason} (hq : (s.chan c).queue = b :: rest) (hs : b.state = .barred r)
    (ht : ¬ ((s.chan c).seq.laser = .tail ∧ (s.chan c).seq.active = .front)) (hv : b.gateVetoed = false)
    (hw : waitsInTurn (s.chan c) s.now rest) :
    Settles c b ⟨.vetoed, r⟩ rest s (closeWindow c s) := by
  have hclose := closeWindow_barred hq hs
  rw [if_neg (by rw [hv]; decide)] at hclose
  have hover : (s.chan c).windowOver.queue = { b with gateVetoed := b.gateVetoed, barOver := true } :: rest := by
    rw [windowOver_front hq, if_neg (by rw [hv]; decide)]
  have hcomplete := completeFront_completes (v := ⟨.vetoed, r⟩)
    (OnChannel.setChan (s := s) (c := c) (y := (s.chan c).windowOver) ⟨rfl, rfl, rfl, rfl, rfl, rfl, rfl, rfl⟩)
    (by rw [State.setChan_chan]; exact hover)
  rw [hclose, completeBarred_over (b := { b with barOver := true }) (by rw [State.setChan_chan]; exact hover) hs rfl
    (by rw [State.setChan_chan]; exact ht)]
  obtain ⟨hdone, hseq, hsupply⟩ := hcomplete
  exact ⟨hdone.marked, by rw [hseq, State.setChan_chan]; rfl, hsupply.trans (State.setChan_supply ..),
    hdone.closeDue hw⟩

theorem exec_windowClose (hh : s.held = false) :
    exec (.windowClose c) s = .next (if closeDue (s.chan c) s.now then atOnce c (closeWindow c) s else s).settled := by
  have hexec : exec (.windowClose c) s =
      .next (onEvent (fun s => if closeDue (s.chan c) s.now then atOnce c (closeWindow c) s else s) s) := rfl
  rw [hexec, onEvent_eq hh]

theorem exec_overrun (hh : s.held = false) {e : Nat} (hw : (s.chan c).seq.laser.writing = true)
    (ho : (s.chan c).seq.overrunAt = some e) :
    exec (.overrun c) s = .next (if e ≤ s.now then atOnce c (abortWrite c .overrun e) s else s).settled := by
  have hexec : exec (.overrun c) s = execOverrun c s := rfl
  rw [hexec, execOverrun, onEvent_eq hh]
  dsimp only
  rw [hw, ho]

/-- A write cut short (R82, R87, R90). -/
theorem abortWrite_front (hq : (s.chan c).queue = b :: rest) (ha : (s.chan c).seq.active = .front)
    (hl : (s.chan c).seq.laser.lit = true) (r : Reason) (stop : Nat) :
    abortWrite c r stop s = s.setChan c ((s.chan c).tailing
      { b.litFor (s.chan c).seq.laser (s.now - (s.chan c).seq.phaseStart) with
        state := .cooling ⟨.aborted, r⟩, gate := b.gate.map fun g => { g with stop := some stop } } s.now) :=
  enterTail_front hq ha hl _

/-- An event that leaves the laser in TAIL for a COOLING front burst: nothing but the tail's end can follow at once. -/
theorem atOnce_tailing {f : State → State} (hf : f s = s.setChan c (y.tailing d s.now)) (hd : d.state = .cooling v) :
    atOnce c f s = tailAtOnce c (s.setChan c (y.tailing d s.now)) := by
  rw [atOnce_of_none (by rw [hf]; exact dueClose_setChan.2 (closeDue_tailing hd)), hf]

/-- Settles O55: the window that is open, the close for a lit and for a BARRED burst, and the overrun. -/
theorem windowCloseAndOverrunEndTheBurst : Obligations.WindowCloseAndOverrunEndTheBurst := by
  intro c s x b rest hh hx hq
  subst hx
  refine ⟨fun g hg => ⟨fun hlt => ?_, fun t hle ha hcase ht => ?_, fun r hs hc => ?_, fun r hle hs hc hruns =>
    ⟨fun hkept => ?_, fun ha hv hw => ?_⟩⟩, fun e ha hl he => ?_⟩
  · rw [exec_windowClose hh, if_neg]
    rw [closeDue_windowOpen (fun p hp => by rw [hg] at hp; cases hp; exact hlt)]
    decide
  · have hdue : closeDue (s.chan c) s.now = true :=
      closeDue_of hg (by rw [hq]; rfl) hle (hcase.elim (fun h => .inl h.1) fun h => .inr (.inl h.1))
    have hstate : b.state = .heating ∨ b.state = .ready := hcase.imp And.left And.left
    have hlit : (s.chan c).seq.laser.lit = true := by obtain ⟨-, h⟩ | ⟨-, h⟩ := hcase <;> rw [h] <;> rfl
    have hexec := exec_windowClose (c := c) hh
    rw [if_pos hdue, atOnce_tailing (closeWindow_front hq hstate ha hlit) rfl] at hexec
    rw [ht]
    exact exec_tailing (c := c) hh hexec
  · rw [exec_windowClose hh, if_neg]
    rw [closeDue_closed (b := b) (by rw [hq]; rfl) hs (fun p hp => by rw [hg] at hp; cases hp; exact hc)]
    decide
  · have hdue : closeDue (s.chan c) s.now = true :=
      closeDue_of hg (by rw [hq]; rfl) hle (.inr (.inr ⟨r, hs, hc⟩))
    rw [exec_windowClose hh, if_pos hdue, atOnce_still]
    · rw [closeWindow_kept hq hs hkept]
    · rw [closeWindow_kept hq hs hkept, State.setChan_chan]
      exact hruns
    · rw [closeWindow_kept hq hs hkept, State.setChan_chan]
      exact closeDue_windowOver hq hs _
  · have hdue : closeDue (s.chan c) s.now = true :=
      closeDue_of hg (by rw [hq]; rfl) hle (.inr (.inr ⟨r, hs, hc⟩))
    obtain ⟨hdone, hseq, hsupply, hstill⟩ := closeWindow_over hq hs (fun h => ha h.2) hv hw
    refine ⟨closeWindow c s, ?_, hseq, hsupply, hdone⟩
    rw [exec_windowClose hh, if_pos hdue, atOnce_still (by unfold tailRuns; rw [hseq]; exact hruns) hstill]
  · have hwriting : (s.chan c).seq.laser.writing = true := by obtain h | h := hl <;> rw [h] <;> rfl
    have hexec := exec_overrun hh hwriting he
    refine ⟨fun hlt => by rw [hexec, if_neg (by omega)], fun t hle ht => ?_⟩
    rw [if_pos hle, atOnce_tailing (abortWrite_front hq ha (writing_lit hwriting).1 _ _) rfl] at hexec
    rw [ht]
    exact exec_tailing (c := c) hh hexec

end Sys2Proof.Machine
end

section
/-! PROOFS. The fall of the write gate: a write that ends with its tail, a vetoed gate that ends, and the hot chain (R79, R81,
R83, R84). -/

namespace Sys2Proof.Machine

variable {s t u : State} {c : Chan} {x y : Channel} {b d b1 b2 : Burst} {v : Verdict} {rest : List Burst}

/-! ## The end of a write -/

/-- A channel whose write has ended at `now` (R81): the front burst is lit up to then, and its gate is stopped. -/
def Channel.stopped (x : Channel) (b : Burst) (rest : List Burst) (now : Nat) : Channel :=
  { x with
    queue := (b.litFor x.seq.laser (now - x.seq.phaseStart)).stopGate now :: rest
    seq := { x.seq with phaseStart := now } }

theorem stopGate_endPhase (hq : (s.chan c).queue = b :: rest) (ha : (s.chan c).seq.active = .front)
    (hl : (s.chan c).seq.laser.lit = true) :
    modFront c (Burst.stopGate s.now) (endPhase c s) = s.setChan c ((s.chan c).stopped b rest s.now) := by
  rw [modFront_eq, endPhase_eq, phaseEnded_front hq ha hl]
  simp only [setChan_setChan, State.setChan_chan]
  rfl

/-- The tail of a write that has ended (R81). -/
theorem writtenTail_stopped (ha : x.seq.active = .front) (hl : x.seq.laser.lit = true) :
    writtenTail c (s.setChan c (x.stopped b rest s.now)) =
      s.setChan c (Channel.tailing { x with queue := b :: rest }
        { b.litFor x.seq.laser (s.now - x.seq.phaseStart) with
          state := .cooling ⟨.written, .none⟩, gate := b.gate.map fun g => { g with stop := some s.now } } s.now) := by
  have hchan := State.setChan_chan s c (x.stopped b rest s.now)
  have h := enterTail_front (s := s.setChan c (x.stopped b rest s.now)) (c := c) (by rw [hchan]; rfl)
    (by rw [hchan]; exact ha) (by rw [hchan]; exact hl) (fun b => { b with state := .cooling ⟨.written, .none⟩ })
  rw [hchan, State.setChan_now, setChan_setChan, show (x.stopped b rest s.now).seq.phaseStart = s.now from rfl, Nat.sub_self]
    at h
  rw [writtenTail, h]
  refine congrArg (s.setChan c) ?_
  unfold Channel.tailing Channel.stopped Burst.litFor Burst.stopGate
  simp

theorem chainable_iff {n : Nat} : chainable x.tracker n b1 b2 = true ↔ hotChains x b1 b2 n := by
  refine ⟨chainable_second, fun ⟨hs, hbar, hhead, g, hg, hle⟩ => ?_⟩
  simp only [chainable, gateFrom_eq, hg, Option.any_some, hs, hbar, hhead, hle, beq_self_eq_true, decide_true,
    Bool.and_self]

/-- A write that no hot chain follows ends with its tail. -/
theorem endWrite_alone (hq : (s.chan c).queue = b :: rest) (ha : (s.chan c).seq.active = .front)
    (hl : (s.chan c).seq.laser.lit = true) (hchain : ∀ d ∈ rest.head?, ¬ hotChains (s.chan c) b d s.now) :
    endWrite c s = writtenTail c (s.setChan c ((s.chan c).stopped b rest s.now)) := by
  unfold endWrite
  rw [stopGate_endPhase hq ha hl]
  dsimp only
  rw [State.setChan_chan, State.setChan_now]
  unfold Channel.stopped
  dsimp only
  cases rest with
  | nil => rfl
  | cons d rest =>
    dsimp only
    rw [if_neg]
    intro h
    exact hchain d rfl (chainable_iff.1 h)

theorem exec_wgateFall (hh : s.held = false) (hw : (s.chan c).wgate = true) :
    exec (.wgateFall c) s = .next (gateFall c (s.setChan c { s.chan c with wgate := false })).settled := by
  have hexec : exec (.wgateFall c) s = if (s.chan c).wgate
    then .next (onEvent (gateFall c) (s.setChan c { s.chan c with wgate := false })) else .next s := rfl
  rw [hexec, if_pos hw, onEvent_eq (by rw [State.setChan_held]; exact hh)]

theorem gateFall_writing (hw : (s.chan c).seq.laser.writing = true) : gateFall c s = atOnce c (endWrite c) s := if_pos hw

/-- A fall outside a write, with no vetoed gate. -/
theorem gateFall_still (hw : (s.chan c).seq.laser.writing = false) (hv : ∀ b ∈ (s.chan c).queue.head?, b.gateVetoed = false) :
    gateFall c s = s := by
  unfold gateFall State.front
  rw [if_neg (by rw [hw]; decide)]
  cases hb : (s.chan c).queue.head? with
  | none => rfl
  | some b =>
    dsimp only
    rw [if_neg]
    rw [hv b hb]
    decide

/-- The vetoed gate of the front burst has ended (R79). -/
def vetoEnded (c : Chan) (s : State) : State :=
  completeBarred c (modFront c (fun d => { d with gateVetoed := false, barOver := true }) s)

theorem gateFall_vetoed (hw : (s.chan c).seq.laser.writing = false) (hq : (s.chan c).queue = b :: rest)
    (hv : b.gateVetoed = true) : gateFall c s = atOnce c (vetoEnded c) s := by
  unfold gateFall State.front
  rw [if_neg (by rw [hw]; decide), hq]
  dsimp only [List.head?_cons]
  rw [if_pos hv]
  rfl

/-- The front burst with its vetoed gate ended. -/
theorem modFront_vetoEnded (hq : (s.chan c).queue = b :: rest) :
    modFront c (fun d => { d with gateVetoed := false, barOver := true }) s =
      s.setChan c { s.chan c with queue := { b with gateVetoed := false, barOver := true } :: rest } := by
  rw [modFront_eq, hq]
  rfl

/-- An event that changes neither the front burst's tag nor what its close awaits: nothing follows at once. -/
theorem atOnce_same {f : State → State} (htail : tailRuns ((f s).chan c)) (h : dueClose c (f s) = dueClose c s) :
    atOnce c f s = f s := by
  unfold atOnce
  dsimp only
  rw [if_pos h, runAtOnce_still ⟨zeroTail_eq_false.2 htail, .inr h⟩]

/-- Settles O51: the write that no hot chain follows, the fall with nothing to end, and the vetoed gate with its tail running
and without. -/
theorem gateFallEndsTheWrite : Obligations.GateFallEndsTheWrite := by
  intro c s x y hx hy
  subst hx
  refine ⟨fun hw => ?_, fun hh hw => ?_⟩
  · have hexec : exec (.wgateFall c) s = if (s.chan c).wgate
      then .next (onEvent (gateFall c) (s.setChan c { s.chan c with wgate := false })) else .next s := rfl
    rw [hexec, if_neg (by rw [hw]; decide)]
  have hexec := exec_wgateFall hh hw
  rw [← hy] at hexec
  have hchan : (s.setChan c y).chan c = y := State.setChan_chan ..
  have hqueue : y.queue = (s.chan c).queue := by rw [hy]
  have hseq : y.seq = (s.chan c).seq := by rw [hy]
  refine ⟨fun b rest t hq ha hl hchain ht => ?_, fun hnb hns hv => ?_, fun b rest r hq hv hs =>
    ⟨fun hl ha hruns => ?_, fun hl hw => ?_⟩⟩
  · have hwriting : (s.chan c).seq.laser.writing = true := by obtain h | h := hl <;> rw [h] <;> rfl
    have hlit := (writing_lit hwriting).1
    have hsame : ∀ d ∈ rest.head?, ¬ hotChains ((s.setChan c y).chan c) b d (s.setChan c y).now := fun d hd => by
      rw [hchan, State.setChan_now, hy]; exact hchain d hd
    have hend := endWrite_alone (s := s.setChan c y) (b := b) (rest := rest) (by rw [hchan, hqueue, hq])
      (by rw [hchan, hseq, ha]) (by rw [hchan, hseq, hlit]) hsame
    have htail := writtenTail_stopped (s := s) (c := c) (x := y) (b := b) (rest := rest) (by rw [hseq, ha]) (by rw [hseq, hlit])
    rw [hchan, State.setChan_now, setChan_setChan, htail, show { y with queue := b :: rest } = y by
      rw [← hq, ← hqueue], hseq] at hend
    rw [gateFall_writing (by rw [hchan, hseq]; exact hwriting), atOnce_of_none (by
      rw [hend]; exact dueClose_setChan.2 (closeDue_tailing rfl)), hend] at hexec
    rw [ht]
    exact exec_tailing (c := c) hh hexec
  · rw [hexec, gateFall_still]
    · rw [hchan, hseq]
      cases hlaser : (s.chan c).seq.laser <;> first | rfl | exact absurd hlaser ‹_›
    · rw [hchan, hqueue]
      exact hv
  · have hq' : ((s.setChan c y).chan c).queue = b :: rest := by rw [hchan, hqueue, hq]
    have hended : vetoEnded c (s.setChan c y) =
        s.setChan c { y with queue := { b with gateVetoed := false, barOver := true } :: rest } := by
      rw [vetoEnded, modFront_vetoEnded hq', setChan_setChan, hchan, completeBarred_tail]
      rw [State.setChan_chan]
      exact ⟨hseq ▸ hl, hseq ▸ ha⟩
    rw [gateFall_vetoed (by rw [hchan, hseq, hl]; rfl) hq' hv, atOnce_same, hended] at hexec
    · exact hexec
    · rw [hended, State.setChan_chan]
      exact hseq ▸ hruns
    · rw [hended]
      unfold dueClose State.front closeDue
      simp only [State.setChan_chan, State.setChan_now, hqueue, hq]
      rfl
  · have hq' : ((s.setChan c y).chan c).queue = b :: rest := by rw [hchan, hqueue, hq]
    have hnt : (s.chan c).seq.laser ≠ .tail := by obtain h | h := hl <;> rw [h] <;> exact fun h => nomatch h
    have hbarred : vetoEnded c (s.setChan c y) = completeFront c ⟨.vetoed, r⟩
        (s.setChan c { y with queue := { b with gateVetoed := false, barOver := true } :: rest }) := by
      rw [vetoEnded, modFront_vetoEnded hq', setChan_setChan, hchan]
      exact completeBarred_over (b := { b with gateVetoed := false, barOver := true }) (by rw [State.setChan_chan]) hs rfl
        (by rw [State.setChan_chan]; exact fun h => hnt (hseq ▸ h.1))
    have hon : OnChannel c (s.setChan c y)
        (s.setChan c { y with queue := { b with gateVetoed := false, barOver := true } :: rest }) := by
      have h := OnChannel.setChan (s := s.setChan c y) (c := c)
        (y := { y with queue := { b with gateVetoed := false, barOver := true } :: rest })
        (by rw [hchan]; exact ⟨rfl, rfl, rfl, rfl, rfl, rfl, rfl, rfl⟩)
      rwa [setChan_setChan] at h
    obtain ⟨hdone, hdseq, hsupply⟩ := completeFront_completes (v := ⟨.vetoed, r⟩) hon
      (by rw [State.setChan_chan])
    rw [← hbarred] at hdone hdseq hsupply
    rw [State.setChan_chan] at hdseq
    rw [gateFall_vetoed (by rw [hchan, hseq]; obtain h | h := hl <;> rw [h] <;> rfl) hq' hv, atOnce_still] at hexec
    · exact ⟨_, hexec, hdseq.trans hseq, hsupply.trans (State.setChan_supply ..), hdone.marked⟩
    · rw [tailRuns, hdseq]
      exact fun h => absurd (hseq ▸ h) hnt
    · refine hdone.closeDue ?_
      rw [hchan, State.setChan_now, hy]
      exact hw

end Sys2Proof.Machine
end

section
/-! PROOFS. The hot chain (R83, R84): the handover, the bar decided on the second burst, and the window that has closed already. -/

namespace Sys2Proof.Machine

variable {s t u : State} {c : Chan} {x y : Channel} {b d b1 b2 : Burst} {v : Verdict} {rest : List Burst}

/-! ## The end of a write with a hot chain -/

/-- The heat check of a handover (R148): what the writing burst has lit counts, and the second burst is `d` after its supply
check. -/
def chainFits (c : Chan) (b1 d : Burst) (s : State) : Prop :=
  s.heads[b1.head].bucket + (b1.litFor (s.chan c).seq.laser (s.now - (s.chan c).seq.phaseStart)).acc / 4096 +
    heatEstimate d d.plan.lead ≤ s.heads[b1.head].ceiling

/-- The end of a write with a hot chain, on the state `t` in which the write has ended: the checks of R83. -/
theorem endWrite_chain (ht : modFront c (Burst.stopGate s.now) (endPhase c s) = t)
    (hq : (t.chan c).queue = b1 :: b2 :: rest) (hchain : hotChains (t.chan c) b1 b2 t.now) :
    (∀ f, supplyCheck b2.plan (headroom c t) = .starved f →
        endWrite c s = failHandOver c { b2 with derate := some f } .starved t) ∧
      ((∀ f, supplyCheck b2.plan (headroom c t) ≠ .starved f) → ∀ d : Burst,
        b2.withSupply (supplyCheck b2.plan (headroom c t)) = d →
        endWrite c s = if heatFits t.heads[b1.head] (t.heads[b1.head].bucket + b1.acc / Config.heatUnit)
          (heatEstimate d d.plan.lead) then handOver c d t else failHandOver c d .hot t) := by
  unfold endWrite
  rw [ht]
  dsimp only
  rw [hq]
  dsimp only
  rw [if_pos (chainable_iff.2 hchain)]
  refine ⟨fun f hr => by rw [hr]; rfl, fun hns d hd => ?_⟩
  rw [hd]
  cases hr : supplyCheck b2.plan (headroom c t) with
  | clear => rfl
  | derated f => rfl
  | starved f => exact absurd hr (hns f)

theorem failHandOver_stopped (d : Burst) (r : Reason) :
    failHandOver c d r (s.setChan c (x.stopped b1 (b2 :: rest) s.now)) =
      writtenTail c (s.setChan c (x.stopped b1 ({ d with decidedBar := some r } :: rest) s.now)) := by
  rw [failHandOver, modChan_eq, setChan_setChan, State.setChan_chan]
  rfl

section Chain

variable (hq : (s.chan c).queue = b1 :: b2 :: rest) (ha : (s.chan c).seq.active = .front)
  (hl : (s.chan c).seq.laser.lit = true) (hchain : hotChains (s.chan c) b1 b2 s.now)
include hq ha hl hchain

/-- The bar decided on the second burst by a failed supply check (R84). -/
theorem endWrite_starved {f : Nat} (hr : supplyCheck b2.plan (headroom c s) = .starved f) :
    endWrite c s = writtenTail c (s.setChan c
      ((s.chan c).stopped b1 ({ b2 with derate := some f, decidedBar := some .starved } :: rest) s.now)) := by
  have hheadroom : headroom c (s.setChan c ((s.chan c).stopped b1 (b2 :: rest) s.now)) = headroom c s := by
    rw [headroom, headroom, State.setChan_other, State.setChan_supply]
  rw [(endWrite_chain (stopGate_endPhase hq ha hl) (by rw [State.setChan_chan]; rfl)
    (by rw [State.setChan_chan, State.setChan_now]; exact hchain)).1 f (by rw [hheadroom]; exact hr),
    failHandOver_stopped]

/-- A second burst that passes its supply check: its heat check decides (R83, R84). -/
theorem endWrite_supplied (hr : ∀ f, supplyCheck b2.plan (headroom c s) ≠ .starved f)
    (hd : b2.withSupply (supplyCheck b2.plan (headroom c s)) = d) :
    (chainFits c b1 d s →
        endWrite c s = handOver c d (s.setChan c ((s.chan c).stopped b1 (b2 :: rest) s.now))) ∧
      (¬ chainFits c b1 d s → endWrite c s = writtenTail c (s.setChan c
        ((s.chan c).stopped b1 ({ d with decidedBar := some .hot } :: rest) s.now))) := by
  have hheadroom : headroom c (s.setChan c ((s.chan c).stopped b1 (b2 :: rest) s.now)) = headroom c s := by
    rw [headroom, headroom, State.setChan_other, State.setChan_supply]
  have hend := (endWrite_chain (stopGate_endPhase hq ha hl) (by rw [State.setChan_chan]; rfl)
    (by rw [State.setChan_chan, State.setChan_now]; exact hchain)).2 (by rw [hheadroom]; exact hr) d (by rw [hheadroom, hd])
  rw [State.setChan_heads, failHandOver_stopped] at hend
  have hfits : heatFits s.heads[b1.head] (s.heads[b1.head].bucket +
      (b1.litFor (s.chan c).seq.laser (s.now - (s.chan c).seq.phaseStart)).acc / Config.heatUnit)
      (heatEstimate d d.plan.lead) = true ↔ chainFits c b1 d s := decide_eq_true_iff
  exact ⟨fun h => hend.trans (if_pos (hfits.2 h)), fun h => hend.trans (if_neg (mt hfits.1 h))⟩

end Chain

/-! ## The handover -/

/-- The second burst as a handover makes it READY (R83). -/
def Burst.handedOver (d : Burst) : Burst :=
  { d with state := .ready, hotChain := true, leadUsed := some ⟨d.plan.lead, false⟩ }

/-- What a handover leaves (R83): the front burst has completed between `s` and `u`, and the second is in HOLD. -/
theorem handOver_parts (hon : OnChannel c s u) (hq : (u.chan c).queue = b1 :: b2 :: rest)
    (hbar : b2.decidedBar = none) (d : Burst) :
    let t := handOver c d u
    (t.chan c).queue = d.handedOver :: rest ∧ (t.chan c).gate = expectedGate (s.chan c).tracker b2 ∧
      (t.chan c).seq = { (u.chan c).seq with
        laser := .hold, active := .front, committed := d.currents.boost, phaseEnd := none, overrunAt := none
        phaseStart := u.now } ∧
      t.supply = supplyAfter u.supply (d.currents.boost + (u.chan c.other).seq.committed) ∧
      ∃ w, Completes c b1 ⟨.written, .none⟩ (b2 :: rest) s w ∧ OnChannel c w t := by
  obtain ⟨hdone, hseq, hsupply⟩ := completeFront_completes (v := ⟨.written, .none⟩) hon hq
  obtain ⟨w, hw⟩ : ∃ w, w = completeFront c ⟨.written, .none⟩ u := ⟨_, rfl⟩
  have hqueue := completeFront_second ⟨.written, .none⟩ hq
  rw [enterDecidedBar_none hbar] at hqueue
  rw [← hw] at hdone hseq hsupply hqueue
  have hover : handOver c d u = (w.setChan c { w.chan c with
      queue := d.handedOver :: rest
      seq := { (w.chan c).seq with
        laser := .hold, active := .front, committed := d.currents.boost, phaseEnd := none, overrunAt := none
        phaseStart := u.now } }).setSupply
      (supplyAfter w.supply (d.currents.boost + (w.chan c.other).seq.committed)) := by
    unfold handOver
    dsimp only
    rw [← hw, setCommit_eq, modSeq_eq, modFront_eq, hqueue]
    simp only [setChan_setChan, State.setChan_chan, State.setChan_other, State.setChan_supply]
    rfl
  have hother : w.chan c.other = u.chan c.other := Eq.trans hdone.other hon.other.symm
  dsimp only
  rw [hover, setSupply_chan, State.setChan_chan, setSupply_supply]
  refine ⟨rfl, hdone.gate, by rw [hseq], by rw [hsupply, hother], w, hdone, ?_⟩
  refine .trans (.setChan ?_) (.setSupply ..)
  exact ⟨rfl, rfl, rfl, rfl, rfl, rfl, rfl, rfl⟩

/-- Settles O52: the handover with its window open and closed, the bar decided by the heat check, and the one decided by the
supply check. -/
theorem hotChainHandsOver : Obligations.HotChainHandsOver := by
  intro c s x b1 b2 d1 d2 rest a gate room f level hh hx hw hl ha hq hs1 hs2 hbar hhead hanchor hgate hstart hroom hd1 hf hlevel
  subst hx
  obtain ⟨y, hy⟩ : ∃ y : Channel, y = { s.chan c with wgate := false } := ⟨_, rfl⟩
  have hchan : (s.setChan c y).chan c = y := State.setChan_chan ..
  have hseq : y.seq = (s.chan c).seq := by rw [hy]
  have hqueue : y.queue = b1 :: b2 :: rest := by rw [hy]; exact hq
  have hwriting : (s.chan c).seq.laser.writing = true := by obtain h | h := hl <;> rw [h] <;> rfl
  have hlit := (writing_lit hwriting).1
  have hexpect : expectedGate y.tracker b2 = some ⟨gate, decide (b2.target ≤ a.count), false⟩ := by
    rw [expectedGate, show y.tracker = (s.chan c).tracker by rw [hy], hanchor, hgate]
    rfl
  have hchain : hotChains ((s.setChan c y).chan c) b1 b2 (s.setChan c y).now := by
    rw [hchan, State.setChan_now]
    exact ⟨hs2, hbar, hhead, _, hexpect, hstart⟩
  have hroom' : headroom c (s.setChan c y) = room := by rw [headroom, State.setChan_other, State.setChan_supply, hroom]
  have hnone : dueClose c (s.setChan c y) = none := by
    rw [dueClose_setChan]
    exact closeDue_of_state (b := b1) (by rw [hqueue]; rfl) (.inr (by rw [hs1]; rfl))
  have hexec := exec_wgateFall hh hw
  rw [← hy, gateFall_writing (by rw [hchan, hseq]; exact hwriting), atOnce_new hnone] at hexec
  have hq' : ((s.setChan c y).chan c).queue = b1 :: b2 :: rest := by rw [hchan, hqueue]
  have ha' : ((s.setChan c y).chan c).seq.active = .front := by rw [hchan, hseq, ha]
  have hl' : ((s.setChan c y).chan c).seq.laser.lit = true := by rw [hchan, hseq, hlit]
  have hbarred : ∀ (q : List Burst) (t : State),
      endWrite c (s.setChan c y) = writtenTail c ((s.setChan c y).setChan c
        (((s.setChan c y).chan c).stopped b1 q (s.setChan c y).now)) →
      t = s.setChan c (Channel.tailing { s.chan c with wgate := false, queue := b1 :: q }
        { d1 with state := .cooling ⟨.written, .none⟩ } s.now) →
      (0 < b1.plan.tailLen → exec (.wgateFall c) s = .next t.settled) ∧
        (b1.plan.tailLen = 0 → exec (.wgateFall c) s = exec (.tailEnd c) t) := by
    intro q t hend ht
    rw [hchan, State.setChan_now, setChan_setChan, writtenTail_stopped (by rw [hseq]; exact ha) (by rw [hseq]; exact hlit), hseq]
      at hend
    rw [hend, runAtOnce_none (dueClose_setChan.2 (closeDue_tailing rfl))] at hexec
    rw [ht, hd1]
    rw [hy] at hexec
    exact exec_tailing (c := c) hh hexec
  refine ⟨fun hsupplied => ?_, fun t hshort hstarved ht => ?_⟩
  · obtain ⟨hns, hd⟩ : (∀ f, supplyCheck b2.plan (headroom c (s.setChan c y)) ≠ .starved f) ∧
        b2.withSupply (supplyCheck b2.plan (headroom c (s.setChan c y))) = d2 := by
      rw [hroom']
      obtain ⟨hle, rfl⟩ | ⟨hshort, hith, rfl⟩ := hsupplied
      · rw [supplyCheck_clear hle]
        exact ⟨fun _ h => (nomatch h), rfl⟩
      · rw [supplyCheck_short hshort, if_neg (by unfold deratedCurrent derateFactor; rw [← hf]; omega)]
        exact ⟨fun _ h => (nomatch h), by rw [hf]; rfl⟩
    have hplan : d2.plan = b2.plan := by obtain ⟨-, rfl⟩ | ⟨-, -, rfl⟩ := hsupplied <;> rfl
    have hend := endWrite_supplied hq' ha' hl' hchain hns hd
    have hfits : chainFits c b1 d2 (s.setChan c y) ↔ level + heatEstimate d2 b2.plan.lead ≤ s.heads[b1.head].ceiling := by
      unfold chainFits
      rw [State.setChan_heads, hchan, State.setChan_now, hseq, hplan, hlevel, hd1]
    refine ⟨fun hle => ?_, fun t hlt ht => ?_⟩
    · have hover := hend.1 (hfits.2 hle)
      rw [hchan, State.setChan_now, setChan_setChan] at hover
      have hon : OnChannel c (s.setChan c y) (s.setChan c (y.stopped b1 (b2 :: rest) s.now)) := by
        have h := OnChannel.setChan (s := s.setChan c y) (c := c) (y := y.stopped b1 (b2 :: rest) s.now)
          (by rw [hchan]; exact ⟨rfl, rfl, rfl, rfl, rfl, rfl, rfl, rfl⟩)
        rwa [setChan_setChan] at h
      obtain ⟨htq, htg, htseq, htsupply, w, hdone, hwt⟩ := handOver_parts hon (by rw [State.setChan_chan]; rfl) hbar d2
      rw [← hover] at htq htg htseq htsupply hwt
      obtain ⟨t, ht⟩ : ∃ t, t = endWrite c (s.setChan c y) := ⟨_, rfl⟩
      rw [← ht] at htq htg htseq htsupply hwt hexec
      have hlines : SameLines y (t.chan c) := by
        have h := hdone.lines.trans hwt.lines
        rwa [hchan] at h
      have hother : SameOther c s t := Eq.trans hwt.other (Eq.trans hdone.other (State.setChan_other ..))
      have htables : SameTables s t :=
        .trans ⟨by constructor <;> simp, by simp, by simp⟩ (hdone.tables.trans hwt.tables)
      have hlate : (t.chan c).config.late = (s.chan c).config.late := by rw [hlines.config, hy]
      have hnow : t.now = s.now := htables.now
      have hgate' : (t.chan c).gate = some ⟨gate, decide (b2.target ≤ a.count), false⟩ := by
        rw [htg, hchan]; exact hexpect
      have hlaser : (t.chan c).seq.laser = .hold := by rw [htseq]
      have hready : d2.handedOver = { d2 with
          state := .ready, hotChain := true, leadUsed := some ⟨b2.plan.lead, false⟩ } := by
        rw [Burst.handedOver, hplan]
      have htail : zeroTail (t.chan c).seq = false := zeroTail_eq_false.2 (tailRuns_of_laser (by rw [hlaser]; decide))
      refine ⟨t, _, hready, fun hopen => ?_, fun z hclosed hz => ?_, htq, hgate', ?_, ?_, ?_, ?_, ?_, ?_, hother, htables⟩
      · rw [hexec, runAtOnce_still ⟨htail, .inl ?_⟩]
        rw [dueClose_eq_none, hnow]
        refine closeDue_windowOpen fun g hg => ?_
        rw [hgate'] at hg
        cases hg
        rw [hlate]
        exact hopen
      · have hdue : closeDue (t.chan c) t.now = true :=
          closeDue_of hgate' (by rw [htq]; rfl) (by rw [hlate, hnow]; exact hclosed) (.inr (.inl rfl))
        have hclose := closeWindow_front htq (.inr rfl) (by rw [htseq]) (by rw [hlaser]; rfl)
        rw [runAtOnce_close htail hdue (by rw [ne_eq, dueClose_eq_none, hdue]; decide), hclose,
          runAtOnce_none (dueClose_setChan.2 (closeDue_tailing rfl))] at hexec
        have hstart : (t.chan c).seq.phaseStart = t.now := by rw [htseq, hnow, State.setChan_now]
        rw [hlaser, hstart, Nat.sub_self] at hexec
        rw [hz, ← hnow, ← hplan]
        exact exec_tailing (c := c) (htables.held.trans hh) hexec
      · rw [htseq, State.setChan_chan, State.setChan_now, hy]
        dsimp only [Channel.stopped]
        rw [ha]
      · rw [htsupply, State.setChan_supply, State.setChan_other]
      · have hhead := hdone.head
        rw [State.setChan_heads, hseq] at hhead
        rw [hd1, hwt.heads]
        exact hhead
      · rw [hwt.link, hdone.link, hchan, hd1, ← hseq, show y.config = (s.chan c).config by rw [hy]]
        exact completionNoted_congr (State.setChan_heads ..) (State.setChan_link ..) _
      · rw [← hy]; exact hlines
      · intro k hk
        rw [hwt.heads, hdone.heads k hk, State.setChan_heads]
    · exact hbarred _ t (hend.2 (by rw [hfits]; omega)) ht
  · refine hbarred _ t (endWrite_starved (f := f) hq' ha' hl' hchain ?_) ht
    rw [hroom', supplyCheck_short hshort, if_pos (by unfold deratedCurrent derateFactor; rw [← hf]; exact hstarved), hf]
    rfl

end Sys2Proof.Machine
end

section
/-! PROOFS. Arming (R70 to R73): the scheduled start, the checks in their order, and the window that has closed already. -/

namespace Sys2Proof.Machine

variable {s t u : State} {c : Chan} {x y : Channel} {b d : Burst} {v : Verdict} {rest : List Burst} {g : GateTime}

/-! ## The scheduled start -/

theorem leadNow_eq {cold : Bool} {lead : Nat} (hcold : cold = !(x.seq.laser == .bias && x.seq.selected == some b.head))
    (hlead : lead = if cold then b.plan.coldLead else b.plan.lead) : leadNow x b = ⟨lead, cold⟩ := by
  unfold leadNow
  by_cases h : x.seq.laser = .bias ∧ x.seq.selected = some b.head
  · rw [if_pos h, hlead, hcold]
    simp [h.1, h.2]
  · have hc : cold = true := by
      rw [hcold, Bool.not_eq_true', ← Bool.not_eq_true, Bool.and_eq_true, beq_iff_eq, beq_iff_eq]
      exact h
    rw [if_neg h, hlead, hc]
    rfl

theorem leadNow_ticks (x : Channel) (b : Burst) : (leadNow x b).ticks =
    if x.seq.laser = .bias ∧ x.seq.selected = some b.head then b.plan.lead else b.plan.coldLead := by
  unfold leadNow
  split <;> rfl

theorem armDue_iff (hl : (s.chan c).seq.laser.lit = false) : armDue c s = true ↔ startDue (s.chan c) s.now := by
  refine ⟨fun h => ?_, fun ⟨b, hb, hs, hbar, g, hg, hle⟩ => ?_⟩
  · obtain ⟨b, g, hb, hg, hs, hbar, -, hle⟩ := armDue_front h
    rw [leadNow_ticks] at hle
    exact ⟨b, hb, hs, hbar, g, hg, hle⟩
  · rw [← leadNow_ticks] at hle
    unfold armDue scheduledStart
    rw [hl, Option.mem_def.1 hb, hg]
    dsimp only
    rw [if_pos ⟨hs, hbar⟩, Option.any_some, decide_eq_true hle]
    rfl

theorem exec_arming (hh : s.held = false) :
    exec (.arming c) s = .next (if armDue c s then atOnce c (arm c) s else s).settled := by
  have hexec : exec (.arming c) s = .next (onEvent (fun s => if armDue c s then atOnce c (arm c) s else s) s) := rfl
  rw [hexec, onEvent_eq hh]

/-! ## The checks -/

/-- A front burst barred at its arming (R72). -/
theorem barAtArming_front (hq : (s.chan c).queue = b :: rest) (d : Burst) (r : Reason) :
    barAtArming c d r s = s.setChan c { s.chan c with
      queue := { d with state := .barred r } :: rest, seq := { (s.chan c).seq with biasCount := 0 } } := by
  rw [barAtArming, modFront_eq, modSeq_eq, hq]
  simp only [setChan_setChan, State.setChan_chan]
  rfl

section Checks

variable (hq : (s.chan c).queue = b :: rest)
include hq

theorem arm_guard (hg : (s.chan c).guardLine.filtered = true) : arm c s = barAtArming c b .guard s := by
  unfold arm
  dsimp only
  rw [hq]
  dsimp only [List.head?_cons]
  rw [if_pos hg]

theorem arm_starved {f : Nat} (hg : (s.chan c).guardLine.filtered = false)
    (hr : supplyCheck b.plan (headroom c s) = .starved f) :
    arm c s = barAtArming c { b with derate := some f } .starved s := by
  unfold arm
  dsimp only
  rw [hq]
  dsimp only [List.head?_cons]
  rw [if_neg (by rw [hg]; decide), hr]
  rfl

theorem arm_supplied {lead : Nat} {cold : Bool} (hg : (s.chan c).guardLine.filtered = false)
    (hlead : leadNow (s.chan c) b = ⟨lead, cold⟩) (hr : ∀ f, supplyCheck b.plan (headroom c s) ≠ .starved f)
    (hd : b.withSupply (supplyCheck b.plan (headroom c s)) = d) :
    (s.heads[b.head].bucket + heatEstimate d lead ≤ s.heads[b.head].ceiling →
        arm c s = startBurst c d ⟨lead, cold⟩ s) ∧
      (s.heads[b.head].ceiling < s.heads[b.head].bucket + heatEstimate d lead → arm c s = barAtArming c d .hot s) := by
  have harm : arm c s = if heatFits s.heads[b.head] s.heads[b.head].bucket (heatEstimate d lead)
      then startBurst c d ⟨lead, cold⟩ s else barAtArming c d .hot s := by
    unfold arm
    dsimp only
    rw [hq]
    dsimp only [List.head?_cons]
    rw [if_neg (by rw [hg]; decide), hd, hlead]
    cases hr' : supplyCheck b.plan (headroom c s) with
    | clear => rfl
    | derated f => rfl
    | starved f => exact absurd hr' (hr f)
  exact ⟨fun h => harm.trans (if_pos (decide_eq_true h)), fun h => harm.trans (if_neg fun hfits =>
    absurd (of_decide_eq_true hfits) (not_le.2 h))⟩

end Checks

/-! ## What follows an arming -/

theorem not_windowOpen_iff (hg : x.gate = some g) {n : Nat} :
    ¬ windowOpen x n ↔ g.time + (x.config.late : Int) ≤ (n : Int) := by
  refine ⟨fun h => ?_, fun h hopen => absurd (hopen g hg) (not_lt.2 h)⟩
  by_contra hlt
  exact h fun p hp => by rw [hg] at hp; cases hp; exact not_le.1 hlt

/-- A BARRED burst that the laser does not run, whose window has closed already, completes at once (R75, R79). -/
theorem runAtOnce_over {r : Reason} (hq : (u.chan c).queue = d :: rest) (hs : d.state = .barred r)
    (hg : (u.chan c).gate = some g) (hc : g.closed = false) (hle : g.time + ((u.chan c).config.late : Int) ≤ (u.now : Int))
    (hl : (u.chan c).seq.laser ≠ .tail) (hv : d.gateVetoed = false)
    (hw : waitsInTurn (u.chan c) u.now rest) :
    Settles c d ⟨.vetoed, r⟩ rest u (runAtOnce c none u) := by
  have hdue := closeDue_of hg (by rw [hq]; rfl) hle (.inr (.inr ⟨r, hs, hc⟩))
  have hover := closeWindow_over hq hs (fun h => hl h.1) hv hw
  have hstill : Still c none (closeWindow c u) :=
    ⟨zeroTail_eq_false.2 (tailRuns_of_laser (by rw [hover.seq]; exact hl)), .inl (dueClose_eq_none.2 hover.still)⟩
  rw [runAtOnce_close (zeroTail_eq_false.2 (tailRuns_of_laser hl)) hdue (by rw [ne_eq, dueClose_eq_none, hdue]; decide),
    runAtOnce_still hstill]
  exact hover

/-- Settles O53: the start that is not due, the three bars, and the start. -/
theorem armingIsChecked : Obligations.ArmingIsChecked := by
  intro c s x b rest g cold lead f room hh hx hl hq hs hbar hg hcold hlead hroom hf
  subst hx
  have hfront : s.front c = some b := by rw [State.front, hq]; rfl
  have hlit : (s.chan c).seq.laser.lit = false := by obtain h | h := hl <;> rw [h] <;> rfl
  have hnt : (s.chan c).seq.laser ≠ .tail := by obtain h | h := hl <;> rw [h] <;> decide
  have hnone : dueClose c s = none :=
    dueClose_eq_none.2 (closeDue_of_state (b := b) (by rw [hq]; rfl) (.inl hs))
  have hlead' := leadNow_eq hcold hlead
  have hdue : armDue c s = true ↔ g.time - (lead : Int) ≤ (s.now : Int) := by
    rw [armDue_iff hlit, show lead = (leadNow (s.chan c) b).ticks by rw [hlead'], leadNow_ticks]
    refine ⟨fun ⟨d, hd, _, _, p, hp, hle⟩ => ?_, fun hle => ⟨b, by rw [hq]; rfl, hs, hbar, g, hg, hle⟩⟩
    rw [hq] at hd
    rw [hg] at hp
    cases hd
    cases hp
    exact hle
  have hexec := exec_arming (c := c) hh
  refine ⟨fun hlt => by rw [hexec, if_neg (by rw [hdue]; omega)], fun hle => ?_⟩
  rw [if_pos (hdue.2 hle), atOnce_new hnone] at hexec
  have hclear : (b.plan.boost : Int) ≤ room → supplyCheck b.plan (headroom c s) = .clear := fun h =>
    supplyCheck_clear (by rw [headroom, ← hroom]; exact h)
  have hshort : room < (b.plan.boost : Int) → supplyCheck b.plan (headroom c s) =
      if b.plan.sustain * f / 256 ≤ b.plan.ith then .starved f else .derated f := fun h => by
    rw [show headroom c s = room from hroom.symm, supplyCheck_short h, hf]
    rfl
  have hsupplied : ∀ d : Burst, ((b.plan.boost : Int) ≤ room ∧ d = b ∨
      room < (b.plan.boost : Int) ∧ b.plan.ith < b.plan.sustain * f / 256 ∧ d = { b with derate := some f, derated := true }) →
      (∀ k, supplyCheck b.plan (headroom c s) ≠ .starved k) ∧ b.withSupply (supplyCheck b.plan (headroom c s)) = d ∧
        d.plan = b.plan ∧ d.head = b.head := by
    rintro d (⟨h, rfl⟩ | ⟨h, hith, rfl⟩)
    · rw [hclear h]
      exact ⟨fun _ h => (nomatch h), rfl, rfl, rfl⟩
    · rw [hshort h, if_neg (by omega)]
      exact ⟨fun _ h => (nomatch h), rfl, rfl, rfl⟩
  refine ⟨fun r d u hcase hu => ?_, fun d u hguard hcase hfits hu => ?_⟩
  · obtain ⟨harm, hd, hdv⟩ : arm c s = u ∧ d.state = .barred r ∧ d.gateVetoed = b.gateVetoed := by
      rw [hu]
      obtain ⟨hguard, rfl, rfl⟩ | ⟨hguard, hroom, hith, rfl, rfl⟩ | ⟨hguard, hroom, hhot, rfl, rfl⟩ |
        ⟨hguard, hroom, hith, hhot, rfl, rfl⟩ := hcase
      · exact ⟨(arm_guard hq hguard).trans (barAtArming_front hq ..), rfl, rfl⟩
      · exact ⟨(arm_starved hq hguard (by rw [hshort hroom, if_pos hith])).trans (barAtArming_front hq ..), rfl, rfl⟩
      · obtain ⟨hr, hd, -⟩ := hsupplied b (.inl ⟨hroom, rfl⟩)
        exact ⟨((arm_supplied hq hguard hlead' hr hd).2 hhot).trans (barAtArming_front hq ..), rfl, rfl⟩
      · obtain ⟨hr, hd, -⟩ := hsupplied _ (.inr ⟨hroom, hith, rfl⟩)
        exact ⟨((arm_supplied hq hguard hlead' hr hd).2 hhot).trans (barAtArming_front hq ..), rfl, rfl⟩
    rw [harm] at hexec
    have hchan : u.chan c = { s.chan c with queue := d :: rest, seq := { (s.chan c).seq with biasCount := 0 } } := by
      rw [hu, State.setChan_chan]
    have hnow : u.now = s.now := by rw [hu, State.setChan_now]
    refine ⟨fun hopen => ?_, fun hclosed hc hv hw => ?_⟩
    · rw [hexec, runAtOnce_still ⟨zeroTail_eq_false.2 (tailRuns_of_laser (by rw [hchan]; exact hnt)), .inl ?_⟩]
      rw [dueClose_eq_none, hchan, hnow]
      exact closeDue_windowOpen hopen
    · have hover := runAtOnce_over (u := u) (c := c) (by rw [hchan]) hd (by rw [hchan]; exact hg) hc
        (by rw [hchan, hnow]; exact (not_windowOpen_iff hg).1 hclosed) (by rw [hchan]; exact hnt) (hdv.trans hv)
        (by rw [hchan, hnow]; exact hw)
      exact ⟨_, hexec, hover.seq, hover.supply.trans (by rw [hu, State.setChan_supply]), hover.completes⟩
  · obtain ⟨hr, hd, hplan, hhead⟩ := hsupplied d hcase
    have harm : arm c s = u := by
      rw [(arm_supplied hq hguard hlead' hr hd).1 hfits, startBurst_eq, hu, hq]
      obtain ⟨-, rfl⟩ | ⟨-, -, rfl⟩ := hcase <;> rfl
    rw [harm] at hexec
    have hchan : (u.chan c).seq.laser = .preheat ∧ (u.chan c).seq.active = .front ∧ (u.chan c).seq.phaseStart = s.now ∧
        (u.chan c).gate = some g ∧ (u.chan c).config = (s.chan c).config ∧
        ∃ m : Burst, (u.chan c).queue = m :: rest ∧ m.state = .heating ∧ m.plan = b.plan := by
      have hset : ∀ (y : Channel) (p : Supply), State.chan { s.setChan c y with supply := p } c = y := fun y p =>
        (setSupply_chan _ p c).trans (State.setChan_chan ..)
      rw [hu, hset]
      exact ⟨rfl, rfl, rfl, hg, rfl, _, rfl, rfl, hplan⟩
    obtain ⟨hlaser, hactive, hstart, hgate, hconfig, m, hm, hheating, hmplan⟩ := hchan
    have hnow : u.now = s.now := by rw [hu]; exact State.setChan_now ..
    have hheld : u.held = false := by rw [hu]; exact (State.setChan_held ..).trans hh
    have htail : zeroTail (u.chan c).seq = false := zeroTail_eq_false.2 (tailRuns_of_laser (by rw [hlaser]; decide))
    refine ⟨fun hopen => ?_, fun k z hclosed hk hz => ?_⟩
    · rw [hexec, runAtOnce_still ⟨htail, .inl ?_⟩]
      rw [dueClose_eq_none, hnow]
      refine closeDue_windowOpen fun p hp => ?_
      rw [hconfig]
      exact hopen p (by rw [hg, ← hgate]; exact hp)
    · obtain rfl : m = k := (List.cons.inj (hm.symm.trans hk)).1
      have hdue : closeDue (u.chan c) u.now = true :=
        closeDue_of hgate (by rw [hm]; rfl) (by rw [hconfig, hnow]; exact (not_windowOpen_iff hg).1 hclosed) (.inl hheating)
      have hclose := closeWindow_front hm (.inl hheating) hactive (by rw [hlaser]; rfl)
      rw [runAtOnce_close htail hdue (by rw [ne_eq, dueClose_eq_none, hdue]; decide), hclose,
        runAtOnce_none (dueClose_setChan.2 (closeDue_tailing rfl)), hlaser, hstart, hnow, Nat.sub_self] at hexec
      rw [hz, ← hmplan]
      rw [← hnow] at hexec ⊢
      exact exec_tailing (c := c) hheld hexec

end Sys2Proof.Machine
end

section
/-! PROOFS. The end of a tail (R79, R85): the burst it was run for, the rest state, and the arming that may follow. -/

namespace Sys2Proof.Machine

variable {s t u w : State} {c : Chan} {x y : Channel} {b d : Burst} {v : Verdict} {rest : List Burst}

/-! ## The rest state -/

/-- The rest state settled on `w`, in which the head's state, the supply and the other channel are as in `s` (R42, R85). -/
theorem settleRest_settled (hstate : w.heads[b.head].state = s.heads[b.head].state) (hsupply : w.supply = s.supply)
    (hother : SameOther c s w) :
    RestSettled c b s (settleRest c b w) ∧ OnChannel c w (settleRest c b w) ∧
      ((settleRest c b w).chan c).queue = (w.chan c).queue ∧ ((settleRest c b w).chan c).gate = (w.chan c).gate ∧
      ((settleRest c b w).chan c).seq.laser.lit = false := by
  have hroom : headroom c w = (s.supply.effective : Int) - ((s.chan c.other).seq.committed : Int) := by
    rw [headroom, hsupply, hother]
  have hlines : ∀ q : Sequencer, SameLines (w.chan c) { w.chan c with seq := q } := fun q =>
    ⟨rfl, rfl, rfl, rfl, rfl, rfl, rfl, rfl⟩
  by_cases hbias : s.heads[b.head].state = .ready ∧
      (b.plan.bias : Int) ≤ (s.supply.effective : Int) - ((s.chan c.other).seq.committed : Int)
  · have hrest : settleRest c b w = (w.setChan c { w.chan c with seq := { (w.chan c).seq with
        laser := .bias, selected := some b.head, active := .idle, committed := b.plan.bias, biasCurrent := b.plan.bias
        biasCount := 0, light := .none, phaseEnd := none, overrunAt := none } }).setSupply
        (supplyAfter w.supply (b.plan.bias + (w.chan c.other).seq.committed)) := by
      rw [settleRest, if_pos (by rw [hstate, hroom]; exact hbias), setCommit_eq, modSeq_eq]
      simp only [setChan_setChan, State.setChan_chan, State.setChan_other, State.setChan_supply]
    rw [hrest]
    refine ⟨⟨?_, ?_⟩, .trans (.setChan (hlines _)) (.setSupply ..), ?_, ?_, ?_⟩
    · rw [if_pos hbias, setSupply_chan, State.setChan_chan]
      exact ⟨rfl, rfl, rfl, rfl, rfl, rfl, rfl⟩
    · rw [setSupply_supply, setSupply_chan, State.setChan_chan, hsupply, hother]
    all_goals rw [setSupply_chan, State.setChan_chan]
    rfl
  · have hrest : settleRest c b w = goDark c w := if_neg (by rw [hstate, hroom]; exact hbias)
    rw [hrest, goDark_eq]
    refine ⟨⟨?_, ?_⟩, .trans (.setChan (hlines _)) (.setSupply ..), ?_, ?_, ?_⟩
    · rw [if_neg hbias, setSupply_chan, State.setChan_chan]
      exact ⟨rfl, rfl, rfl, rfl, rfl⟩
    · rw [setSupply_supply, setSupply_chan, State.setChan_chan, hsupply, hother]
      exact congrArg _ (Nat.zero_add _).symm
    all_goals rw [setSupply_chan, State.setChan_chan]
    rfl

/-! ## The burst -/

/-- The tail of the front burst has ended on its Sequencer (R85): the burst is lit up to `now`, and the Sequencer runs none. -/
def Channel.tailDone (x : Channel) (b : Burst) (rest : List Burst) (now : Nat) : Channel :=
  { x with
    queue := b.litFor .tail (now - x.seq.phaseStart) :: rest, seq := { x.seq with phaseStart := now, active := .idle } }

theorem tailDone_on (s : State) (c : Chan) (b : Burst) (rest : List Burst) :
    OnChannel c s (s.setChan c ((s.chan c).tailDone b rest s.now)) :=
  .setChan ⟨rfl, rfl, rfl, rfl, rfl, rfl, rfl, rfl⟩

section Front

variable (hq : (s.chan c).queue = b :: rest) (ha : (s.chan c).seq.active = .front) (hl : (s.chan c).seq.laser = .tail)
include hq ha hl

theorem endTail_front
    (ht : settleRest c (b.litFor .tail (s.now - (s.chan c).seq.phaseStart)) (endTailBurst c (endPhase c s)) = t) :
    endTail c s = if armDue c t then arm c t else t := by
  have hend := phaseEnded_front hq ha (by rw [hl]; rfl) s.now
  rw [← ht]
  unfold endTail
  dsimp only
  rw [endPhase_chan, hend, Channel.activeBurst]
  dsimp only
  rw [ha]
  dsimp only [List.head?_cons]
  rw [hl]

theorem endPhase_tail : endPhase c s = s.setChan c { s.chan c with
    queue := b.litFor .tail (s.now - (s.chan c).seq.phaseStart) :: rest
    seq := { (s.chan c).seq with phaseStart := s.now } } := by
  rw [endPhase_eq, phaseEnded_front hq ha (by rw [hl]; rfl), hl]

theorem endTailBurst_cooling (hs : b.state = .cooling v) :
    endTailBurst c (endPhase c s) = completeFront c v (s.setChan c ((s.chan c).tailDone b rest s.now)) := by
  unfold endTailBurst State.front
  rw [endPhase_tail hq ha hl]
  dsimp only
  rw [State.setChan_chan, modSeq_eq, setChan_setChan, State.setChan_chan]
  dsimp only
  rw [ha]
  dsimp only [List.head?_cons]
  rw [show (b.litFor .tail (s.now - (s.chan c).seq.phaseStart)).state = .cooling v from hs]
  rfl

theorem endTailBurst_barred {r : Reason} (hs : b.state = .barred r) :
    endTailBurst c (endPhase c s) = completeBarred c (s.setChan c ((s.chan c).tailDone b rest s.now)) := by
  unfold endTailBurst State.front
  rw [endPhase_tail hq ha hl]
  dsimp only
  rw [State.setChan_chan, modSeq_eq, setChan_setChan, State.setChan_chan]
  dsimp only
  rw [ha]
  dsimp only [List.head?_cons]
  rw [show (b.litFor .tail (s.now - (s.chan c).seq.phaseStart)).state = .barred r from hs]
  rfl

/-- The completion of the front burst whose tail has ended: COOLING, or BARRED with its window over (R79, R85). -/
theorem endTailBurst_completes
    (hs : b.state = .cooling v ∨ ∃ r, b.state = .barred r ∧ b.barOver = true ∧ v = ⟨.vetoed, r⟩) :
    Completes c (b.litFor .tail (s.now - (s.chan c).seq.phaseStart)) v rest s (endTailBurst c (endPhase c s)) ∧
      (endTailBurst c (endPhase c s)).supply = s.supply := by
  have hchan := State.setChan_chan s c ((s.chan c).tailDone b rest s.now)
  have hburst : endTailBurst c (endPhase c s) = completeFront c v (s.setChan c ((s.chan c).tailDone b rest s.now)) := by
    obtain hs | ⟨r, hs, ho, rfl⟩ := hs
    · exact endTailBurst_cooling hq ha hl hs
    · rw [endTailBurst_barred hq ha hl hs]
      exact completeBarred_over (b := b.litFor .tail (s.now - (s.chan c).seq.phaseStart)) (by rw [hchan]; rfl) hs ho (by rw [hchan]; exact fun h => nomatch h.2)
  obtain ⟨hdone, -, hsupply⟩ := completeFront_completes (v := v) (tailDone_on s c b rest) (by rw [hchan]; rfl)
  rw [hburst]
  exact ⟨hdone, hsupply.trans (State.setChan_supply ..)⟩

end Front

/-- A BARRED front burst whose window is still to close stays (R79). -/
theorem completeBarred_open (hq : (s.chan c).queue = b :: rest) (ho : b.barOver = false) : completeBarred c s = s := by
  unfold completeBarred State.front
  rw [hq]
  dsimp only [List.head?_cons]
  split
  · rw [ho]; rfl
  all_goals rfl

/-! ## A detached tail -/

theorem Head.SameButHeat.state {r p : Head} (h : r.SameButHeat p) : p.state = r.state := by
  unfold Head.SameButHeat at h
  exact (congrArg Head.state h :)

/-- The channel whose detached tail has ended: its Sequencer runs no burst. -/
def Channel.tailDropped (x : Channel) (now : Nat) : Channel :=
  { x with seq := { x.seq with phaseStart := now, active := .idle } }

/-- The end of a detached tail charges its head, and settles the rest state (R85). -/
theorem endTail_detached (ha : (s.chan c).seq.active = .detached b) (hl : (s.chan c).seq.laser = .tail)
    (hd : d = b.litFor .tail (s.now - (s.chan c).seq.phaseStart))
    (ht : settleRest c d ((charge d.head (heatOf d.acc) s).setChan c ((s.chan c).tailDropped s.now)) = t) :
    endTail c s = if armDue c t then arm c t else t := by
  have hend : (s.chan c).phaseEnded s.now =
      { s.chan c with seq := { (s.chan c).seq with phaseStart := s.now, active := .detached d } } := by
    unfold Channel.phaseEnded
    rw [ha]
    dsimp only
    rw [litUpTo_lit (by rw [hl]; rfl), hl, hd]
  have hburst : endTailBurst c (endPhase c s) =
      (charge d.head (heatOf d.acc) s).setChan c ((s.chan c).tailDropped s.now) := by
    rw [← charge_setChan]
    unfold endTailBurst
    rw [endPhase_eq, hend]
    dsimp only
    rw [State.setChan_chan, modSeq_eq, setChan_setChan, State.setChan_chan]
    rfl
  rw [← ht]
  unfold endTail
  dsimp only
  rw [hburst, endPhase_chan, hend, Channel.activeBurst]

/-! ## What follows the rest state -/

/-- Nothing follows a rest state in which no start and no close is due. -/
theorem runAtOnce_rest {own : Option U16} (hl : (t.chan c).seq.laser.lit = false)
    (hclose : dueClose c t = none ∨ dueClose c t = own) (hdue : ¬ startDue (t.chan c) t.now) :
    runAtOnce c own (if armDue c t then arm c t else t) = t := by
  rw [if_neg (by rw [armDue_iff hl]; exact hdue)]
  refine runAtOnce_still ⟨zeroTail_eq_false.2 (tailRuns_of_laser fun h => ?_), hclose⟩
  rw [h] at hl
  cases hl

/-- A start that is due is taken at once, as its command takes it; the close of a burst that has left the queue is no bar. -/
theorem runAtOnce_start {own : Option U16} (hh : t.held = false) (hl : (t.chan c).seq.laser.lit = false)
    (hclose : closeDue (t.chan c) t.now = false) (hdue : startDue (t.chan c) t.now)
    (hown : ∀ b ∈ (t.chan c).queue, own ≠ some b.tag) :
    .next (runAtOnce c own (if armDue c t then arm c t else t)).settled = exec (.arming c) t := by
  have harm := (armDue_iff hl).2 hdue
  rw [exec_arming hh, if_pos harm, if_pos harm, atOnce_new (dueClose_eq_none.2 hclose), runAtOnce_absent]
  intro b hb
  obtain ⟨d, hd, htag⟩ :=
    List.mem_map.1 (((Steady.arm harm).ages c).queue.tags.subset (List.mem_map_of_mem hb))
  rw [← htag]
  exact hown d hd

theorem asFront_tags (q : List Burst) : (asFront q).map Burst.tag = q.map Burst.tag := by
  rw [asFront_eq]
  cases q with
  | nil => rfl
  | cons b rest =>
    exact congrArg (· :: rest.map Burst.tag) (congrArg Prod.fst (enterDecidedBar_core b))

/-- The tag kept back is that of the front burst. -/
theorem dueClose_front {k : U16} (hq : (s.chan c).queue = b :: rest) (h : dueClose c s = some k) : b.tag = k := by
  have hdue : closeDue (s.chan c) s.now = true := by
    by_contra hne
    rw [dueClose_eq_none.2 (by simpa using hne)] at h
    cases h
  rw [dueClose_of_due hdue (b := b) (by rw [State.front, hq]; rfl)] at h
  exact Option.some.inj h

theorem TagLaw.front_ne (h : TagLaw s) (hq : (s.chan c).queue = b :: rest) : ∀ d ∈ rest, b.tag ≠ d.tag := by
  have hsub : ((s.chan c).queue.map Burst.tag).Nodup := by
    refine List.Nodup.sublist ?_ h
    cases c with
    | c0 => exact (List.sublist_append_left ..).map _
    | c1 => exact (List.sublist_append_right ..).map _
  rw [hq, List.map_cons, List.nodup_cons] at hsub
  exact fun d hd heq => hsub.1 (heq ▸ List.mem_map_of_mem hd)

/-- Settles O56: the front burst that completes, the detached tail, and the BARRED burst that stays. -/
theorem tailEndCompletesTheBurst : Obligations.TailEndCompletesTheBurst := by
  intro c s x e hh hx hl he
  subst hx
  have hexec := exec_tailEnd hh c
  refine ⟨fun hlt => by rw [hexec, if_neg (by simp [phaseDue, he, hlt])], fun hle => ?_⟩
  rw [if_pos (by simp [phaseDue, hl, he, hle])] at hexec
  refine ⟨fun b d rest v ha hq hs hd => ?_, fun b d units ha hqueued hd hunits => ?_, fun b rest r ha hq hs ho => ?_⟩
  · obtain ⟨hdone, hsupply⟩ := endTailBurst_completes hq ha hl hs
    have hend := fun t => endTail_front (t := t) hq ha hl
    rw [← hd] at hend hdone
    obtain ⟨hrest, hon, hqueue, hgate, hlit⟩ := settleRest_settled (b := d) hdone.head.state hsupply hdone.other
    obtain ⟨t, ht⟩ : ∃ t, t = settleRest c d (endTailBurst c (endPhase c s)) := ⟨_, rfl⟩
    rw [← ht] at hrest hon hqueue hgate hlit
    have hall := hdone.onward hon hqueue hgate
    have hrest' : RestSettled c b s t := by subst hd; exact hrest
    have hnow : t.now = s.now := hall.tables.now
    rw [tailOver, hend t ht.symm] at hexec
    refine ⟨fun hempty => ⟨t, ?_, hempty ▸ hall, hrest'⟩, fun hwait => ⟨t, hall, hrest', fun hnd => ?_, fun hdue htag => ?_⟩⟩
    · have htq : (t.chan c).queue = [] := by rw [hall.queue, hempty]; rfl
      rw [hexec, runAtOnce_rest hlit (.inl (dueClose_eq_none.2 (closeDue_empty htq _)))]
      rintro ⟨k, hk, -⟩
      rw [htq] at hk
      cases hk
    · rw [hexec, runAtOnce_rest hlit (.inl (dueClose_eq_none.2 (hall.closeDue hwait))) (by rw [hnow]; exact hnd)]
    · rw [hexec, runAtOnce_start (hall.tables.held.trans hh) hlit (hall.closeDue hwait) (by rw [hnow]; exact hdue)]
      intro k hk hown
      rw [hall.queue] at hk
      obtain ⟨d, hd, hsame⟩ := List.mem_map.1 (asFront_tags rest ▸ List.mem_map_of_mem hk)
      exact htag.front_ne hq d hd ((dueClose_front hq hown).trans hsame.symm)
  · obtain ⟨w, hw⟩ : ∃ w, w = (charge d.head (heatOf d.acc) s).setChan c ((s.chan c).tailDropped s.now) := ⟨_, rfl⟩
    have hend := fun t => endTail_detached (t := t) ha hl hd
    rw [← hw] at hend
    have hchan : w.chan c = (s.chan c).tailDropped s.now := by rw [hw, State.setChan_chan]
    have hother : SameOther c s w := by rw [SameOther, hw, State.setChan_other, charge_chan]
    have hstate : w.heads[d.head].state = s.heads[d.head].state := by
      rw [hw, State.setChan_heads]
      exact (charge_sameButHeat ..).state
    obtain ⟨hrest, hon, hqueue, hgate, hlit⟩ := settleRest_settled (b := d) hstate
      (show w.supply = s.supply by rw [hw, State.setChan_supply, charge_supply]) hother
    obtain ⟨t, ht⟩ : ∃ t, t = settleRest c d w := ⟨_, rfl⟩
    rw [← ht] at hrest hon hqueue hgate hlit
    rw [hchan] at hqueue hgate
    have hrest' : RestSettled c b s t := by subst hd; exact hrest
    have hheads : t.heads = (charge d.head (heatOf d.acc) s).heads := by rw [hon.heads, hw, State.setChan_heads]
    have hlink : t.link = (charge d.head (heatOf d.acc) s).link := by rw [hon.link, hw, State.setChan_link]
    have hlines : SameLines (s.chan c) (t.chan c) := by
      have h := hon.lines
      rw [hchan] at h
      exact SameLines.trans (y := (s.chan c).tailDropped s.now) ⟨rfl, rfl, rfl, rfl, rfl, rfl, rfl, rfl⟩ h
    have htables : SameTables s t := by
      refine .trans ?_ hon.tables
      rw [hw]
      exact (Calm.charge d.head (heatOf d.acc) s).tables.trans ⟨by constructor <;> simp, by simp, by simp⟩
    have hhead : d.head = b.head := by rw [hd]; rfl
    have hclosed : ∀ (x : Channel) (n : Nat), x.queue = (s.chan c).queue → closeDue x n = false := by
      intro x n hx
      cases hq : (s.chan c).queue with
      | nil => exact closeDue_empty (hx.trans hq) n
      | cons k rest => exact closeDue_of_state (b := k) (by rw [hx, hq]; rfl) (.inl (hqueued k (by rw [hq]; rfl)))
    have hnone : dueClose c s = none := dueClose_eq_none.2 (hclosed _ _ rfl)
    rw [tailOver, hnone, hend t ht.symm] at hexec
    refine ⟨t, hqueue, hgate, hrest', by rw [hheads, hunits, hhead], by rw [hlink, hunits, hhead], hlines,
      Eq.trans hon.other hother, htables, fun hempty => ?_, fun hnd => ?_, fun hdue => ?_⟩
    · rw [hexec, runAtOnce_rest hlit (.inl (dueClose_eq_none.2 (hclosed _ _ hqueue)))]
      rintro ⟨k, hk, -⟩
      rw [hqueue, show ((s.chan c).tailDropped s.now).queue = [] from hempty] at hk
      cases hk
    · rw [hexec, runAtOnce_rest hlit (.inl (dueClose_eq_none.2 (hclosed _ _ hqueue))) (by rw [htables.now]; exact hnd)]
    · rw [hexec, runAtOnce_start (htables.held.trans hh) hlit (hclosed _ _ hqueue) (by rw [htables.now]; exact hdue)]
      exact fun _ _ h => nomatch h
  · obtain ⟨t, ht⟩ : ∃ t, t = settleRest c (b.litFor .tail (s.now - (s.chan c).seq.phaseStart))
        (s.setChan c ((s.chan c).tailDone b rest s.now)) := ⟨_, rfl⟩
    have hchan := State.setChan_chan s c ((s.chan c).tailDone b rest s.now)
    have hburst : endTailBurst c (endPhase c s) = s.setChan c ((s.chan c).tailDone b rest s.now) := by
      rw [endTailBurst_barred hq ha hl hs]
      exact completeBarred_open (b := b.litFor .tail (s.now - (s.chan c).seq.phaseStart)) (by rw [hchan]; rfl) ho
    have hdone := tailDone_on s c b rest
    obtain ⟨hrest, hon, hqueue, hgate, hlit⟩ := settleRest_settled (s := s) (c := c)
      (b := b.litFor .tail (s.now - (s.chan c).seq.phaseStart))
      (w := s.setChan c ((s.chan c).tailDone b rest s.now)) (by rw [State.setChan_heads]) (State.setChan_supply ..) hdone.other
    rw [← ht] at hrest hon hqueue hgate hlit
    have hall := hdone.trans hon
    rw [hchan] at hqueue hgate
    rw [tailOver, endTail_front (t := t) hq ha hl (by rw [hburst, ht]), runAtOnce_rest hlit (.inr ?_) ?_] at hexec
    · exact ⟨t, hexec, hqueue, hgate, hrest, hall.heads, hall.link, hall.lines, hall.other, hall.tables⟩
    · unfold dueClose State.front closeDue
      rw [hqueue, hgate, hall.lines.config, hall.now, hq]
      rfl
    · rintro ⟨k, hk, hqueued, -⟩
      rw [hqueue] at hk
      cases hk
      exact absurd (hs.symm.trans hqueued) fun h => nomatch h

end Sys2Proof.Machine
end

section
/-! PROOFS. The flush of a head's waiting bursts (R22, R93) and the head's fault (R111), as equations of the channel they act on;
and what no event that follows at once does: it leaves no new burst waiting, and no head's state changed. -/

namespace Sys2Proof.Machine

variable {s t u w : State} {c : Chan} {x y : Channel} {b d : Burst} {v : Verdict} {rest : List Burst} {h : Fin 24}

/-! ## Bursts that wait to be lit -/

/-- Every burst of `r` that waits to be lit is of a head that a waiting burst of `q` had. -/
def UnlitFrom (q r : List Burst) : Prop :=
  ∀ b ∈ r, b.state.unlit = true → ∃ d ∈ q, d.head = b.head ∧ d.state.unlit = true

namespace UnlitFrom

variable {p q r : List Burst}

theorem refl (q : List Burst) : UnlitFrom q q := fun b hb hu => ⟨b, hb, rfl, hu⟩

theorem trans (a : UnlitFrom p q) (b : UnlitFrom q r) : UnlitFrom p r := by
  intro d hd hu
  obtain ⟨e, he, hhead, heu⟩ := b d hd hu
  obtain ⟨f, hf, hsame, hfu⟩ := a e he heu
  exact ⟨f, hf, hsame.trans hhead, hfu⟩

theorem of_subset (hs : r ⊆ q) : UnlitFrom q r := fun b hb hu => ⟨b, hs hb, rfl, hu⟩

/-- The front burst changes, but for its head, and comes to wait only when it did before. -/
theorem modFirst {f : Burst → Burst}
    (hf : ∀ b ∈ q.head?, (f b).head = b.head ∧ ((f b).state.unlit = true → b.state.unlit = true)) :
    UnlitFrom q (modFirst f q) := by
  cases q with
  | nil => exact refl _
  | cons b rest =>
    obtain ⟨hhead, hunlit⟩ := hf b rfl
    intro d hd hu
    obtain rfl | hd := List.mem_cons.1 hd
    · exact ⟨b, List.mem_cons_self .., hhead.symm, hunlit hu⟩
    · exact ⟨d, List.mem_cons_of_mem _ hd, rfl, hu⟩

theorem asFront (q : List Burst) : UnlitFrom q (asFront q) := by
  rw [asFront_eq]
  refine modFirst fun b _ => ⟨congrArg (fun p => p.2.1) (enterDecidedBar_core b), fun hu => ?_⟩
  unfold Burst.enterDecidedBar at hu
  split at hu
  · rename_i hs _
    rw [hs]
    rfl
  · exact hu

end UnlitFrom

/-! ## The flush of a head -/

theorem waitsToBeLit_eq (k : BurstState) : waitsToBeLit k = k.unlit := by cases k <;> rfl

/-- A channel whose front burst is about to leave it: a running tail is detached from the burst (R93). -/
def Channel.released (x : Channel) : Channel :=
  match x.queue with
  | [] => x
  | b :: _ => if x.frontTail then { x with seq := { x.seq with active := .detached b } } else x

theorem releaseFront_eq (c : Chan) (s : State) : releaseFront c s = s.setChan c (s.chan c).released := by
  unfold releaseFront detachFront State.front Channel.released
  cases hq : (s.chan c).queue with
  | nil =>
    dsimp only [List.head?_nil]
    rw [ite_self, setChan_self]
  | cons b rest =>
    dsimp only [List.head?_cons]
    split
    · rw [modSeq_eq, ← hq]
    · rw [setChan_self]

theorem released_queue (x : Channel) : x.released.queue = x.queue ∧ x.released.gate = x.gate ∧ SameLines x x.released ∧
    x.released.seq.laser = x.seq.laser ∧ x.released.seq.selected = x.seq.selected ∧
    x.released.seq.phaseEnd = x.seq.phaseEnd ∧ x.released.seq.phaseStart = x.seq.phaseStart ∧
    x.released.seq.committed = x.seq.committed := by
  unfold Channel.released
  split
  · exact ⟨rfl, rfl, .refl x, rfl, rfl, rfl, rfl, rfl⟩
  · split
    · exact ⟨rfl, rfl, ⟨rfl, rfl, rfl, rfl, rfl, rfl, rfl, rfl⟩, rfl, rfl, rfl, rfl, rfl⟩
    · exact ⟨rfl, rfl, .refl x, rfl, rfl, rfl, rfl, rfl⟩

/-- A channel with the bursts that `out` selects flushed from its queue (R22, R93). -/
def Channel.flushedOf (x : Channel) (out : Burst → Bool) : Channel :=
  if x.queue.head?.any out then x.released.without out else x.without out

theorem flushHead_eq (hc : s.heads[h].channel = c) : flushHead h s =
    (s.setChan c ((s.chan c).flushedOf (flushedWithHead h)), (s.chan c).queue.countP (flushedWithHead h)) := by
  unfold flushHead Channel.flushedOf
  dsimp only
  rw [hc]
  refine Prod.ext ?_ rfl
  dsimp only
  rw [show (s.front c) = (s.chan c).queue.head? from rfl]
  split
  · rw [removeWhere_eq, releaseFront_eq, State.setChan_chan, setChan_setChan]
  · rw [removeWhere_eq]


/-- No burst of the head is left waiting in the queue of its channel. -/
theorem flushedOf_queue (x : Channel) (h : Fin 24) :
    ∀ d ∈ (x.flushedOf (flushedWithHead h)).queue, d.head = h → d.state.unlit = false := by
  have hkept : UnlitFrom (x.queue.filter fun b => !flushedWithHead h b) (x.flushedOf (flushedWithHead h)).queue := by
    unfold Channel.flushedOf Channel.without
    dsimp only
    rw [(released_queue x).1]
    split
    · exact .asFront _
    · exact .refl _
  intro d hd hhead
  by_contra hu
  obtain ⟨e, he, hsame, heu⟩ := hkept d hd (by simpa using hu)
  have hout := (List.mem_filter.1 he).2
  rw [flushedWithHead, hsame, hhead, heu] at hout
  simp at hout

theorem flushedOf_lines (x : Channel) (out : Burst → Bool) : SameLines x (x.flushedOf out) := by
  have hwithout : ∀ y : Channel, SameLines y (y.without out) := fun y => by
    unfold Channel.without
    dsimp only
    split <;> exact ⟨rfl, rfl, rfl, rfl, rfl, rfl, rfl, rfl⟩
  unfold Channel.flushedOf
  split
  · exact (released_queue x).2.2.1.trans (hwithout _)
  · exact hwithout x

/-- A flush that leaves the front burst. -/
theorem flushedOf_kept {out : Burst → Bool} (hout : ∀ b ∈ x.queue.head?, out b = false) :
    x.flushedOf out = { x with queue := x.queue.filter fun b => !out b } := by
  have hnot : ¬ x.queue.head?.any out = true := by
    rw [Option.any_eq_true]
    rintro ⟨b, hb, hyes⟩
    rw [hout b hb] at hyes
    cases hyes
  rw [Channel.flushedOf, if_neg hnot, Channel.without, if_neg hnot]

theorem without_front {out : Burst → Bool} (hq : x.queue = b :: rest) (hout : out b = true) :
    x.without out = { x with
      queue := asFront (rest.filter fun b => !out b)
      gate := (rest.filter fun b => !out b).head?.bind (expectedGate x.tracker) } := by
  have hkept : (b :: rest).filter (fun b => !out b) = rest.filter fun b => !out b :=
    List.filter_cons_of_neg (by simp [hout])
  unfold Channel.without
  dsimp only
  rw [hq, hkept, if_pos (by rw [List.head?_cons, Option.any_some, hout])]

/-- A flush that takes the front burst. -/
theorem flushedOf_front {out : Burst → Bool} (hq : x.queue = b :: rest) (hout : out b = true) :
    x.flushedOf out = { x with
      queue := asFront (rest.filter fun b => !out b)
      gate := (rest.filter fun b => !out b).head?.bind (expectedGate x.tracker)
      seq := if x.frontTail then { x.seq with active := .detached b } else x.seq } := by
  have hany : x.queue.head?.any out = true := by rw [hq, List.head?_cons, Option.any_some, hout]
  have hreleased : x.released = { x with seq := if x.frontTail then { x.seq with active := .detached b } else x.seq } := by
    unfold Channel.released
    rw [hq]
    dsimp only
    split <;> rw [← hq]
  rw [Channel.flushedOf, if_pos hany, hreleased,
    without_front (x := { x with seq := if x.frontTail then { x.seq with active := .detached b } else x.seq }) hq hout]

/-! ## The fault of a head -/

theorem endBiasOn_still (hb : (s.chan c).seq.laser ≠ .bias ∨ (s.chan c).seq.selected ≠ some h) : endBiasOn c h s = s :=
  if_neg fun hboth => hb.elim (fun hl => hl hboth.1) fun hs => hs hboth.2

theorem endBiasOn_bias (hl : (s.chan c).seq.laser = .bias) (hs : (s.chan c).seq.selected = some h) :
    endBiasOn c h s = goDark c s := if_pos ⟨hl, hs⟩

theorem chargeFlushed_chan (h : Fin 24) (s : State) (d : Chan) : (chargeFlushed h s).chan d = s.chan d := by
  unfold chargeFlushed chargeEnded
  dsimp only
  split
  · split
    · rfl
    · rw [chargeFront_eq, chargeSome_chan]
  · rfl

/-- The flushed front burst has nothing to be charged: it was never lit, or its tail still runs. -/
theorem chargeFlushed_none (hc : s.heads[h].channel = c)
    (hf : ∀ b ∈ (s.chan c).queue.head?, flushedWithHead h b = true → (s.chan c).frontTail = true ∨ b.acc = 0) :
    chargeFlushed h s = s := by
  unfold chargeFlushed chargeEnded chargeFront State.front
  dsimp only
  rw [hc]
  cases hb : (s.chan c).queue.head? with
  | none => rfl
  | some b =>
    rw [Option.any_some]
    dsimp only
    split
    · split
      · rfl
      · rename_i hout htail
        have hacc := (hf b hb hout).resolve_left htail
        rw [chargeBurst, hacc]
        rfl
    · rfl

/-- The flushed front burst is charged what it lit. -/
theorem chargeFlushed_front (hc : s.heads[h].channel = c) (hq : (s.chan c).queue = b :: rest)
    (hout : flushedWithHead h b = true) (ht : (s.chan c).frontTail = false) :
    chargeFlushed h s = charge b.head (heatOf b.acc) s := by
  unfold chargeFlushed chargeEnded chargeFront State.front
  dsimp only
  rw [hc, hq, List.head?_cons, Option.any_some, if_pos hout, if_neg (by rw [ht]; decide)]
  rfl

/-- A head that can fault enters FAULT (R111); `u` is the state with the flushed front burst charged. -/
theorem enterFault_eq (hc : s.heads[h].channel = c) (hstate : s.heads[h].state = .ready ∨ s.heads[h].state = .parked)
    (k : FaultCause) (hu : chargeFlushed h (s.setHead h { s.heads[h] with state := .fault k }) = u) :
    enterFault h k s =
      placeNotice (.headFault h c k s.heads[h].strikes ((s.chan c).queue.countP (flushedWithHead h)))
        (endBiasOn c h (u.setChan c ((s.chan c).flushedOf (flushedWithHead h)))) := by
  have hcan : s.heads[h].state.canFault = true := by obtain hs | hs := hstate <;> rw [hs] <;> rfl
  have hset : (s.setHead h { s.heads[h] with state := .fault k }).heads[h].channel = c := by
    rw [State.setHead_heads, heads_set_same, ← hc]
  have huc : u.heads[h].channel = c := by
    rw [← hu]
    exact ((Steady.chargeFlushed h _).heads h).channel.trans hset
  have hchan : u.chan c = s.chan c := by
    rw [← hu, chargeFlushed_chan, State.setHead_chan]
  unfold enterFault
  dsimp only
  rw [if_pos hcan, hu, flushHead_eq huc, hchan, hc]

/-! ## What follows at once -/

/-- What no event of a channel that follows at once does (R75, R81): no burst comes to wait to be lit, and no head's state
changes. -/
structure Follows (c : Chan) (s t : State) : Prop where
  unlit : UnlitFrom (s.chan c).queue (t.chan c).queue
  states : ∀ k : Fin 24, t.heads[k].state = s.heads[k].state

namespace Follows

theorem refl (c : Chan) (s : State) : Follows c s s := ⟨.refl _, fun _ => rfl⟩

theorem trans (a : Follows c s t) (b : Follows c t u) : Follows c s u :=
  ⟨a.unlit.trans b.unlit, fun k => (b.states k).trans (a.states k)⟩

/-- The heads are as they were. -/
theorem of_heads (hq : UnlitFrom (s.chan c).queue (t.chan c).queue) (hh : t.heads = s.heads) : Follows c s t :=
  ⟨hq, fun k => by rw [hh]⟩

/-- The heads and the channel's queue are as they were. -/
theorem of_queue (hq : (t.chan c).queue = (s.chan c).queue) (hh : t.heads = s.heads) : Follows c s t :=
  .of_heads (hq ▸ .refl _) hh

theorem modFront {f : Burst → Burst} (hf : ∀ b ∈ (s.chan c).queue.head?,
    (f b).head = b.head ∧ ((f b).state.unlit = true → b.state.unlit = true)) : Follows c s (modFront c f s) := by
  rw [modFront_eq]
  refine .of_heads ?_ (State.setChan_heads ..)
  rw [State.setChan_chan]
  exact .modFirst hf

theorem modSeq (c : Chan) (s : State) (f : Sequencer → Sequencer) : Follows c s (s.modSeq c f) := by
  rw [modSeq_eq]
  refine .of_queue ?_ (State.setChan_heads ..)
  rw [State.setChan_chan]

theorem charge (c : Chan) (k : Fin 24) (n : Nat) (s : State) : Follows c s (charge k n s) :=
  ⟨by rw [charge_chan]; exact .refl _, fun j => (charge_sameButHeat ..).state⟩

theorem endPhase (c : Chan) (s : State) : Follows c s (endPhase c s) := by
  refine .of_heads ?_ (endPhase_heads ..)
  rw [endPhase_chan]
  unfold Channel.phaseEnded
  split
  · exact .refl _
  · exact .modFirst fun b _ => ⟨litUpTo_head .., fun hu => by rwa [litUpTo_state] at hu⟩
  · exact .refl _

theorem goDark (c : Chan) (s : State) : Follows c s (goDark c s) :=
  .of_queue (by rw [goDark_chan]) (goDark_heads ..)

theorem enterTail (c : Chan) (s : State) : Follows c s (enterTail c s) := by
  refine (endPhase c s).trans ?_
  unfold Machine.enterTail
  dsimp only
  split
  · exact .refl ..
  · exact .modSeq ..

theorem completeFront (c : Chan) (v : Verdict) (s : State) : Follows c s (completeFront c v s) := by
  cases hq : (s.chan c).queue with
  | nil => rw [completeFront_none v (by rw [State.front, hq]; rfl)]; exact .refl ..
  | cons b rest =>
    obtain ⟨hdone, -⟩ := completeFront_completes (v := v) (OnChannel.refl c s) hq
    refine ⟨?_, fun k => ?_⟩
    · rw [hdone.queue, hq]
      exact .trans (.of_subset (List.subset_cons_self ..)) (.asFront _)
    · by_cases hk : k = b.head
      · rw [hk]; exact hdone.head.state
      · rw [hdone.heads k hk]

theorem completeBarred (c : Chan) (s : State) : Follows c s (completeBarred c s) := by
  unfold Machine.completeBarred
  split
  · exact .refl ..
  · split
    · split
      · exact .completeFront ..
      · exact .refl ..
    all_goals exact .refl ..

theorem arm (hdue : armDue c s = true) : Follows c s (arm c s) := by
  obtain ⟨b, -, hb, -, hs, -⟩ := armDue_front hdue
  have hfront : ∀ e ∈ (s.chan c).queue.head?, e = b := fun e he => Option.some.inj (he.symm.trans hb)
  have hbar : ∀ (d : Burst) (r : Reason), d.head = b.head → Follows c s (barAtArming c d r s) := by
    intro d r hd
    refine .trans (.modFront ?_) (.modSeq ..)
    intro e he
    rw [hfront e he]
    exact ⟨hd, fun _ => by rw [hs]; rfl⟩
  have hstart : ∀ (d : Burst) (l : LeadUsed), d.head = b.head → Follows c s (startBurst c d l s) := by
    intro d l hd
    rw [startBurst_eq]
    refine .of_heads ?_ (by rw [setSupply_heads, State.setChan_heads])
    rw [setSupply_chan, State.setChan_chan]
    refine .modFirst fun e he => ?_
    rw [hfront e he]
    exact ⟨hd, fun hu => absurd hu Bool.false_ne_true⟩
  unfold Machine.arm
  dsimp only
  rw [show (s.chan c).queue.head? = some b from hb]
  dsimp only
  split
  · exact hbar _ _ rfl
  · split
    · exact hbar _ _ (withSupply_head ..)
    all_goals
      split
      · exact hstart _ _ (withSupply_head ..)
      · exact hbar _ _ (withSupply_head ..)

theorem settleRest (c : Chan) (b : Burst) (s : State) : Follows c s (settleRest c b s) := by
  unfold Machine.settleRest
  split
  · exact .trans (.modSeq c s _) (.of_queue (by rw [setCommit_chan]) (setCommit_heads ..))
  · exact .goDark ..

theorem endTailBurst (c : Chan) (s : State) : Follows c s (endTailBurst c s) := by
  have hidle : ∀ t, Follows c (s.modSeq c fun q => { q with active := .idle }) t → Follows c s t :=
    fun t ht => (Follows.modSeq c s _).trans ht
  unfold Machine.endTailBurst
  dsimp only
  split
  · exact .modSeq ..
  · exact hidle _ (.charge ..)
  · split
    · exact .modSeq ..
    · split
      · exact hidle _ (.completeFront ..)
      · exact hidle _ (.completeBarred ..)
      all_goals exact .modSeq ..

theorem endTail (c : Chan) (s : State) : Follows c s (endTail c s) := by
  unfold Machine.endTail
  dsimp only
  split
  · exact (endPhase c s).trans (.goDark ..)
  · rename_i b _
    refine (endPhase c s).trans <| (endTailBurst c _).trans <| (settleRest c b _).trans ?_
    split
    · rename_i hdue
      exact .arm hdue
    · exact .refl ..

theorem closeWindow (c : Chan) (s : State) : Follows c s (closeWindow c s) := by
  have hmark : Follows c s (markClosed c s) :=
    .of_queue (by rw [markClosed, State.modChan_chan]) (by rw [markClosed, modChan_eq, State.setChan_heads])
  have hmissed : Follows c s (Machine.modFront c (fun d => { d with state := .cooling ⟨.missed, .none⟩ }) s) :=
    .modFront fun _ _ => ⟨rfl, fun hu => absurd hu Bool.false_ne_true⟩
  unfold Machine.closeWindow
  split
  · exact .refl ..
  · split
    · exact hmissed.trans (.enterTail ..)
    · exact hmissed.trans (.enterTail ..)
    · split
      · exact hmark
      · refine hmark.trans (.trans (.modFront ?_) (.completeBarred ..))
        exact fun _ _ => ⟨rfl, id⟩
    all_goals exact .refl ..

theorem atOnceRounds (n : Nat) (own : Option U16) (s : State) : Follows c s (atOnceRounds n c own s) := by
  induction n generalizing s with
  | zero => exact .refl ..
  | succ n ih =>
    rw [Machine.atOnceRounds]
    split
    · exact (endTail c s).trans (ih _)
    · split
      · exact .refl ..
      · exact (closeWindow c s).trans (ih _)

theorem atOnce (f : State → State) (s : State) : Follows c (f s) (atOnce c f s) := .atOnceRounds ..

end Follows

/-- The Sequencer is DARK and runs no burst, with the selection and the commitment of `q`. -/
def DarkAs (q p : Sequencer) : Prop :=
  p.laser = .dark ∧ p.active = .idle ∧ p.selected = q.selected ∧ p.committed = q.committed

theorem completeFront_seq (c : Chan) (v : Verdict) (s : State) : ((completeFront c v s).chan c).seq = (s.chan c).seq := by
  rw [completeFront_chan]
  split <;> rfl

theorem completeBarred_seq (c : Chan) (s : State) : ((completeBarred c s).chan c).seq = (s.chan c).seq := by
  unfold completeBarred
  split
  · rfl
  · split
    · split
      · exact completeFront_seq ..
      · rfl
    all_goals rfl

/-- The close of a window leaves a DARK Sequencer that runs no burst as it is. -/
theorem DarkAs.closeWindow {q : Sequencer} (hd : DarkAs q (s.chan c).seq) : DarkAs q ((closeWindow c s).chan c).seq := by
  have htailed : ∀ x : Channel, DarkAs q x.seq → DarkAs q (x.tailed s.now).seq := by
    rintro x ⟨hl, ha, hsel, hcom⟩
    unfold Channel.tailed
    rw [phaseEnded_idle ha, Channel.activeBurst]
    dsimp only
    rw [ha]
    exact ⟨hl, rfl, hsel, hcom⟩
  have hmissed : DarkAs q ((enterTail c (modFront c (fun d => { d with state := .cooling ⟨.missed, .none⟩ }) s)).chan c).seq := by
    rw [enterTail_chan, modFront_now]
    refine htailed _ ?_
    rw [modFront_chan]
    exact hd
  unfold Machine.closeWindow
  split
  · exact hd
  · split
    · exact hmissed
    · exact hmissed
    · split
      · rw [markClosed, State.modChan_chan]
        exact hd
      · rw [completeBarred_seq, modFront_chan, markClosed, State.modChan_chan]
        exact hd
    all_goals exact hd

/-- A DARK Sequencer that runs no burst stays so through what follows at once. -/
theorem DarkAs.runAtOnce {q : Sequencer} (hd : DarkAs q (s.chan c).seq) (own : Option U16) :
    DarkAs q ((runAtOnce c own s).chan c).seq := by
  have hrounds : ∀ (n : Nat) (s : State), DarkAs q (s.chan c).seq → DarkAs q ((atOnceRounds n c own s).chan c).seq := by
    intro n
    induction n with
    | zero => exact fun _ hd => hd
    | succ n ih =>
      intro s hd
      rw [atOnceRounds, if_neg (by
        rw [zeroTail_eq_false.2 (tailRuns_of_laser fun hl => nomatch hd.1.symm.trans hl)]
        decide)]
      split
      · exact hd
      · exact ih _ hd.closeWindow
  exact hrounds _ s hd

end Sys2Proof.Machine
end

section
/-! PROOFS. The light deadline (R89, R111, R113): the laser darkened, the lit burst ended, and the head in FAULT. -/

namespace Sys2Proof.Machine

variable {s t u w : State} {c : Chan} {x y : Channel} {b d : Burst} {v : Verdict} {rest kept : List Burst} {h : Fin 24}

/-! ## The fault of a head whose channel is dark -/

theorem frontTail_of_laser (hl : x.seq.laser ≠ .tail) : x.frontTail = false := by
  rw [← Bool.not_eq_true, frontTail_eq_true]
  exact fun ht => hl ht.1

theorem flushedOf_seq (hl : x.seq.laser ≠ .tail) (out : Burst → Bool) : (x.flushedOf out).seq = x.seq := by
  have hwithout : ∀ y : Channel, (y.without out).seq = y.seq := fun y => by
    unfold Channel.without
    dsimp only
    split <;> rfl
  have hreleased : x.released = x := by
    unfold Channel.released
    split
    · rfl
    · rw [frontTail_of_laser hl]; rfl
  unfold Channel.flushedOf
  rw [hreleased]
  split <;> exact hwithout x

/-- A head enters FAULT while its channel is DARK (R111). -/
theorem enterFault_dark (hc : w.heads[h].channel = c) (hstate : w.heads[h].state = .ready ∨ w.heads[h].state = .parked)
    (hl : (w.chan c).seq.laser = .dark) (k : FaultCause)
    (hu : chargeFlushed h (w.setHead h { w.heads[h] with state := .fault k }) = u) :
    enterFault h k w =
      placeNotice (.headFault h c k w.heads[h].strikes ((w.chan c).queue.countP (flushedWithHead h)))
        (u.setChan c ((w.chan c).flushedOf (flushedWithHead h))) := by
  rw [enterFault_eq hc hstate k hu, endBiasOn_still]
  rw [State.setChan_chan, flushedOf_seq (by rw [hl]; decide), hl]
  exact .inl (by decide)

theorem countP_add_kept {α : Type} (p : α → Bool) (l : List α) :
    l.countP p = l.length - (l.filter fun a => !p a).length := by
  have h := List.length_eq_countP_add_countP p (l := l)
  rw [List.countP_eq_length_filter (p := fun a => decide ¬ p a = true)] at h
  have hsame : (fun a => decide ¬ p a = true) = fun a => !p a := by
    funext a
    cases p a <;> rfl
  rw [hsame] at h
  omega

/-- The bar that a QUEUED burst enters in front does not decide whether it is flushed with its head. -/
theorem flushedWithHead_enterDecidedBar (h : Fin 24) (b : Burst) :
    flushedWithHead h b.enterDecidedBar = flushedWithHead h b := by
  unfold flushedWithHead Burst.enterDecidedBar
  split
  · rename_i hs _
    rw [hs]
    rfl
  · rfl

/-- The queue behind a front burst that has left, with the head's waiting bursts flushed from it. -/
theorem flushedOf_asFront {tr : Tracker} (hq : x.queue = asFront rest) (hg : x.gate = rest.head?.bind (expectedGate tr))
    (htr : x.tracker = tr) (hl : x.seq.laser ≠ .tail)
    (hkept : kept = rest.filter fun r => !flushedWithHead h r) :
    x.flushedOf (flushedWithHead h) = { x with
        queue := asFront kept, gate := kept.head?.bind (expectedGate tr) } ∧
      x.queue.countP (flushedWithHead h) = rest.length - kept.length := by
  rw [asFront_eq] at hq
  cases rest with
  | nil =>
    rw [hkept, flushedOf_kept (by rw [hq]; exact fun _ hb => nomatch hb)]
    refine ⟨?_, by rw [hq]; rfl⟩
    rw [hq]
    rw [show (List.filter (fun r => !flushedWithHead h r) []).head?.bind (expectedGate tr) = x.gate from hg.symm]
    rfl
  | cons k rest =>
    have hsame := flushedWithHead_enterDecidedBar h k
    have hcount : x.queue.countP (flushedWithHead h) = (k :: rest).countP (flushedWithHead h) := by
      rw [hq, modFirst, List.countP_cons, List.countP_cons, hsame]
    refine ⟨?_, by rw [hcount, countP_add_kept, hkept]⟩
    cases hout : flushedWithHead h k with
    | true =>
      rw [List.filter_cons_of_neg (by simp [hout])] at hkept
      rw [flushedOf_front (b := k.enterDecidedBar) hq (by rw [hsame, hout]), frontTail_of_laser hl, htr, hkept]
      rfl
    | false =>
      rw [List.filter_cons_of_pos (by simp [hout])] at hkept
      rw [flushedOf_kept (by rw [hq]; intro e he; cases he; rw [hsame, hout]), hq, modFirst,
        List.filter_cons_of_pos (by simp [hsame, hout]), hkept, asFront_eq, modFirst, List.head?_cons]
      rw [show (some k).bind (expectedGate tr) = x.gate from hg.symm]

theorem exec_lightDeadline (hh : s.held = false) : exec (.lightDeadline c) s =
    .next (if lightDue (s.chan c).seq s.now then atOnce c (lightAbsent c) s else owedAbsent c s).settled := by
  have hexec : exec (.lightDeadline c) s = .next (onEvent (fun s =>
    if lightDue (s.chan c).seq s.now then atOnce c (lightAbsent c) s else owedAbsent c s) s) := rfl
  rw [hexec, onEvent_eq hh]

/-! ## The darkening -/

/-- The state in which the laser of the channel has gone DARK, with the queue `q` (R92). -/
def darkWith (c : Chan) (q : List Burst) (s : State) : State :=
  (s.setChan c { s.chan c with queue := q, seq := { (s.chan c).seq with phaseStart := s.now }.dark }).setSupply
    (supplyAfter s.supply (s.chan c.other).seq.committed)

theorem darkWith_chan (c : Chan) (q : List Burst) (s : State) : (darkWith c q s).chan c =
    { s.chan c with queue := q, seq := { (s.chan c).seq with phaseStart := s.now }.dark } := by
  rw [darkWith, setSupply_chan, State.setChan_chan]

theorem darkWith_on (c : Chan) (q : List Burst) (s : State) : OnChannel c s (darkWith c q s) :=
  .trans (.setChan (y := { s.chan c with queue := q, seq := { (s.chan c).seq with phaseStart := s.now }.dark })
    ⟨rfl, rfl, rfl, rfl, rfl, rfl, rfl, rfl⟩) (.setSupply ..)

theorem darkWith_supply (c : Chan) (q : List Burst) (s : State) :
    (darkWith c q s).supply = supplyAfter s.supply (s.chan c.other).seq.committed := setSupply_supply ..

theorem darkWith_modFront (f : Burst → Burst) :
    modFront c f (darkWith c (b :: rest) s) = darkWith c (f b :: rest) s := by
  rw [modFront_eq, darkWith_chan, darkWith, setSupply_setChan, setChan_setChan]
  rfl

/-- The front burst as the absence of light ends it, and the verdict (R89). -/
def EndsAbsent (l : LaserState) (now n : Nat) (b d : Burst) (v : Verdict) : Prop :=
  (b.state = .heating ∨ b.state = .ready) ∧ v = ⟨.vetoed, .lightAbsent⟩ ∧ d = b.litFor l n ∨
    b.state = .cooling v ∧ d = b.litFor l n ∨
    b.state = .writing ∧ v = ⟨.aborted, .lightAbsent⟩ ∧
      d = { b.litFor l n with gate := b.gate.map fun g => { g with stop := some now } }

theorem goDark_front (hq : (s.chan c).queue = b :: rest) (ha : (s.chan c).seq.active = .front)
    (hl : (s.chan c).seq.laser.lit = true) : goDark c (endPhase c s) =
      darkWith c (b.litFor (s.chan c).seq.laser (s.now - (s.chan c).seq.phaseStart) :: rest) s := by
  rw [goDark_eq, endPhase_eq, phaseEnded_front hq ha hl, State.setChan_chan, setChan_setChan, State.setChan_supply,
    State.setChan_other]
  rfl

/-- Light absent while the front burst is lit and has begun (R89). -/
theorem lightAbsent_front (hq : (s.chan c).queue = b :: rest) (ha : (s.chan c).seq.active = .front)
    (hl : (s.chan c).seq.laser.lit = true)
    (hd : EndsAbsent (s.chan c).seq.laser s.now (s.now - (s.chan c).seq.phaseStart) b d v) :
    lightAbsent c s = enterFault b.head .lightAbsent (completeFront c v (darkWith c (d :: rest) s)) := by
  unfold lightAbsent
  dsimp only
  rw [goDark_front hq ha hl, endPhase_chan, phaseEnded_front hq ha hl, Channel.activeBurst]
  dsimp only
  rw [ha]
  dsimp only [List.head?_cons]
  have hstate : ∀ k, b.state = k → (b.litFor (s.chan c).seq.laser (s.now - (s.chan c).seq.phaseStart)).state = k :=
    fun _ hs => hs
  obtain ⟨hs | hs, rfl, rfl⟩ | ⟨hs, rfl⟩ | ⟨hs, rfl, rfl⟩ := hd
  · rw [hstate _ hs]
    rfl
  · rw [hstate _ hs]
    rfl
  · rw [hstate _ hs]
    rfl
  · rw [hstate _ hs]
    dsimp only
    rw [darkWith_modFront]
    rfl

/-- A BARRED front burst whose tail is darkened is left to its head's fault (R89, R111). -/
theorem lightAbsent_barred {r : Reason} (hq : (s.chan c).queue = b :: rest) (ha : (s.chan c).seq.active = .front)
    (hl : (s.chan c).seq.laser = .tail) (hs : b.state = .barred r) :
    lightAbsent c s = enterFault b.head .lightAbsent
      (darkWith c (b.litFor .tail (s.now - (s.chan c).seq.phaseStart) :: rest) s) := by
  unfold lightAbsent
  dsimp only
  rw [goDark_front hq ha (by rw [hl]; rfl), endPhase_chan, phaseEnded_front hq ha (by rw [hl]; rfl), Channel.activeBurst]
  dsimp only
  rw [ha, hl]
  dsimp only [List.head?_cons]
  rw [show (b.litFor .tail (s.now - (s.chan c).seq.phaseStart)).state = .barred r from hs]
  rfl

/-- A detached tail that is darkened is charged to its head (R89). -/
theorem lightAbsent_detached (ha : (s.chan c).seq.active = .detached b) (hl : (s.chan c).seq.laser = .tail) :
    lightAbsent c s = enterFault b.head .lightAbsent
      (charge b.head (heatOf (b.litFor .tail (s.now - (s.chan c).seq.phaseStart)).acc) (darkWith c (s.chan c).queue s)) := by
  have hend : (s.chan c).phaseEnded s.now = { s.chan c with seq := { (s.chan c).seq with
      phaseStart := s.now, active := .detached (b.litFor .tail (s.now - (s.chan c).seq.phaseStart)) } } := by
    unfold Channel.phaseEnded
    rw [ha]
    dsimp only
    rw [litUpTo_lit (by rw [hl]; rfl), hl]
  have hdark : goDark c (endPhase c s) = darkWith c (s.chan c).queue s := by
    rw [goDark_eq, endPhase_eq, hend, State.setChan_chan, setChan_setChan, State.setChan_supply, State.setChan_other]
    rfl
  unfold lightAbsent
  dsimp only
  rw [hdark, endPhase_chan, hend, Channel.activeBurst]
  rfl

/-! ## What any fault leaves -/

theorem chargeFlushed_states (h k : Fin 24) (s : State) : (chargeFlushed h s).heads[k].state = s.heads[k].state := by
  have hfront : ∀ c : Chan, (chargeFront c s).heads[k].state = s.heads[k].state := by
    intro c
    rw [chargeFront_eq]
    cases s.front c with
    | none => rfl
    | some b => exact (charge_sameButHeat ..).state
  unfold chargeFlushed chargeEnded
  dsimp only
  split
  · split
    · rfl
    · exact hfront _
  · rfl

/-- A head that has entered FAULT, and its waiting bursts (R111). -/
theorem enterFault_fault (hstate : w.heads[h].state = .ready ∨ w.heads[h].state = .parked) (k : FaultCause) :
    (enterFault h k w).heads[h].state = .fault k ∧
      ∀ r ∈ ((enterFault h k w).chan w.heads[h].channel).queue, r.head = h → r.state.unlit = false := by
  obtain ⟨c, hc⟩ : ∃ c, w.heads[h].channel = c := ⟨_, rfl⟩
  have hstates := chargeFlushed_states h h (w.setHead h { w.heads[h] with state := .fault k })
  rw [State.setHead_heads, heads_set_same] at hstates
  obtain ⟨u, hu⟩ : ∃ u, chargeFlushed h (w.setHead h { w.heads[h] with state := .fault k }) = u := ⟨_, rfl⟩
  rw [hu] at hstates
  have hbias : ∀ t : State, (endBiasOn c h t).heads = t.heads ∧ ((endBiasOn c h t).chan c).queue = (t.chan c).queue := by
    intro t
    unfold endBiasOn
    dsimp only
    split
    · exact ⟨goDark_heads .., by rw [goDark_chan]⟩
    · exact ⟨rfl, rfl⟩
  rw [enterFault_eq hc hstate k hu, hc, placeNotice_heads, placeNotice_chan, (hbias _).1, (hbias _).2, State.setChan_heads,
    State.setChan_chan]
  exact ⟨hstates, flushedOf_queue _ _⟩

/-- The fault of a head leaves a DARK Sequencer that runs no burst as it is. -/
theorem DarkAs.enterFault {q : Sequencer} (hd : DarkAs q (w.chan c).seq) (h : Fin 24) (k : FaultCause)
    (hstate : w.heads[h].state = .ready ∨ w.heads[h].state = .parked) :
    DarkAs q ((enterFault h k w).chan c).seq := by
  by_cases hc : w.heads[h].channel = c
  · rw [enterFault_dark hc hstate hd.1 k rfl, placeNotice_chan, State.setChan_chan,
      flushedOf_seq (by rw [hd.1]; decide)]
    exact hd
  · rw [(SameOther.enterFault h k w).chan (fun heq => hc heq.symm)]
    exact hd

/-- A charge does not read the head's state. -/
theorem charge_setState (h : Fin 24) (n : Nat) (k : HeadState) (s : State) :
    (charge h n (s.setHead h { s.heads[h] with state := k })).heads =
        s.heads.set h { s.heads[h].heated n with state := k } ∧
      (charge h n (s.setHead h { s.heads[h] with state := k })).link = (charge h n s).link := by
  have hget : (s.setHead h { s.heads[h] with state := k }).heads[h] = { s.heads[h] with state := k } := heads_set_same ..
  have hheated : Head.heated { s.heads[h] with state := k } n = { s.heads[h].heated n with state := k } := by
    unfold Head.heated
    split <;> rfl
  refine ⟨by rw [charge_heads, hget, hheated, State.setHead_heads, Vector.set_set], ?_⟩
  by_cases hn : n = 0
  · subst hn
    rfl
  · by_cases hw : (s.heads[h].charged n).wears
    · have hw' : ((s.setHead h { s.heads[h] with state := k }).heads[h].charged n).wears := by rw [hget]; exact hw
      rw [charge_of_wears hn hw, charge_of_wears hn hw', hget]
      rfl
    · have hw' : ¬ ((s.setHead h { s.heads[h] with state := k }).heads[h].charged n).wears := by rw [hget]; exact hw
      rw [charge_of_not_wears hn hw, charge_of_not_wears hn hw']
      rfl

/-- The fault of a head whose front burst has completed on a DARK channel: what it does to the bursts behind (R111). -/
theorem enterFault_behind {tr : Tracker} (hq : (w.chan c).queue = asFront rest)
    (hg : (w.chan c).gate = rest.head?.bind (expectedGate tr)) (htr : (w.chan c).tracker = tr)
    (hl : (w.chan c).seq.laser = .dark) (hc : w.heads[h].channel = c)
    (hstate : w.heads[h].state = .ready ∨ w.heads[h].state = .parked)
    (hkept : kept = rest.filter fun r => !flushedWithHead h r) (hacc : ∀ r ∈ rest.head?, r.acc = 0) (k : FaultCause) :
    enterFault h k w = placeNotice (.headFault h c k w.heads[h].strikes (rest.length - kept.length))
      ((w.setHead h { w.heads[h] with state := .fault k }).setChan c { w.chan c with
        queue := asFront kept, gate := kept.head?.bind (expectedGate tr) }) := by
  obtain ⟨hflushed, hcount⟩ := flushedOf_asFront hq hg htr (by rw [hl]; decide) hkept
  have hcharge : chargeFlushed h (w.setHead h { w.heads[h] with state := .fault k }) =
      w.setHead h { w.heads[h] with state := .fault k } := by
    refine chargeFlushed_none (c := c) (by rw [State.setHead_heads, heads_set_same, ← hc]) fun r hr _ => .inr ?_
    rw [State.setHead_chan, hq, asFront_eq] at hr
    cases rest with
    | nil => cases hr
    | cons d rest =>
      cases hr
      have hsame : d.enterDecidedBar.acc = d.acc := by unfold Burst.enterDecidedBar; split <;> rfl
      rw [hsame]
      exact hacc d rfl
  rw [enterFault_dark hc hstate hl k hcharge, hflushed, hcount]

theorem filter_waits (h : Fin 24) (q : List Burst) :
    q.filter (fun r => !(r.head == h && waitsToBeLit r.state)) = q.filter fun r => !flushedWithHead h r :=
  congrArg (q.filter ·) (funext fun r => by rw [waitsToBeLit_eq]; rfl)

/-- The head of a completed burst, but for its state. -/
theorem HeadCompleted.setState {old r : Head} (hd : HeadCompleted d v old r) (k : HeadState) :
    HeadCompleted d v old { { r with state := k } with state := old.state } :=
  ⟨hd.heat, hd.strikes, hd.sampled, hd.counted, rfl, hd.calibration⟩

/-- The completion and the fault that the absence of light brings to a lit burst, on the head's own channel (R89, R111). -/
theorem lightAbsent_completed (hdone : Completes c d v rest s w) (hdark : (w.chan c).seq.laser = .dark)
    (hhead : d.head = h) (hc : s.heads[h].channel = c) (hstate : s.heads[h].state = .ready ∨ s.heads[h].state = .parked)
    (hkept : kept = rest.filter (fun r => !(r.head == h && waitsToBeLit r.state)))
    (hacc : ∀ r ∈ rest.head?, r.acc = 0) (ht : t = enterFault h .lightAbsent w) :
    (t.chan c).queue = asFront kept ∧ (t.chan c).gate = kept.head?.bind (expectedGate (s.chan c).tracker) ∧
      HeadCompleted d v s.heads[h] { t.heads[h] with state := s.heads[h].state } ∧ SameHeadsBut h s t ∧ SameOther c s t ∧
      SameLines (s.chan c) (t.chan c) ∧
      t.link = (placeNotice (.headFault h c .lightAbsent t.heads[h].strikes (rest.length - kept.length))
        (completionNoted (s.chan c).config.reportOk d v s)).link ∧ t.supply = w.supply ∧
      (t.chan c).seq = (w.chan c).seq := by
  subst hhead
  rw [enterFault_behind hdone.queue hdone.gate hdone.lines.tracker hdark
    (hdone.head.calibration.1.trans hc) (by rw [hdone.head.state]; exact hstate) (hkept.trans (filter_waits ..)) hacc] at ht
  obtain ⟨u, hu⟩ : ∃ u, u = (w.setHead d.head { w.heads[d.head] with state := .fault .lightAbsent }).setChan c { w.chan c with
    queue := asFront kept, gate := kept.head?.bind (expectedGate (s.chan c).tracker) } := ⟨_, rfl⟩
  rw [← hu] at ht
  have hchan : t.chan c = { w.chan c with
      queue := asFront kept, gate := kept.head?.bind (expectedGate (s.chan c).tracker) } := by
    rw [ht, placeNotice_chan, hu, State.setChan_chan]
  have hheads : t.heads = w.heads.set d.head { w.heads[d.head] with state := .fault .lightAbsent } := by
    rw [ht, placeNotice_heads, hu, State.setChan_heads, State.setHead_heads]
  have hget : t.heads[d.head] = { w.heads[d.head] with state := .fault .lightAbsent } := by rw [hheads, heads_set_same]
  refine ⟨by rw [hchan], by rw [hchan], ?_, fun k hk => ?_, ?_, ?_, ?_, ?_, by rw [hchan]⟩
  · rw [hget]
    exact hdone.head.setState _
  · rw [hheads, heads_set_ne _ _ _ _ hk, hdone.heads k hk]
  · rw [SameOther, ht, placeNotice_chan, hu, State.setChan_other, State.setHead_chan]
    exact hdone.other
  · rw [hchan]
    exact hdone.lines.trans ⟨rfl, rfl, rfl, rfl, rfl, rfl, rfl, rfl⟩
  · rw [hget, ht, placeNotice_link, hu, State.setChan_link, State.setHead_link, hdone.link]
    rfl
  · rw [ht, placeNotice_supply, hu, State.setChan_supply]
    rfl

/-- Light absent while a burst that has begun is lit: it completes on a DARK laser, and then its head's fault follows (R89). -/
theorem lightAbsent_ends (hq : (s.chan c).queue = b :: rest) (ha : (s.chan c).seq.active = .front)
    (hlit : (s.chan c).seq.laser.lit = true)
    (hd : EndsAbsent (s.chan c).seq.laser s.now (s.now - (s.chan c).seq.phaseStart) b d v) :
    ∃ w : State, Completes c d v rest s w ∧ w.supply = supplyAfter s.supply (s.chan c.other).seq.committed ∧
      DarkAs ((s.chan c).seq.darkAt s.now) (w.chan c).seq ∧ lightAbsent c s = enterFault b.head .lightAbsent w ∧
      d.head = b.head := by
  obtain ⟨hdone, hseq, hsupply⟩ := completeFront_completes (v := v) (darkWith_on c (d :: rest) s) (by rw [darkWith_chan])
  rw [darkWith_chan] at hseq
  refine ⟨_, hdone, hsupply.trans (darkWith_supply ..), ?_, lightAbsent_front hq ha hlit hd, ?_⟩
  · rw [hseq]
    exact ⟨rfl, rfl, rfl, rfl⟩
  · obtain ⟨-, -, rfl⟩ | ⟨-, rfl⟩ | ⟨-, -, rfl⟩ := hd <;> rfl

/-- The deadline has come for a lit laser. -/
theorem exec_lightDeadline_due {e : Nat} (hh : s.held = false) (he : (s.chan c).seq.light = .awaiting e) (hle : e ≤ s.now)
    (hlit : (s.chan c).seq.laser.lit = true) :
    exec (.lightDeadline c) s = .next (atOnce c (lightAbsent c) s).settled := by
  rw [exec_lightDeadline hh, if_pos]
  unfold lightDue
  rw [he]
  simp [hlit, hle]

/-- Nothing follows at once on a DARK channel with no close due. -/
theorem atOnce_dark {f : State → State} (hl : ((f s).chan c).seq.laser = .dark)
    (hclose : closeDue ((f s).chan c) (f s).now = false) : atOnce c f s = f s :=
  atOnce_still (tailRuns_of_laser (by rw [hl]; decide)) hclose

/-- A head's fault on a darkened channel: `u` is the state with the heat charged and the head in FAULT, and `y` the channel that the
flush leaves (R89, R111). -/
def TailFault (c : Chan) (h : Fin 24) (units flushed : Nat) (q : List Burst) (g : Option GateTime) (s : State) : Prop :=
  ∃ (u : State) (y : Channel), lightAbsent c s =
      placeNotice (.headFault h c .lightAbsent s.heads[h].strikes flushed) (u.setChan c y) ∧
    y = { s.chan c with queue := q, gate := g, seq := (s.chan c).seq.darkAt s.now } ∧
    u.heads = s.heads.set h { s.heads[h].heated units with state := .fault .lightAbsent } ∧
    u.link = (charge h units s).link ∧ u.supply = supplyAfter s.supply (s.chan c.other).seq.committed ∧
    SameOther c s u ∧ closeDue y s.now = false

section Tail

variable {q : List Burst} {g : Option GateTime} {flushed units : Nat}

theorem flushedWithHead_eq {r : Burst} (hr : r.head = h) (hu : r.state.unlit = true) : flushedWithHead h r = true := by
  unfold flushedWithHead
  rw [hr, hu]
  simp

theorem lightAbsent_barred_fault {r : Reason} (hq : (s.chan c).queue = b :: rest) (ha : (s.chan c).seq.active = .front)
    (hl : (s.chan c).seq.laser = .tail) (hs : b.state = .barred r) (hc : s.heads[h].channel = c)
    (hstate : s.heads[h].state = .ready ∨ s.heads[h].state = .parked) (hb : b.head = h)
    (hkept : kept = rest.filter fun r => !flushedWithHead h r) (hflushed : flushed = rest.length - kept.length + 1)
    (hwait : waitsInTurn (s.chan c) s.now kept)
    (hunits : units = heatOf (b.litFor .tail (s.now - (s.chan c).seq.phaseStart)).acc) :
    TailFault c h units flushed (asFront kept) (kept.head?.bind (expectedGate (s.chan c).tracker)) s := by
  obtain ⟨d, hd⟩ : ∃ d, d = b.litFor .tail (s.now - (s.chan c).seq.phaseStart) := ⟨_, rfl⟩
  have hout : flushedWithHead h d = true := flushedWithHead_eq (by rw [hd]; exact hb) (by
    rw [hd, show (b.litFor .tail (s.now - (s.chan c).seq.phaseStart)).state = .barred r from hs]; rfl)
  have hdh : d.head = h := by rw [hd]; exact hb
  have hheat : units = heatOf d.acc := by rw [hunits, hd]
  obtain ⟨w, hw⟩ : ∃ w, w = darkWith c (d :: rest) s := ⟨_, rfl⟩
  have hon : OnChannel c s w := hw ▸ darkWith_on ..
  have hchan : w.chan c = { s.chan c with queue := d :: rest, seq := (s.chan c).seq.darkAt s.now } := by
    rw [hw, darkWith_chan]
    rfl
  have hlaser : (w.chan c).seq.laser = .dark := by rw [hchan]; rfl
  have hflush : (w.chan c).flushedOf (flushedWithHead h) = { s.chan c with
      queue := asFront kept, gate := kept.head?.bind (expectedGate (s.chan c).tracker), seq := (s.chan c).seq.darkAt s.now } := by
    rw [flushedOf_front (by rw [hchan]) hout, frontTail_of_laser (by rw [hlaser]; decide), hchan, hkept]
    rfl
  have hcharge : chargeFlushed h (w.setHead h { w.heads[h] with state := .fault .lightAbsent }) =
      charge h units (w.setHead h { w.heads[h] with state := .fault .lightAbsent }) := by
    rw [chargeFlushed_front (c := c) (b := d) (rest := rest)
      (by rw [State.setHead_heads, heads_set_same, hon.heads]; exact hc)
      (by rw [State.setHead_chan, hchan]) hout (by rw [State.setHead_chan]; exact frontTail_of_laser (by rw [hlaser]; decide)),
      hdh, hheat]
  obtain ⟨huheads, hulink⟩ := charge_setState h units (.fault .lightAbsent) w
  have habsent := lightAbsent_barred hq ha hl hs
  rw [← hd, hb, ← hw, enterFault_dark (by rw [hon.heads]; exact hc) (by rw [hon.heads]; exact hstate) hlaser _ hcharge,
    hflush] at habsent
  refine ⟨_, _, ?_, rfl, huheads.trans (by rw [hon.heads]), hulink.trans (charge_congr _ _ hon.heads hon.link).2, ?_, ?_,
    hwait.closeDue rfl rfl rfl⟩
  · rw [habsent, hon.heads]
    congr 2
    rw [hchan, hflushed, hkept, ← countP_add_kept, List.countP_cons, hout]
    rfl
  · rw [charge_supply, State.setHead_supply, hw, darkWith_supply]
  · rw [SameOther, charge_chan, State.setHead_chan]
    exact hon.other

/-- The fault behind a detached tail, when the flush leaves the queue `q` and the gate time `g`. -/
theorem lightAbsent_detached_fault (ha : (s.chan c).seq.active = .detached b) (hl : (s.chan c).seq.laser = .tail)
    (hc : s.heads[h].channel = c) (hstate : s.heads[h].state = .ready ∨ s.heads[h].state = .parked) (hb : b.head = h)
    (hunits : units = heatOf (b.litFor .tail (s.now - (s.chan c).seq.phaseStart)).acc)
    (hflush : ∀ x : Channel, x.queue = (s.chan c).queue → x.gate = (s.chan c).gate → x.tracker = (s.chan c).tracker →
      x.seq.laser = .dark → x.flushedOf (flushedWithHead h) = { x with queue := q, gate := g })
    (hcount : flushed = (s.chan c).queue.countP (flushedWithHead h))
    (hacc : ∀ r ∈ (s.chan c).queue.head?, r.acc = 0)
    (hclose : closeDue { s.chan c with queue := q, gate := g, seq := (s.chan c).seq.darkAt s.now } s.now = false) :
    TailFault c h units flushed q g s := by
  have hchan := darkWith_chan c (s.chan c).queue s
  obtain ⟨w, hw⟩ : ∃ w, w = charge h units (darkWith c (s.chan c).queue s) := ⟨_, rfl⟩
  have hwchan : w.chan c = { s.chan c with seq := (s.chan c).seq.darkAt s.now } := by
    rw [hw, charge_chan, hchan]
    rfl
  have hwheads : w.heads = s.heads.set h (s.heads[h].heated units) := by
    rw [hw, charge_heads, (darkWith_on ..).heads]
  have hwhead : w.heads[h] = s.heads[h].heated units := by rw [hwheads, heads_set_same]
  have hkeeps : (s.heads[h].heated units).strikes = s.heads[h].strikes ∧ (s.heads[h].heated units).state = s.heads[h].state ∧
      (s.heads[h].heated units).channel = s.heads[h].channel := by
    unfold Head.heated
    split <;> exact ⟨rfl, rfl, rfl⟩
  have hcharge : chargeFlushed h (w.setHead h { w.heads[h] with state := .fault .lightAbsent }) =
      w.setHead h { w.heads[h] with state := .fault .lightAbsent } :=
    chargeFlushed_none (c := c) (by rw [State.setHead_heads, heads_set_same, hwhead]; exact hkeeps.2.2.trans hc) fun r hr _ =>
      .inr (hacc r (by rw [State.setHead_chan, hwchan] at hr; exact hr))
  have habsent := lightAbsent_detached ha hl
  rw [← hunits, hb, ← hw, enterFault_dark (c := c) (by rw [hwhead]; exact hkeeps.2.2.trans hc)
    (by rw [hwhead, hkeeps.2.1]; exact hstate) (by rw [hwchan]; rfl) _ hcharge,
    hflush _ (by rw [hwchan]) (by rw [hwchan]) (by rw [hwchan]) (by rw [hwchan]; rfl), hwchan] at habsent
  refine ⟨w.setHead h { w.heads[h] with state := .fault .lightAbsent }, _, ?_, rfl, ?_, ?_, ?_, ?_, hclose⟩
  · rw [habsent, hwhead, hkeeps.1, hcount]
  · rw [State.setHead_heads, hwhead, hwheads, Vector.set_set]
  · rw [State.setHead_link, hw]
    exact (charge_congr _ _ (darkWith_on ..).heads (darkWith_on ..).link).2
  · rw [State.setHead_supply, hw, charge_supply, darkWith_supply]
  · rw [SameOther, State.setHead_chan, hw, charge_chan]
    exact (darkWith_on ..).other

end Tail

/-- Settles O57: the deadline that brings nothing, the one taken after a flush of the whole queue, the lit burst that ends, and the
tail that is darkened. -/
theorem lightDeadlineFaultsTheHead : Obligations.LightDeadlineFaultsTheHead := by
  intro c s x hh hx
  subst hx
  have hexec := exec_lightDeadline (c := c) hh
  refine ⟨fun howed hlight => ?_, fun h m d hspan hlight hl hq hc hstate => ?_, fun e he hle =>
    ⟨fun b d rest v hlit ha hq hd hstate => ?_, fun b h rest kept q g flushed units hl hc hstate hb hkept hr hcase hunits => ?_⟩⟩
  · have hnot : lightDue (s.chan c).seq s.now = false := by
      unfold lightDue
      obtain h | h | ⟨e, h, hlt⟩ := hlight <;> rw [h]
      simp [hlt]
    have hnone : owesAbsent (s.chan c).seq = none := by
      unfold owesAbsent
      split
      · exact absurd ‹_› (howed _ _ _)
      all_goals rfl
    rw [hexec, if_neg (by rw [hnot]; decide), owedAbsent, hnone]
  · have hnot : lightDue (s.chan c).seq s.now = false := by unfold lightDue; rw [hlight]
    have howes : owesAbsent (s.chan c).seq = some h := by unfold owesAbsent; rw [hspan]
    rw [hexec, if_neg (by rw [hnot]; decide), owedAbsent, howes]
    dsimp only
    obtain ⟨w, hw⟩ : ∃ w, w = s.setChan c { s.chan c with seq := { (s.chan c).seq with darkened := none } } := ⟨_, rfl⟩
    have hdrop : dropSpan c s = w := hw.symm
    have hchan : w.chan c = { s.chan c with seq := { (s.chan c).seq with darkened := none } } := by rw [hw, State.setChan_chan]
    have hheads : w.heads = s.heads := by rw [hw, State.setChan_heads]
    have hqueue : (w.chan c).queue = [] := by rw [hchan]; exact hq
    have hfault : enterFault h .lightAbsent w = placeNotice (.headFault h c .lightAbsent s.heads[h].strikes 0)
        (w.setHead h { s.heads[h] with state := .fault .lightAbsent }) := by
      have hcharge : chargeFlushed h (w.setHead h { w.heads[h] with state := .fault .lightAbsent }) =
          w.setHead h { w.heads[h] with state := .fault .lightAbsent } :=
        chargeFlushed_none (c := c) (by rw [State.setHead_heads, heads_set_same, hheads]; exact hc) (by
          rw [State.setHead_chan, hqueue]; exact fun _ hr => nomatch hr)
      have hself : (w.chan c).flushedOf (flushedWithHead h) = w.chan c := by
        rw [flushedOf_kept (by rw [hqueue]; exact fun _ hr => nomatch hr), hqueue, List.filter_nil, ← hqueue]
      have hset := setChan_self (w.setHead h { s.heads[h] with state := .fault .lightAbsent }) c
      rw [State.setHead_chan] at hset
      rw [enterFault_dark (c := c) (by rw [hheads]; exact hc) (by rw [hheads]; exact hstate) (by rw [hchan]; exact hl) _ hcharge,
        hself, hqueue, hheads, hset]
      rfl
    have htchan : (enterFault h .lightAbsent (dropSpan c s)).chan c = w.chan c := by
      rw [hdrop, hfault, placeNotice_chan, State.setHead_chan]
    rw [atOnce_dark (by rw [htchan, hchan]; exact hl) (by rw [htchan]; exact closeDue_empty hqueue _), hdrop, hfault, hw]
  · obtain ⟨w, hdone, hsupply, hdark, habsent, hhead⟩ := lightAbsent_ends hq ha hlit hd
    have hsame : w.heads[b.head].state = s.heads[b.head].state ∧ w.heads[b.head].channel = s.heads[b.head].channel := by
      have hstate := hdone.head.state
      have hchannel := hdone.head.calibration.1
      simp only [hhead] at hstate hchannel
      exact ⟨hstate, hchannel⟩
    have hwstate : w.heads[b.head].state = .ready ∨ w.heads[b.head].state = .parked := by rw [hsame.1]; exact hstate
    obtain ⟨hfault, hwaits⟩ := enterFault_fault hwstate .lightAbsent
    have hfdark := hdark.enterFault b.head .lightAbsent hwstate
    rw [← habsent] at hfault hwaits hfdark
    rw [hsame.2] at hwaits
    have hfollows := Follows.atOnce (c := c) (lightAbsent c) s
    have hcalm := Calm.atOnce (c := c) (Calm.lightAbsent c s)
    have htdark := hfdark.runAtOnce (if dueClose c (lightAbsent c s) = dueClose c s then dueClose c s else none)
    refine ⟨_, exec_lightDeadline_due hh he hle hlit, (hfollows.states b.head).trans hfault, fun r hr hrhead => ?_, htdark.1,
      htdark.2.2.1, htdark.2.2.2, hcalm.tables, hcalm.requests, fun kept hc hkept hfront hwait => ?_⟩
    · rw [waitsToBeLit_eq]
      by_cases hc : s.heads[b.head].channel = c
      · rw [hc] at hr hwaits
        by_contra hunlit
        obtain ⟨k, hk, hkhead, hku⟩ := hfollows.unlit r hr (by simpa using hunlit)
        rw [hwaits k hk (hkhead.trans hrhead)] at hku
        cases hku
      · have hchan := (SameOther.runAtOnce c (if dueClose c (lightAbsent c s) = dueClose c s then dueClose c s else none)
          (lightAbsent c s)).chan hc
        exact hwaits r (hchan ▸ hr) hrhead
    · obtain ⟨hqueue, hgate, hcompleted, hheads, hother, hlines, hlink, hsup, hseq⟩ :=
        lightAbsent_completed hdone hdark.1 hhead hc hstate hkept (fun r hr => (hfront r hr).2) habsent
      rw [atOnce_dark hfdark.1 (by
        rw [(Calm.lightAbsent c s).tables.now]; exact hwait.closeDue hqueue hgate hlines.config)]
      exact ⟨hqueue, hgate, hcompleted, hheads, hother, hlines, hlink, hsup.trans hsupply⟩
  · rw [exec_lightDeadline_due hh he hle (by rw [hl]; rfl)]
    obtain ⟨u, y, hfault, hy, hheads, hlink, hsupply, hother, hclose⟩ :
        ∃ (u : State) (y : Channel), lightAbsent c s =
          placeNotice (.headFault h c .lightAbsent s.heads[h].strikes flushed) (u.setChan c y) ∧
          y = { s.chan c with queue := q, gate := g, seq := (s.chan c).seq.darkAt s.now } ∧
          u.heads = s.heads.set h { s.heads[h].heated units with state := .fault .lightAbsent } ∧
          u.link = (charge h units s).link ∧ u.supply = supplyAfter s.supply (s.chan c.other).seq.committed ∧
          SameOther c s u ∧ closeDue y s.now = false := by
      obtain ⟨ha, hq, ⟨r, hs⟩, hflushed, hwait, rfl, rfl⟩ | ⟨ha, hq, ⟨r, hfront, hhead⟩, hflushed, hwait, rfl, rfl⟩ |
        ⟨ha, hq, hother, hflushed, rfl, rfl⟩ := hcase
      · exact lightAbsent_barred_fault hq ha hl hs hc hstate hb (hkept.trans (filter_waits ..)) hflushed hwait hunits
      · obtain ⟨left, rfl⟩ : ∃ left, rest = r :: left := by
          cases rest with
          | nil => cases hfront
          | cons k left => cases hfront; exact ⟨left, rfl⟩
        have hout : flushedWithHead h r = true := flushedWithHead_eq hhead (by rw [(hr r hfront).1]; rfl)
        have hleft : kept = left.filter fun r => !flushedWithHead h r := by
          rw [hkept, filter_waits, List.filter_cons_of_neg (by simp [hout])]
        refine lightAbsent_detached_fault ha hl hc hstate hb hunits (fun x hxq hxg hxt hxl => ?_) ?_ ?_ (hwait.closeDue rfl rfl rfl)
        · rw [flushedOf_front (hxq.trans hq) hout, frontTail_of_laser (by rw [hxl]; decide), hxt, hleft]
          rfl
        · rw [hflushed, hkept, filter_waits, ← countP_add_kept, hq]
        · rw [hq]
          exact fun k hk => (hr k hk).2
      · have hnot : ∀ k ∈ rest.head?, flushedWithHead h k = false := fun k hk => by
          unfold flushedWithHead
          simp [hother k hk]
        refine lightAbsent_detached_fault ha hl hc hstate hb hunits (fun x hxq hxg hxt hxl => ?_) ?_ ?_ ?_
        · rw [flushedOf_kept (by rw [hxq, hq]; exact hnot), hxq, hq, hkept, filter_waits, ← hxg]
        · rw [hflushed, hkept, filter_waits, ← countP_add_kept, hq]
        · rw [hq]
          exact fun k hk => (hr k hk).2
        · rw [hkept, filter_waits]
          cases rest with
          | nil => exact closeDue_empty rfl _
          | cons k left =>
            refine closeDue_of_state (b := k) ?_ (.inl (hr k rfl).1)
            dsimp only
            rw [List.filter_cons_of_pos (by simp [hnot k rfl])]
            rfl
    have hchan : (lightAbsent c s).chan c = y := by rw [hfault, placeNotice_chan, State.setChan_chan]
    have hnow : (lightAbsent c s).now = s.now := (Calm.lightAbsent c s).tables.now
    have hdark : y.seq.laser = .dark ∧ y.seq.selected = none ∧ y.seq.committed = 0 := by rw [hy]; exact ⟨rfl, rfl, rfl⟩
    refine ⟨lightAbsent c s, by rw [atOnce_dark (by rw [hchan]; exact hdark.1) (by rw [hchan, hnow]; exact hclose)], ?_⟩
    rw [hchan]
    refine ⟨by rw [hy], by rw [hy], hdark.1, hdark.2.1, hdark.2.2, ?_, ?_, ?_, ?_, ?_, (Calm.lightAbsent c s).tables⟩
    · rw [hfault, placeNotice_heads, State.setChan_heads, hheads]
    · rw [hfault, placeNotice_link, State.setChan_link, hlink, placeNotice_link]
    · rw [hfault, placeNotice_supply, State.setChan_supply, hsupply]
    · rw [SameOther, hfault, placeNotice_chan, State.setChan_other]
      exact hother
    · rw [hy]
      exact ⟨rfl, rfl, rfl, rfl, rfl, rfl, rfl, rfl⟩

end Sys2Proof.Machine
end

section
/-! PROOFS. PARK (R103): the flush of a head's waiting bursts, and the end of a BIAS on the head. -/

namespace Sys2Proof.Machine

variable {s t : State} {c : Chan} {x : Channel} {h : Fin 24}

/-- A head that has been parked: its waiting bursts flushed from the queue of its channel `c`, and no BIAS on it (R86, R103). -/
def parkHead (h : Fin 24) (c : Chan) (s : State) : State :=
  endBiasOn c h ((s.setHead h { s.heads[h] with state := .parked }).setChan c ((s.chan c).flushedOf (flushedWithHead h)))

theorem atOnce_congr {f g : State → State} (hf : f s = g s) : atOnce c f s = atOnce c g s := by
  unfold atOnce
  dsimp only
  rw [hf]

theorem servePark_ready {b : Byte} (hb : b.toNat = h.val) (hc : s.heads[h].channel = c) (hs : s.heads[h].state = .ready) :
    servePark (.fits b) s =
      (if (s.chan c).queue.head?.any (flushedWithHead h) then atOnce c (parkHead h c) s else parkHead h c s,
        .headState .ok .parked ((s.chan c).queue.countP (flushedWithHead h))) := by
  subst hc
  have hflush : flushHead h (s.setHead h { s.heads[h] with state := .parked }) =
      ((s.setHead h { s.heads[h] with state := .parked }).setChan s.heads[h].channel
          ((s.chan s.heads[h].channel).flushedOf (flushedWithHead h)),
        (s.chan s.heads[h].channel).queue.countP (flushedWithHead h)) := by
    rw [flushHead_eq (c := s.heads[h].channel) (by rw [State.setHead_heads, heads_set_same]), State.setHead_chan]
  have hact : endBiasOn s.heads[h].channel h (flushHead h (s.setHead h { s.heads[h] with state := .parked })).1 =
      parkHead h s.heads[h].channel s := by
    rw [hflush]
    rfl
  rw [servePark, withHeadState_fits hb]
  dsimp only
  rw [if_pos hs, hact, hflush, atOnce_congr
    (f := fun s' => endBiasOn s.heads[h].channel h (flushHead h (s'.setHead h { s.heads[h] with state := .parked })).1) hact]
  rfl

theorem parkHead_heads (h : Fin 24) (c : Chan) (s : State) :
    (parkHead h c s).heads = s.heads.set h { s.heads[h] with state := .parked } := by
  unfold parkHead endBiasOn
  dsimp only
  split
  · rw [goDark_heads, State.setChan_heads, State.setHead_heads]
  · rw [State.setChan_heads, State.setHead_heads]

theorem parkHead_link (h : Fin 24) (c : Chan) (s : State) : (parkHead h c s).link = s.link := by
  unfold parkHead endBiasOn
  dsimp only
  split
  · rw [goDark_link, State.setChan_link, State.setHead_link]
  · rw [State.setChan_link, State.setHead_link]

/-- A BIAS on the parked head ends. -/
theorem parkHead_bias (hl : (s.chan c).seq.laser = .bias) (hs : (s.chan c).seq.selected = some h) :
    (parkHead h c s).chan c = { (s.chan c).flushedOf (flushedWithHead h) with seq := (s.chan c).seq.dark } ∧
      (parkHead h c s).supply = supplyAfter s.supply (s.chan c.other).seq.committed := by
  have hseq : ((s.chan c).flushedOf (flushedWithHead h)).seq = (s.chan c).seq := flushedOf_seq (by rw [hl]; decide) _
  unfold parkHead
  rw [endBiasOn_bias (by rw [State.setChan_chan, hseq, hl]) (by rw [State.setChan_chan, hseq, hs]), goDark_eq]
  refine ⟨?_, ?_⟩
  · rw [setSupply_chan, State.setChan_chan, State.setChan_chan, hseq]
  · rw [setSupply_supply, State.setChan_other, State.setChan_supply, State.setHead_chan, State.setHead_supply]

/-- A flush changes neither the laser state nor the selected head. -/
theorem flushedOf_rest (x : Channel) (out : Burst → Bool) :
    (x.flushedOf out).seq.laser = x.seq.laser ∧ (x.flushedOf out).seq.selected = x.seq.selected := by
  have hwithout : ∀ y : Channel, (y.without out).seq = y.seq := fun y => by
    unfold Channel.without
    dsimp only
    split <;> rfl
  unfold Channel.flushedOf
  split
  · rw [hwithout]
    exact ⟨(released_queue x).2.2.2.1, (released_queue x).2.2.2.2.1⟩
  · rw [hwithout]
    exact ⟨rfl, rfl⟩

/-- A Sequencer that holds no BIAS on the parked head keeps its state, but for a tail it may be left with. -/
theorem parkHead_kept (hb : (s.chan c).seq.laser ≠ .bias ∨ (s.chan c).seq.selected ≠ some h) :
    (parkHead h c s).chan c = (s.chan c).flushedOf (flushedWithHead h) ∧ (parkHead h c s).supply = s.supply := by
  unfold parkHead
  rw [endBiasOn_still (by rw [State.setChan_chan, (flushedOf_rest _ _).1, (flushedOf_rest _ _).2]; exact hb), State.setChan_chan,
    State.setChan_supply, State.setHead_supply]
  exact ⟨rfl, rfl⟩

theorem parkHead_chan (h : Fin 24) (c : Chan) (s : State) :
    ((parkHead h c s).chan c).queue = ((s.chan c).flushedOf (flushedWithHead h)).queue ∧
      ((parkHead h c s).chan c).gate = ((s.chan c).flushedOf (flushedWithHead h)).gate ∧
      SameLines (s.chan c) ((parkHead h c s).chan c) := by
  have hlines := flushedOf_lines (s.chan c) (flushedWithHead h)
  by_cases hb : (s.chan c).seq.laser = .bias ∧ (s.chan c).seq.selected = some h
  · rw [(parkHead_bias hb.1 hb.2).1]
    exact ⟨rfl, rfl, hlines.trans ⟨rfl, rfl, rfl, rfl, rfl, rfl, rfl, rfl⟩⟩
  · rw [(parkHead_kept (not_and_or.1 hb)).1]
    exact ⟨rfl, rfl, hlines⟩

theorem SameOther.parkHead (h : Fin 24) (c : Chan) (s : State) : SameOther c s (parkHead h c s) := by
  have hset : SameOther c s ((s.setHead h { s.heads[h] with state := .parked }).setChan c
      ((s.chan c).flushedOf (flushedWithHead h))) := by
    rw [SameOther, State.setChan_other, State.setHead_chan]
  unfold Machine.parkHead Machine.endBiasOn
  dsimp only
  split
  · exact hset.trans (.goDark ..)
  · exact hset

/-- The bursts in front of a queue in which the bar of none is decided. -/
theorem asFront_undecided {q : List Burst} (hq : ∀ d ∈ q.head?, d.decidedBar = none) : asFront q = q := by
  cases q with
  | nil => rfl
  | cons d rest =>
    rw [asFront, hq d rfl]
    split <;> simp_all

section Flushed

variable {out : Burst → Bool} (hrest : ∀ d ∈ x.queue.tail, d.state = .queued ∧ d.decidedBar = none)
include hrest

/-- A flush behind which the bursts wait in turn. -/
theorem flushedOf_waiting : (x.flushedOf out).queue = x.queue.filter (fun d => !out d) ∧
    ((∃ d ∈ x.queue.head?, out d = true) →
      (x.flushedOf out).gate = (x.flushedOf out).queue.head?.bind (expectedGate x.tracker) ∧
      ∀ d ∈ (x.flushedOf out).queue.head?, d.state = .queued) ∧
    ((∀ d ∈ x.queue.head?, out d = false) → (x.flushedOf out).gate = x.gate) ∧
    (x.flushedOf out).seq =
      if x.queue.head?.any out = true ∧ x.frontTail = true then
        { x.seq with active := match x.queue.head? with
          | some d => .detached d
          | none => x.seq.active }
      else x.seq := by
  cases hq : x.queue with
  | nil =>
    rw [flushedOf_kept (by rw [hq]; exact fun _ h => nomatch h), hq]
    refine ⟨rfl, ?_, fun _ => rfl, ?_⟩
    · rintro ⟨d, hd, -⟩
      cases hd
    · rw [if_neg fun h => nomatch h.1]
  | cons b rest =>
    cases hout : out b with
    | false =>
      rw [flushedOf_kept (by rw [hq]; rintro d ⟨⟩; exact hout), hq]
      refine ⟨rfl, ?_, fun _ => rfl, ?_⟩
      · rintro ⟨d, ⟨⟩, hd⟩
        rw [hout] at hd
        cases hd
      · rw [if_neg fun h => by rw [List.head?_cons, Option.any_some, hout] at h; cases h.1]
    | true =>
      have hwait : ∀ d ∈ (rest.filter fun d => !out d).head?, d.state = .queued ∧ d.decidedBar = none := fun d hd =>
        hrest d (by rw [hq]; exact (List.mem_filter.1 (List.mem_of_mem_head? hd)).1)
      rw [flushedOf_front hq hout, asFront_undecided fun d hd => (hwait d hd).2]
      refine ⟨(List.filter_cons_of_neg (by simp [hout])).symm, fun _ => ⟨rfl, fun d hd => (hwait d hd).1⟩, fun h => ?_, ?_⟩
      · rw [h b rfl] at hout
        cases hout
      · simp only [List.head?_cons, Option.any_some, hout, true_and]

end Flushed

/-- Settles O35. -/
theorem parkFlushesTheWaitingBursts : Obligations.ParkFlushesTheWaitingBursts := by
  intro tag b s hidle hs
  refine ⟨fun hb => ?_, fun a => ?_, fun h c x out hb hc hx hout => ⟨fun hnot => ?_, fun hready => ?_⟩⟩
  · exact exec_unchanged (.code .fieldRange) hidle hs (by rw [serve, servePark, withHeadState_undefined hb])
  · exact exec_unchanged (.code .fieldRange) hidle hs rfl
  · exact exec_unchanged (.headState .wrongState s.heads[h].state 0) hidle hs
      (by rw [serve, servePark, withHeadState_fits hb]; dsimp only; rw [if_neg hnot]; rfl)
  · obtain rfl : out = flushedWithHead h := funext fun d => by rw [hout, waitsToBeLit_eq]; rfl
    subst hx
    have hpark := servePark_ready hb hc.symm hready
    obtain ⟨t, ht⟩ : ∃ t, t = if (s.chan c).queue.head?.any (flushedWithHead h) then atOnce c (parkHead h c) s
      else parkHead h c s := ⟨_, rfl⟩
    rw [← ht] at hpark
    have hcalm : Calm s t := by
      have := servePark_calm b s
      rwa [hpark] at this
    have hfollows : Follows c (parkHead h c s) t := by
      rw [ht]
      split
      · exact .atOnce ..
      · exact .refl ..
    have hother : SameOther c s t := by
      rw [ht]
      split
      · exact (SameOther.parkHead ..).trans (.runAtOnce ..)
      · exact .parkHead ..
    obtain ⟨hqueue, hgate, hlines⟩ := parkHead_chan h c s
    refine ⟨t, exec_request t _ hidle hcalm.kept (by rw [serve, hpark]), ?_, fun d hd hhead => ?_, hother, hcalm.tables,
      hcalm.requests, fun htail hrest => ?_⟩
    · rw [hfollows.states, parkHead_heads, heads_set_same]
    · rw [waitsToBeLit_eq]
      by_contra hu
      obtain ⟨e, he, hsame, heu⟩ := hfollows.unlit d hd (by simpa using hu)
      rw [flushedOf_queue (s.chan c) h e (hqueue ▸ he) (hsame.trans hhead)] at heu
      cases heu
    · obtain ⟨hkept, hfront, hstays, hseq⟩ := flushedOf_waiting (out := flushedWithHead h) hrest
      have hsel : (s.chan c).seq.laser = .bias → (s.chan c).seq.selected = some h →
          ((parkHead h c s).chan c).seq = (s.chan c).seq.dark := fun hl hs => by rw [(parkHead_bias hl hs).1]
      have htp : t = parkHead h c s := by
        rw [ht]
        split
        · rename_i hany
          rw [Option.any_eq_true] at hany
          refine atOnce_still ?_ ?_
          · by_cases hb : (s.chan c).seq.laser = .bias ∧ (s.chan c).seq.selected = some h
            · exact tailRuns_of_laser (by rw [hsel hb.1 hb.2]; exact fun h => nomatch h)
            · rw [(parkHead_kept (not_and_or.1 hb)).1, tailRuns, hseq]
              split <;> exact htail
          · cases hq : ((s.chan c).flushedOf (flushedWithHead h)).queue.head? with
            | none => exact closeDue_empty (hqueue.trans (List.head?_eq_none_iff.1 hq)) _
            | some d => exact closeDue_of_state (b := d) (hqueue ▸ hq) (.inl ((hfront hany).2 d hq))
        · rfl
      rw [htp, hqueue, hgate]
      refine ⟨hkept, hlines, parkHead_heads .., parkHead_link .., fun hout => (hfront hout).1, hstays, fun hl hs => ?_, fun hb => ?_⟩
      · rw [hsel hl hs]
        exact ⟨rfl, rfl, rfl, (parkHead_bias hl hs).2⟩
      · obtain ⟨hchan, hsupply⟩ := parkHead_kept hb
        rw [hchan, hseq]
        refine ⟨hsupply, fun d hd hout hl ha => ?_, fun hnot => if_neg ?_⟩
        · rw [hd, if_pos ⟨hout, frontTail_eq_true.2 ⟨hl, ha⟩⟩]
        · rintro ⟨hany, htail⟩
          obtain ⟨hl, ha⟩ := frontTail_eq_true.1 htail
          obtain ⟨d, hd, hout⟩ := (Option.any_eq_true ..).1 hany
          obtain hnot | hnot | hnot := hnot
          · exact hnot hl
          · exact hnot ha
          · rw [hnot d hd] at hout
            cases hout

end Sys2Proof.Machine
end

section
/-! PROOFS. The edges of LSENSEn (R49): the first light of a lit span (R88), and the dropout with the strike that it brings (R90,
R110, R113). -/

namespace Sys2Proof.Machine

variable {s t u w : State} {c : Chan} {x y : Channel} {b d k : Burst} {rest kept left : List Burst} {h : Fin 24} {n : Nat}

/-! ## Edges of LSENSEn -/

/-- The command for an edge of LSENSEn to a level. -/
def lightCommand (c : Chan) (level : Bool) (edge : Nat) : Instr :=
  if level then .lightAssertion c edge else .lightDeassertion c edge

theorem exec_lightCommand (hh : s.held = false) (c : Chan) (level : Bool) (edge : Nat) :
    exec (lightCommand c level edge) s = .next (State.settled (lightEdge c level (stampOf edge s)
      (if (s.chan c).lightLine.overtaken (s.chan c).config.lightFilter level (stampOf edge s) s.now then
        (recogniseLight c s).settled else s))) := by
  have hexec : exec (lightCommand c level edge) s = .next (onLight c level edge s) := by cases level <;> rfl
  rw [hexec, onLight, if_neg (by simp [hh])]
  dsimp only
  split
  · rw [onEvent_eq hh, onEvent_eq]
    exact (startNotice_held _).trans ((recogniseLight_held c s).trans hh)
  · rw [onEvent_eq hh]

theorem lightEdge_still {level : Bool} {stamp : Nat}
    (h : (((s.chan c).lightLine.moved level stamp s.now).high == level &&
      ((s.chan c).lightLine.moved level stamp s.now).due (s.chan c).config.lightFilter s.now) = false) :
    lightEdge c level stamp s =
      s.setChan c { s.chan c with lightLine := (s.chan c).lightLine.moved level stamp s.now } := by
  unfold lightEdge
  dsimp only
  rw [if_neg (by rw [h]; decide)]
  rfl

/-- The level of LSENSEn is recognised: its record, and what the level means to the Sequencer. -/
theorem recogniseLight_eq (c : Chan) (s : State) :
    recogniseLight c s =
      if (s.chan c).lightLine.high then
        lightRecognised c (s.chan c).lightLine.since (s.setChan c
          { s.chan c with lightLine := (s.chan c).lightLine.recognised (s.chan c).config.lightFilter })
      else
        lightLost c ((s.chan c).lightLine.since + (s.chan c).config.lightFilter.ticks) (s.setChan c
          { s.chan c with lightLine := (s.chan c).lightLine.recognised (s.chan c).config.lightFilter }) := rfl

theorem lightEdge_recognised {level : Bool} {stamp since : Nat}
    (h : edgeRecognised (s.chan c).lightLine (s.chan c).config.lightFilter level stamp since s.now) :
    lightEdge c level stamp s =
      if level then
        lightRecognised c since (s.setChan c { s.chan c with
          lightLine := ⟨level, since + (s.chan c).config.lightFilter.ticks, level⟩ })
      else
        lightLost c (since + (s.chan c).config.lightFilter.ticks) (s.setChan c { s.chan c with
          lightLine := ⟨level, since + (s.chan c).config.lightFilter.ticks, level⟩ }) := by
  obtain ⟨hmoved, -, hdue⟩ := h.line
  unfold lightEdge
  dsimp only
  rw [hmoved, if_pos (by simp [hdue]), setLightLine, modChan_eq, recogniseLight_eq]
  simp only [State.setChan_chan, setChan_setChan, Line.recognised]

theorem lightMeaning_calm (c : Chan) (n : Nat) (s : State) : Calm s (lightRecognised c n s) ∧ Calm s (lightLost c n s) := by
  constructor
  · unfold lightRecognised
    split
    · exact .seeLight ..
    all_goals exact .refl s
  · unfold lightLost
    split
    · exact .atOnce (.dropout ..)
    · exact .owedDropout ..

theorem recogniseLight_line (c : Chan) (s : State) :
    ((recogniseLight c s).settled.chan c).lightLine = (s.chan c).lightLine.recognised (s.chan c).config.lightFilter := by
  have hline : ((recogniseLight c s).chan c).lightLine =
      (s.chan c).lightLine.recognised (s.chan c).config.lightFilter := by
    rw [recogniseLight_eq]
    split
    · rw [((lightMeaning_calm ..).1.lines c).lightLine, State.setChan_chan]
    · rw [((lightMeaning_calm ..).2.lines c).lightLine, State.setChan_chan]
  have hsettled : ((recogniseLight c s).settled.chan c).lightLine = ((startNotice (recogniseLight c s)).chan c).lightLine := by
    rw [State.settled, driveOutputs_chan]
    rfl
  rw [hsettled, ← hline, startNotice_frame]
  cases c <;> rfl

theorem recogniseLight_tables (c : Chan) (s : State) : SameTables s (recogniseLight c s) := by
  have hset : ∀ y, SameTables s (s.setChan c y) := fun y => ⟨by constructor <;> simp, by simp, by simp⟩
  rw [recogniseLight_eq]
  split
  · exact (hset _).trans (lightMeaning_calm ..).1.tables
  · exact (hset _).trans (lightMeaning_calm ..).2.tables

/-- An edge of LSENSEn that moves nothing, or the pin alone. -/
theorem exec_lightCommand_moved (hh : s.held = false) {level : Bool} {edge : Nat} {p : Line}
    (hmoved : (s.chan c).lightLine.moved level (stampOf edge s) s.now = p)
    (hover : (s.chan c).lightLine.overtaken (s.chan c).config.lightFilter level (stampOf edge s) s.now = false)
    (hdue : (p.high == level && p.due (s.chan c).config.lightFilter s.now) = false) :
    exec (lightCommand c level edge) s = .next (State.settled (s.setChan c { s.chan c with lightLine := p })) := by
  subst hmoved
  rw [exec_lightCommand hh, if_neg (by rw [hover]; decide), lightEdge_still hdue]

/-- An edge of LSENSEn whose level is recognised at once. -/
theorem exec_lightCommand_recognised (hh : s.held = false) {level : Bool} {edge since : Nat}
    (h : edgeRecognised (s.chan c).lightLine (s.chan c).config.lightFilter level (stampOf edge s) since s.now) :
    exec (lightCommand c level edge) s = .next (State.settled (
      if level then
        lightRecognised c since (s.setChan c { s.chan c with
          lightLine := ⟨level, since + (s.chan c).config.lightFilter.ticks, level⟩ })
      else
        lightLost c (since + (s.chan c).config.lightFilter.ticks) (s.setChan c { s.chan c with
          lightLine := ⟨level, since + (s.chan c).config.lightFilter.ticks, level⟩ }))) := by
  rw [exec_lightCommand hh, if_neg (by rw [h.line.2.1]; decide), lightEdge_recognised h]

/-- The recognition that an edge comes after is the event of the level that the edge ends, taken first. -/
theorem exec_lightCommand_overtaking (hh : s.held = false) {level : Bool} {edge : Nat}
    (h : edgeOvertakes (s.chan c).lightLine (s.chan c).config.lightFilter level (stampOf edge s) s.now) :
    ∃ t : State, exec (lightCommand c (!level) (s.chan c).lightLine.since) s = .next t ∧
      exec (lightCommand c level edge) s = exec (lightCommand c level edge) t := by
  obtain ⟨hover, hlevel, hdue⟩ := h.line
  have htables := recogniseLight_tables c s
  have hline := recogniseLight_line c s
  have hframe := settled_frame (recogniseLight c s)
  refine ⟨(recogniseLight c s).settled, ?_, ?_⟩
  · rw [exec_lightCommand hh, if_neg (by simp [Line.overtaken, hlevel])]
    have hself : setLightLine c (s.chan c).lightLine s = s := setChan_self s c
    unfold lightEdge
    dsimp only
    rw [moved_of_level hlevel, hself, if_pos (by simp [hlevel, hdue])]
  · obtain ⟨u, hu⟩ : ∃ u, u = (recogniseLight c s).settled := ⟨_, rfl⟩
    rw [← hu] at hframe hline
    have hheld : u.held = false := by rw [hframe]; exact htables.held.trans hh
    have hepoch : stampOf edge u = stampOf edge s := by rw [stampOf, stampOf, hframe]; exact congrArg _ htables.lineEpoch
    rw [exec_lightCommand hh, if_pos hover, ← hu, exec_lightCommand hheld,
      overtaken_of_settled (by rw [hline]; rfl), if_neg (by decide), hepoch]

theorem light_mem_dueEvents (hh : s.held = false) {level : Bool} (hhigh : (s.chan c).lightLine.high = level)
    (hf : (s.chan c).lightLine.filtered ≠ level)
    (hheld : (s.chan c).lightLine.since + (s.chan c).config.lightFilter.ticks ≤ s.now) :
    lightCommand c level (s.chan c).lightLine.since ∈ dueEvents s := by
  have hdue := lineDue_of hhigh hf hheld
  refine mem_dueEvents (c := c) hh ?_
  unfold channelDue lightCommand
  cases level <;> simp [mem_whenDue, hdue]

/-! ## The first light of a lit span -/

/-- The burst that the first light of a lit span is seen for (R88, R107): a sampled arming records its latency. -/
def Burst.seen (b : Burst) (litSince stamp : Nat) : Burst :=
  if b.sampledArming = true ∧ litSince ≤ stamp then { b with latency := some (min (stamp - litSince) 65535) } else b

theorem Burst.seen_late {litSince stamp : Nat} (hlt : ¬ litSince ≤ stamp) : b.seen litSince stamp = b :=
  if_neg fun h => hlt h.2

theorem Burst.seen_intime {litSince stamp : Nat} (hle : litSince ≤ stamp) : b.seen litSince stamp =
    if b.sampledArming then { b with latency := some (min (stamp - litSince) 65535) } else b := by
  simp only [Burst.seen, hle, and_true]

theorem seeLight_front (hq : (s.chan c).queue = b :: rest) (ha : (s.chan c).seq.active = .front) (stamp : Nat) :
    seeLight c stamp s = s.setChan c { s.chan c with
      seq := { (s.chan c).seq with light := .seen }, queue := b.seen (s.chan c).seq.litSince stamp :: rest } := by
  unfold seeLight
  dsimp only
  split
  · rename_i hle
    unfold modActive
    rw [State.modSeq_chan]
    dsimp only
    rw [ha]
    dsimp only
    rw [modFront_eq, modSeq_eq, setChan_setChan, State.setChan_chan, hq, modFirst, Burst.seen_intime hle, ← ha]
    rfl
  · rename_i hlt
    rw [Burst.seen_late hlt, ← hq, modSeq_eq]

theorem seeLight_detached (ha : (s.chan c).seq.active = .detached b) (stamp : Nat) :
    seeLight c stamp s = s.setChan c { s.chan c with
      seq := { (s.chan c).seq with light := .seen, active := .detached (b.seen (s.chan c).seq.litSince stamp) } } := by
  unfold seeLight
  dsimp only
  split
  · rename_i hle
    unfold modActive
    rw [State.modSeq_chan]
    dsimp only
    rw [ha]
    dsimp only
    rw [modSeq_eq, modSeq_eq, setChan_setChan, State.setChan_chan, Burst.seen_intime hle]
    rfl
  · rename_i hlt
    rw [Burst.seen_late hlt, ← ha, modSeq_eq]

/-! ## Strikes -/

theorem addStrike_eq (h : Fin 24) (s : State) : addStrike h s =
    if s.heads[h].strikeLimit ≤ min (s.heads[h].strikes + 1) 7 then
      enterFault h .dropout (s.setHead h { s.heads[h] with strikes := min (s.heads[h].strikes + 1) 7 })
    else s.setHead h { s.heads[h] with strikes := min (s.heads[h].strikes + 1) 7 } := rfl

theorem setChan_setHead (s : State) (c : Chan) (y : Channel) (h : Fin 24) (r : Head) :
    (s.setHead h r).setChan c y = (s.setChan c y).setHead h r := by cases c <;> rfl

theorem setHead_setHead (s : State) (h : Fin 24) (p r : Head) : (s.setHead h p).setHead h r = s.setHead h r := by
  unfold State.setHead
  simp only [Vector.set_set]

/-- A head enters FAULT by its strikes, when the flush charges nothing and ends no BIAS (R110, R111). -/
theorem enterFault_struck (hc : s.heads[h].channel = c) (hstate : s.heads[h].state = .ready ∨ s.heads[h].state = .parked)
    (hl : (s.chan c).seq.laser ≠ .bias ∨ (s.chan c).seq.selected ≠ some h)
    (hf : ∀ b ∈ (s.chan c).queue.head?, flushedWithHead h b = true → (s.chan c).frontTail = true ∨ b.acc = 0)
    (n : Nat) :
    enterFault h .dropout (s.setHead h { s.heads[h] with strikes := n }) =
      placeNotice (.headFault h c .dropout n ((s.chan c).queue.countP (flushedWithHead h)))
        ((s.setChan c ((s.chan c).flushedOf (flushedWithHead h))).setHead h
          { s.heads[h] with strikes := n, state := .fault .dropout }) := by
  have hget : ∀ r : Head, (s.setHead h r).heads[h] = r := fun r => heads_set_same ..
  have hcharge : chargeFlushed h ((s.setHead h { s.heads[h] with strikes := n }).setHead h
      { (s.setHead h { s.heads[h] with strikes := n }).heads[h] with state := .fault .dropout }) =
      s.setHead h { s.heads[h] with strikes := n, state := .fault .dropout } := by
    rw [setHead_setHead, hget]
    exact chargeFlushed_none (c := c) (by rw [hget]; exact hc) (by rw [State.setHead_chan]; exact hf)
  rw [enterFault_eq (c := c) (by rw [hget]; exact hc) (by rw [hget]; exact hstate) _ hcharge, State.setHead_chan, hget, setChan_setHead,
    endBiasOn_still]
  rw [State.setHead_chan, State.setChan_chan, (flushedOf_rest _ _).1, (flushedOf_rest _ _).2]
  exact hl

/-! ## Dropouts -/

theorem dropout_front (hq : (s.chan c).queue = b :: rest) (ha : (s.chan c).seq.active = .front)
    (hl : (s.chan c).seq.laser.lit = true) (hnt : (s.chan c).seq.laser ≠ .tail)
    (hsel : (s.chan c).seq.selected = some b.head) :
    dropout c s = addStrike b.head (s.setChan c ((s.chan c).tailing
      (struckFor (s.chan c).seq.laser .lightLoss s.now (s.now - (s.chan c).seq.phaseStart) b) s.now)) := by
  unfold dropout
  dsimp only
  rw [hsel, strikeLaser_front hq ha hl hnt]

/-- An event that brings no new close about: the end of a tail of no length is all that follows at once. -/
theorem atOnce_tail {f : State → State} (h : dueClose c (f s) = none ∨ dueClose c (f s) = dueClose c s) :
    atOnce c f s = tailAtOnce c (f s) := by
  obtain h | h := h
  · exact atOnce_of_none h
  · unfold atOnce tailAtOnce
    dsimp only
    rw [if_pos h]
    split
    · rename_i hzero
      rw [runAtOnce_tail hzero, tailOver, h]
    · rename_i hzero
      exact runAtOnce_still ⟨by simpa using hzero, .inr h⟩

/-- An outcome that leaves the laser at the beginning of a TAIL of `n` ticks: the tail runs on, or is over at once. -/
theorem exec_tailBegun {o : Host.Outcome State Fault Refusal} (hh : u.held = false) (hl : (u.chan c).seq.laser = .tail)
    (he : (u.chan c).seq.phaseEnd = some (u.now + n)) (hp : (u.chan c).seq.phaseStart = u.now)
    (hi : o = .next (tailAtOnce c u).settled) :
    (0 < n → o = .next u.settled) ∧ (n = 0 → o = exec (.tailEnd c) u) := by
  refine ⟨fun hlen => ?_, fun hlen => ?_⟩
  · rw [hi, tailAtOnce_still]
    intro _ e hend
    rw [he] at hend
    cases hend
    omega
  · rw [hi, exec_tailEnd hh, tailAtOnce, if_pos (by simp [zeroTail, hl, he, hp, hlen]),
      if_pos (by simp [phaseDue, hl, he, hlen])]

/-- The front burst `b` of the channel `y` drops out (R90, R110, R111): it becomes `d`, and a fault of its head, which leaves
`kept` of the bursts behind it, leaves the channel `z` and counts `flushed` bursts. -/
def DropsOut (y : Channel) (b d : Burst) (rest kept : List Burst) (flushed : Nat) (z : Channel) (now : Nat) : Prop :=
  (y.seq.laser = .preheat ∧ b.state = .heating ∨ y.seq.laser = .hold ∧ b.state = .ready) ∧
      d = { b.litFor y.seq.laser (now - y.seq.phaseStart) with state := .barred .lightLoss } ∧
      flushed = rest.length - kept.length + 1 ∧
      z = { y.tailing d now with
        queue := asFront kept, gate := kept.head?.bind (expectedGate y.tracker)
        seq := { (y.tailing d now).seq with active := .detached d } } ∨
    (y.seq.laser = .boost ∨ y.seq.laser = .sustain) ∧
      d = { b.litFor y.seq.laser (now - y.seq.phaseStart) with
        state := .cooling ⟨.aborted, .lightLoss⟩, gate := b.gate.map fun g => { g with stop := some now } } ∧
      flushed = rest.length - kept.length ∧ z = { y.tailing d now with queue := d :: kept }

namespace DropsOut

variable {flushed now : Nat} {z : Channel} (hd : DropsOut y b d rest kept flushed z now)
include hd

theorem struck : y.seq.laser.lit = true ∧ y.seq.laser ≠ .tail ∧ dropsOut { y.seq with light := .seen } = true ∧
    d = struckFor y.seq.laser .lightLoss now (now - y.seq.phaseStart) b := by
  obtain ⟨⟨hl, -⟩ | ⟨hl, -⟩, rfl, -⟩ | ⟨hl | hl, rfl, -⟩ := hd <;> unfold dropsOut struckFor <;> rw [hl] <;>
    exact ⟨rfl, by decide, rfl, rfl⟩

theorem burst : d.plan = b.plan ∧ d.tag = b.tag ∧ d.head = b.head := by
  obtain ⟨-, rfl, -⟩ | ⟨-, rfl, -⟩ := hd <;> exact ⟨rfl, rfl, rfl⟩

theorem tail : z.seq.laser = .tail ∧ z.seq.phaseEnd = some (now + b.plan.tailLen) ∧ z.seq.phaseStart = now := by
  rw [← hd.burst.1]
  obtain ⟨-, -, -, rfl⟩ | ⟨-, -, -, rfl⟩ := hd <;> exact ⟨rfl, rfl, rfl⟩

/-- The fault's flush takes the barred burst, whose tail goes on detached, and leaves the aborted one. -/
theorem flush (hq : y.queue = b :: rest) (ha : y.seq.active = .front)
    (hkept : kept = rest.filter fun r => !flushedWithHead b.head r) :
    (y.tailing d now).flushedOf (flushedWithHead b.head) = z ∧
      (y.tailing d now).queue.countP (flushedWithHead b.head) = flushed := by
  have hqueue : (y.tailing d now).queue = d :: rest := by rw [Channel.tailing, hq]; rfl
  have hhead := hd.burst.2.2
  have hcount := countP_add_kept (flushedWithHead b.head) rest
  rw [← hkept] at hcount
  obtain ⟨-, hburst, rfl, rfl⟩ | ⟨-, hburst, rfl, rfl⟩ := hd
  · have hout : flushedWithHead b.head d = true := flushedWithHead_eq hhead (by rw [hburst]; rfl)
    refine ⟨?_, by rw [hqueue, List.countP_cons_of_pos hout, hcount]⟩
    rw [flushedOf_front hqueue hout, if_pos (show (y.tailing d now).frontTail = true from frontTail_eq_true.2 ⟨rfl, ha⟩), ← hkept]
    rfl
  · have hout : flushedWithHead b.head d = false := by
      unfold flushedWithHead
      rw [show d.state.unlit = false by rw [hburst]; rfl, Bool.and_false]
    refine ⟨?_, by rw [hqueue, List.countP_cons_of_neg (by rw [hout]; decide), hcount]⟩
    rw [flushedOf_kept (by rw [hqueue]; rintro e ⟨⟩; exact hout), hqueue, List.filter_cons_of_pos (by rw [hout]; rfl), ← hkept]

/-- The burst that comes to the front behind the barred one waits in turn, and an aborted burst has no close to come. -/
theorem still (hw : d.state = .barred .lightLoss → waitsInTurn y now kept) : closeDue z now = false := by
  obtain ⟨-, hburst, -, rfl⟩ | ⟨-, hburst, -, rfl⟩ := hd
  · exact (hw (by rw [hburst])).closeDue rfl rfl rfl
  · exact closeDue_of_state (b := d) rfl (.inr (by rw [hburst]; rfl))

/-- The dropout brings no new close about. -/
theorem dueClose_strike {r : Head} (hq : y.queue = b :: rest) :
    dueClose c ((s.setChan c (y.tailing d now)).setHead h r) = none ∨
      dueClose c ((s.setChan c (y.tailing d now)).setHead h r) = dueClose c (s.setChan c y) := by
  have htag := hd.burst.2.1
  have hdue : closeDue (y.tailing d now) s.now = true → closeDue y s.now = true := by
    intro hdue
    obtain ⟨g, e, hg, he, hle, hwait⟩ := closeDue_front hdue
    obtain rfl : d = e := Option.some.inj he
    obtain ⟨hs, -⟩ | ⟨-, rfl, -⟩ := hd
    · exact closeDue_of hg (by rw [hq]; rfl) hle (hs.elim (fun h => .inl h.2) fun h => .inr (.inl h.2))
    · obtain h | h | ⟨_, h, -⟩ := hwait <;> cases h
  rw [dueClose_eq_none, State.setHead_chan, State.setChan_chan, State.setHead_now, State.setChan_now]
  by_cases hclose : closeDue (y.tailing d now) s.now = true
  · right
    rw [dueClose_of_due (b := d) (by rw [State.setHead_chan, State.setChan_chan, State.setHead_now, State.setChan_now]; exact hclose)
        (by rw [State.front, State.setHead_chan, State.setChan_chan]; rfl),
      dueClose_of_due (b := b) (by rw [State.setChan_chan, State.setChan_now]; exact hdue hclose)
        (by rw [State.front, State.setChan_chan, hq]; rfl), htag]
  · exact .inl (by simpa using hclose)

end DropsOut

/-- The end of a detached tail in front of a BARRED burst leaves the queue and the gate time to that burst. -/
theorem endTail_before_barred {r : Reason} (ha : (u.chan c).seq.active = .detached d) (hl : (u.chan c).seq.laser = .tail)
    (hq : (u.chan c).queue = k :: left) (hk : k.state = .barred r) :
    ((endTail c u).chan c).queue = (u.chan c).queue ∧ ((endTail c u).chan c).gate = (u.chan c).gate ∧
      ((endTail c u).chan c).seq.laser.lit = false ∧ SameLines (u.chan c) ((endTail c u).chan c) := by
  obtain ⟨e, he⟩ : ∃ e, e = d.litFor .tail (u.now - (u.chan c).seq.phaseStart) := ⟨_, rfl⟩
  obtain ⟨w, hw⟩ : ∃ w, w = (charge e.head (heatOf e.acc) u).setChan c ((u.chan c).tailDropped u.now) := ⟨_, rfl⟩
  have hchan : w.chan c = (u.chan c).tailDropped u.now := by rw [hw, State.setChan_chan]
  obtain ⟨-, hon, hqueue, hgate, hlit⟩ := settleRest_settled (s := u) (c := c) (b := e) (w := w)
    (by rw [hw, State.setChan_heads]; exact (charge_sameButHeat ..).state) (by rw [hw, State.setChan_supply, charge_supply])
    (by rw [SameOther, hw, State.setChan_other, charge_chan])
  have hend := endTail_detached (t := settleRest c e w) ha hl he (by rw [hw])
  have hnot : armDue c (settleRest c e w) = false := by
    rw [← Bool.not_eq_true, armDue_iff hlit]
    rintro ⟨b, hb, hs, -⟩
    rw [hqueue, hchan, show ((u.chan c).tailDropped u.now).queue = (u.chan c).queue from rfl, hq] at hb
    cases hb
    rw [hk] at hs
    cases hs
  rw [hnot, if_neg Bool.false_ne_true] at hend
  rw [hchan] at hqueue hgate
  rw [hend]
  have hlines := hon.lines
  rw [hchan] at hlines
  exact ⟨hqueue, hgate, hlit, .trans (y := (u.chan c).tailDropped u.now) ⟨rfl, rfl, rfl, rfl, rfl, rfl, rfl, rfl⟩ hlines⟩

/-- A burst that meets a closed window at the front, and the expected gate time that tells so. -/
theorem closesOnEntry.front {m : Nat} {r : Reason} (h : closesOnEntry x m k r) :
    asFront (k :: left) = { k with state := .barred r } :: left ∧ k.gateVetoed = false ∧
      ∃ g, expectedGate x.tracker k = some g ∧ g.closed = false ∧ g.time + (x.config.late : Int) ≤ (m : Int) := by
  obtain ⟨hq, hd, hv, g, hg, hle⟩ := h
  refine ⟨by rw [asFront, hq, hd], hv, g, hg, ?_, hle⟩
  unfold expectedGate at hg
  obtain ⟨a, -, rfl⟩ := Option.map_eq_some_iff.1 hg
  rfl

/-- A detached tail of no length ends, and the window of the BARRED burst behind it, closed before, closes at once (R75, R81): the
command for the tail's end alone leaves that close to be taken. -/
theorem zeroTail_closes {r : Reason} {g : GateTime} (ha : (u.chan c).seq.active = .detached d)
    (hl : (u.chan c).seq.laser = .tail) (he : (u.chan c).seq.phaseEnd = some u.now) (hp : (u.chan c).seq.phaseStart = u.now)
    (hq : (u.chan c).queue = k :: left) (hk : k.state = .barred r) (hv : k.gateVetoed = false)
    (hg : (u.chan c).gate = some g) (hc : g.closed = false) (hle : g.time + ((u.chan c).config.late : Int) ≤ (u.now : Int))
    (hw : waitsInTurn (u.chan c) u.now left) :
    dueClose c u = some k.tag ∧ tailOver c u = endTail c u ∧
      runAtOnce c none u = runAtOnce c none (endTail c u) ∧
      Settles c k ⟨.vetoed, r⟩ left (endTail c u) (runAtOnce c none (endTail c u)) := by
  obtain ⟨hwq, hwg, hlit, hwl⟩ := endTail_before_barred ha hl hq hk
  have hnow : (endTail c u).now = u.now := (Calm.endTail c u).tables.now
  have hdark : ((endTail c u).chan c).seq.laser ≠ .tail := fun h => by rw [h] at hlit; cases hlit
  have hdue : dueClose c u = some k.tag :=
    dueClose_of_due (closeDue_of hg (by rw [hq]; rfl) hle (.inr (.inr ⟨r, hk, hc⟩))) (by rw [State.front, hq]; rfl)
  have hsame : dueClose c (endTail c u) = dueClose c u := by
    unfold dueClose State.front closeDue
    rw [hwq, hwg, hwl.config, hnow]
  refine ⟨hdue, ?_, runAtOnce_tail (by simp [zeroTail, hl, he, hp]), ?_⟩
  · rw [tailOver, runAtOnce_still ⟨zeroTail_eq_false.2 (tailRuns_of_laser hdark), .inr hsame⟩]
  · exact runAtOnce_over (hwq.trans hq) hk (hwg.trans hg) hc (by rw [hwl.config, hnow]; exact hle) hdark hv
      (by rw [hnow]; unfold waitsInTurn; rw [hwl.config, hwl.tracker]; exact hw)

/-- A dropout that is not one of the present lit span (R90). -/
theorem dropsOut_eq_false {q : Sequencer} (h : q.light ≠ .seen ∨ q.laser = .tail ∨ q.laser = .dark ∨ q.laser = .bias) :
    dropsOut q = false := by
  unfold dropsOut
  obtain h | h | h | h := h
  · simp [h]
  all_goals rw [h]; simp

theorem owesDropout_eq_none {q : Sequencer} {m : Nat} (h : ∀ k n, q.darkened = some ⟨k, n, .seen⟩ → n < m) :
    owesDropout q m = none := by
  unfold owesDropout
  split
  · rename_i hspan
    exact if_neg (Nat.not_le.2 (h _ _ hspan))
  all_goals rfl

theorem owesDropout_eq_some {q : Sequencer} {m j : Nat} (hspan : q.darkened = some ⟨h, j, .seen⟩) (hle : m ≤ j) :
    owesDropout q m = some h := by
  unfold owesDropout
  rw [hspan]
  exact if_pos hle

/-- Settles O49: the four edges that every command can name, the recognised rise, the recognised fall that is no dropout, and the
dropout. -/
theorem lightIsSeenOrDropsOut : Obligations.LightIsSeenOrDropsOut := by
  intro c edge s x p f stamp hh hx hp hf hstamp
  subst hx hp hf
  obtain rfl : stampOf edge s = stamp := hstamp.symm
  refine ⟨fun level i hi => ?_, fun since h => ?_, fun since y h hy => ?_⟩
  · obtain rfl : i = lightCommand c level edge := hi
    refine ⟨fun h => ?_, fun h => ?_, fun h => ?_, fun hhigh hf hheld => light_mem_dueEvents hh hhigh hf hheld⟩
    · obtain ⟨hmoved, hover, hdue⟩ := h.line
      rw [exec_lightCommand_moved hh hmoved hover hdue]
      exact congrArg (fun u => Host.Outcome.next (State.settled u)) (setChan_self s c)
    · obtain ⟨hmoved, hover, hdue⟩ := h.line
      exact exec_lightCommand_moved hh hmoved hover (by rw [hdue, Bool.and_false])
    · have hopposite : (if level then Instr.lightDeassertion c (s.chan c).lightLine.since
          else .lightAssertion c (s.chan c).lightLine.since) = lightCommand c (!level) (s.chan c).lightLine.since := by
        cases level <;> rfl
      rw [hopposite]
      exact exec_lightCommand_overtaking hh h
  · have hexec := exec_lightCommand_recognised (level := true) hh h
    rw [if_pos rfl] at hexec
    obtain ⟨y, hy⟩ : ∃ y, y = { s.chan c with lightLine := ⟨true, since + (s.chan c).config.lightFilter.ticks, true⟩ } := ⟨_, rfl⟩
    rw [← hy] at hexec
    have hchan := State.setChan_chan s c y
    have hseq : y.seq = (s.chan c).seq := by rw [hy]
    refine ⟨fun hlight => ?_, fun e b d rest hlight hd => ⟨fun ha hq => ?_, fun ha => ?_⟩⟩
    · have hstill : lightRecognised c since (s.setChan c y) = s.setChan c y := by
        unfold lightRecognised
        rw [hchan, hseq]
        obtain hlight | hlight := hlight <;> rw [hlight]
      rw [hstill, hy] at hexec
      exact hexec
    all_goals
      have hsee : lightRecognised c since (s.setChan c y) = seeLight c since (s.setChan c y) := by
        unfold lightRecognised
        rw [hchan, hseq, hlight]
      have hseen : d = b.seen y.seq.litSince since := by rw [hd, hseq]; rfl
    · rw [hsee, seeLight_front (b := b) (rest := rest) (by rw [hchan, hy]; exact hq) (by rw [hchan, hseq]; exact ha), hchan,
        ← hseen, setChan_setChan, hy] at hexec
      exact hexec
    · rw [hsee, seeLight_detached (b := b) (by rw [hchan, hseq]; exact ha), hchan, ← hseen, setChan_setChan, hy] at hexec
      exact hexec
  · have hexec := exec_lightCommand_recognised (level := false) hh h
    rw [if_neg Bool.false_ne_true, ← hy] at hexec
    have hchan := State.setChan_chan s c y
    have hseq : y.seq = (s.chan c).seq := by rw [hy]
    refine ⟨fun hnot => ?_, fun b d rest kept n flushed z hlight ha hq hsel hn hkept hcase => ?_⟩
    · have hlost : ∀ m, lightLost c m (s.setChan c y) = owedDropout c m (s.setChan c y) := fun m => by
        rw [lightLost, hchan, hseq, dropsOut_eq_false hnot]
        rfl
      rw [hlost] at hexec
      unfold owedDropout at hexec
      rw [hchan, hseq] at hexec
      refine ⟨fun hlate => ?_, fun h m n z hspan hle hn hz => ?_⟩
      · rw [owesDropout_eq_none hlate] at hexec
        exact hexec
      · rw [owesDropout_eq_some hspan hle] at hexec
        dsimp only at hexec
        have hdrop : dropSpan c (s.setChan c y) = s.setChan c z := by
          rw [dropSpan, modSeq_eq, setChan_setChan, hchan, hz, hseq]
        rw [State.setChan_heads, hdrop] at hexec
        refine ⟨fun hlt => ?_, fun hlimit hstate hc hq hl => ?_⟩
        · rw [if_neg (by rw [← hn, decide_eq_false (Nat.not_le.2 hlt), Bool.and_false]; decide)] at hexec
          exact hexec
        · have hcan : s.heads[h].state.canFault = true := by obtain hs | hs := hstate <;> rw [hs] <;> rfl
          have hzchan := State.setChan_chan s c z
          have hzq : z.queue = [] := by rw [hz, hy]; exact hq
          have hself : z.flushedOf (flushedWithHead h) = z := by
            rw [flushedOf_kept (by rw [hzq]; exact fun _ hr => nomatch hr), hzq, List.filter_nil, ← hzq]
          have hfault := enterFault_struck (s := s.setChan c z) (c := c) (h := h) (by rw [State.setChan_heads]; exact hc)
            (by rw [State.setChan_heads]; exact hstate) (.inl (by rw [hzchan, hz]; dsimp only; rw [hl]; decide))
            (by rw [hzchan, hzq]; exact fun _ hr => nomatch hr) n
          rw [hzchan, hself, hzq, setChan_setChan, State.setChan_heads] at hfault
          rw [if_pos (by rw [hcan, ← hn, decide_eq_true hlimit]; rfl), addStrike_eq, State.setChan_heads, ← hn, if_pos hlimit, hfault] at hexec
          exact hexec
    · have hdrop : DropsOut y b d rest kept flushed z s.now := by rw [hy]; rw [hy] at hcase; exact hcase
      obtain ⟨hl, hnt, hdrops, hd⟩ := hdrop.struck
      have hyq : y.queue = b :: rest := by rw [hy]; exact hq
      have hya : y.seq.active = .front := by rw [hseq]; exact ha
      have hdropout := dropout_front (s := s.setChan c y) (c := c) (b := b) (rest := rest) (by rw [hchan]; exact hyq)
        (by rw [hchan]; exact hya) (by rw [hchan]; exact hl) (by rw [hchan]; exact hnt) (by rw [hchan, hseq]; exact hsel)
      rw [hchan, State.setChan_now, setChan_setChan, ← hd, addStrike_eq, State.setChan_heads, ← hn] at hdropout
      have hlost : ∀ m, lightLost c m (s.setChan c y) = atOnce c (dropout c) (s.setChan c y) := fun m => by
        have hseen : ({ y.seq with light := .seen } : Sequencer) = y.seq := by rw [hseq, ← hlight]
        rw [lightLost, hchan, ← hseen, hdrops]
        rfl
      rw [hlost] at hexec
      refine ⟨fun u hlt hu => ?_, fun u hlimit hstate hc hu => ?_⟩
      · rw [if_neg (Nat.not_le.2 hlt), ← hu] at hdropout
        have hclose := hdrop.dueClose_strike (s := s) (c := c) (h := b.head) (r := { s.heads[b.head] with strikes := n })
          hyq
        rw [← hu, ← hdropout] at hclose
        rw [atOnce_tail hclose, hdropout] at hexec
        have huchan : u.chan c = y.tailing d s.now := by rw [hu, State.setHead_chan, State.setChan_chan]
        have hunow : u.now = s.now := by rw [hu, State.setHead_now, State.setChan_now]
        exact exec_tailBegun (u := u) (by rw [hu, State.setHead_held, State.setChan_held]; exact hh) (by rw [huchan]; rfl)
          (by rw [huchan, hunow, ← hdrop.burst.1]; rfl) (by rw [huchan, hunow]; rfl) hexec
      · have hflush := hdrop.flush hyq hya (hkept.trans (filter_waits ..))
        have hfault := enterFault_struck (s := s.setChan c (y.tailing d s.now)) (c := c) (h := b.head)
          (by rw [State.setChan_heads]; exact hc) (by rw [State.setChan_heads]; exact hstate)
          (.inl (by rw [State.setChan_chan]; exact fun h => nomatch h))
          (fun _ _ _ => .inl (by rw [State.setChan_chan]; exact frontTail_eq_true.2 ⟨rfl, hya⟩)) n
        rw [State.setChan_chan, setChan_setChan, State.setChan_heads, hflush.1, hflush.2, ← hu] at hfault
        rw [if_pos hlimit, hfault] at hdropout
        obtain ⟨hzl, hze, hzp⟩ := hdrop.tail
        have huchan : u.chan c = z := by rw [hu, placeNotice_chan, State.setHead_chan, State.setChan_chan]
        have hunow : u.now = s.now := by rw [hu, placeNotice_now, State.setHead_now, State.setChan_now]
        have huheld : u.held = false := by 
            rw [hu, (Calm.placeNotice ..).tables.held, State.setHead_held, State.setChan_held]; exact hh
        have hbegun := exec_tailBegun (n := b.plan.tailLen) (o := exec (.lightDeassertion c edge) s) huheld
          (by rw [huchan]; exact hzl) (by rw [huchan, hunow]; exact hze) (by rw [huchan, hunow]; exact hzp)
        have hwaits : waitsInTurn (s.chan c) s.now kept → waitsInTurn y s.now kept := by rw [hy]; exact id
        have hquiet : (d.state = .barred .lightLoss → waitsInTurn (s.chan c) s.now kept) →
            exec (.lightDeassertion c edge) s = .next (tailAtOnce c u).settled := fun hw => by
          rw [atOnce_tail (.inl ?_), hdropout] at hexec
          · exact hexec
          · rw [dueClose_eq_none, hdropout, huchan, hunow]
            exact hdrop.still fun h => hwaits (hw h)
        refine ⟨fun hlen hw => (hbegun (hquiet hw)).1 hlen, fun hlen hw => (hbegun (hquiet hw)).2 hlen,
          fun k left r hlen hbar hleft hcloses hwait htag => ?_⟩
        obtain ⟨hfront, hkv, g, hg, hfresh, hgle⟩ := hcloses.front (left := left)
        obtain ⟨hzq, hzg, hza, hzt, hzc⟩ : z.queue = { k with state := .barred r } :: left ∧ z.gate = some g ∧
            z.seq.active = .detached d ∧ z.tracker = (s.chan c).tracker ∧ z.config = (s.chan c).config := by
          obtain ⟨-, -, -, rfl⟩ | ⟨-, hcool, -⟩ := hdrop
          · rw [hleft, hy]
            exact ⟨hfront, hg, rfl, rfl, rfl⟩
          · rw [hcool] at hbar
            cases hbar
        obtain ⟨hzdue, htail, hend, hsettles⟩ := zeroTail_closes (u := u) (c := c) (d := d)
          (k := { k with state := .barred r }) (by rw [huchan]; exact hza)
          (by rw [huchan]; exact hzl) (by rw [huchan, hunow, hze, hlen]; rfl) (by rw [huchan, hunow]; exact hzp)
          (by rw [huchan]; exact hzq) rfl hkv (by rw [huchan]; exact hzg) hfresh (by rw [huchan, hunow, hzc]; exact hgle)
          (by rw [huchan, hunow]; unfold waitsInTurn; rw [hzt, hzc]; exact hwait)
        have hown : dueClose c (dropout c (s.setChan c y)) ≠ dueClose c (s.setChan c y) := by
          rw [hdropout, hzdue]
          intro heq
          refine htag.front_ne hq k ?_ (dueClose_front (by rw [hchan]; exact hyq) heq.symm)
          have hmem : k ∈ kept := by rw [hleft]; exact List.mem_cons_self ..
          rw [hkept] at hmem
          exact (List.mem_filter.1 hmem).1
        unfold atOnce at hexec
        dsimp only at hexec
        rw [if_neg hown, hdropout, hend] at hexec
        refine ⟨endTail c u, _, ?_, ?_, hsettles.seq, hsettles.supply, hsettles.completes, hexec⟩
        swap
        · rw [exec_tailEnd huheld, if_pos (by simp [phaseDue, huchan, hzl, hze, hunow, hlen]), htail]
        rw [(Calm.endTail c u).tx, hu, (Calm.placeNotice ..).tx, State.setHead_link, State.setChan_link]

end Sys2Proof.Machine
end

section
/-! PROOFS. What an anchor does to the front burst of its channel (R62, R69, R75, R86), the loss of a tracker's reference (R60,
R61), and the miss expiry (R59). -/

namespace Sys2Proof.Machine

variable {s t u : State} {c : Chan} {x y : Channel} {a : Anchor} {b d : Burst} {rest : List Burst}

/-! ## Anchors at the Laser Sequencer -/

theorem regate_eq (ha : x.tracker.anchor = some a) : regate x a = regated x := by
  unfold regate regated
  rw [ha]
  cases hq : x.queue.head? with
  | none => rfl
  | some b =>
    cases x.gate with
    | none => rfl
    | some g =>
      dsimp only
      rw [gateFrom_eq]
      exact if_congr Iff.rfl rfl (if_congr eq_comm rfl rfl)

theorem reanchors_iff : reanchors x a = true ↔ reanchored x a.count := by
  unfold reanchors reanchored
  simp only [Option.any_eq_true, Bool.and_eq_true, Bool.not_eq_true', beq_iff_eq]
  constructor
  · rintro ⟨b, hb, g, hg, hfixed, htarget⟩
    exact ⟨b, hb, htarget.symm, g, hg, hfixed⟩
  · rintro ⟨b, hb, htarget, g, hg, hfixed⟩
    exact ⟨b, hb, g, hg, hfixed, htarget.symm⟩

/-- An anchor event at the channel whose tracker has just taken the anchor. -/
theorem anchorEvent_eq (ha : x.tracker.anchor = some a) :
    anchorEvent c a (u.setChan c x) =
      if reanchors x a then runAtOnce c none (u.setChan c x.anchored) else u.setChan c x.anchored := by
  have hchan := State.setChan_chan u c x
  unfold anchorEvent Channel.anchored
  dsimp only
  rw [modChan_eq, hchan, regate_eq ha, setChan_setChan, State.setChan_chan]
  by_cases hbias : x.seq.laser = .bias ∧ x.config.biasHold ≠ 0
  · rw [if_pos hbias, if_pos hbias, modSeq_eq, setChan_setChan, State.setChan_chan]
    rfl
  · rw [if_neg hbias, if_neg hbias]

theorem anchored_keeps (x : Channel) : x.anchored.queue = x.queue ∧ SameLines x x.anchored ∧
    x.anchored.seq.laser = x.seq.laser ∧ x.anchored.seq.active = x.seq.active ∧
    x.anchored.seq.phaseStart = x.seq.phaseStart ∧ x.anchored.seq.phaseEnd = x.seq.phaseEnd := by
  unfold Channel.anchored
  dsimp only
  refine ⟨rfl, ⟨rfl, rfl, rfl, rfl, rfl, rfl, rfl, rfl⟩, ?_, ?_, ?_, ?_⟩ <;> split <;> rfl

/-- The window of a burst that awaits its close has closed. -/
theorem closeDue_of_notOpen {n : Nat} (hq : y.queue = b :: rest) (hopen : ¬ windowOpen y n)
    (hw : ∀ g ∈ y.gate, awaitsClose b g) : closeDue y n = true := by
  obtain ⟨g, hg⟩ := not_forall.1 hopen
  obtain ⟨hgate, hlt⟩ := Classical.not_imp.1 hg
  exact closeDue_of hgate (by rw [hq]; rfl) (not_lt.1 hlt) (hw g hgate)

/-- A close that an event has brought about is taken at once. -/
theorem runAtOnce_due (htail : tailRuns (t.chan c)) (hdue : closeDue (t.chan c) t.now = true) :
    runAtOnce c none t = runAtOnce c none (closeWindow c t) :=
  runAtOnce_close (zeroTail_eq_false.2 htail) hdue (by rw [ne_eq, dueClose_eq_none, hdue]; decide)

/-- What an anchor of the channel `x` brings about on the channel `y` that it leaves (R69, R75): nothing follows while the front
burst stays or is not re-anchored, and a window that the anchor closes is closed at once. -/
def AnchorOutcome (c : Chan) (x y : Channel) (n : Nat) (u : State) (o : Host.Outcome State Fault Refusal) : Prop :=
  (frontStays y u.now ∨ ¬ reanchored x n → o = .next (State.settled (u.setChan c y))) ∧
  (∀ (b : Burst) (rest : List Burst), x.queue = b :: rest → reanchored x n → ¬ windowOpen y u.now →
    (∀ t : State, x.seq.active = .front →
      b.state = .heating ∧ x.seq.laser = .preheat ∨ b.state = .ready ∧ x.seq.laser = .hold →
      t = u.setChan c (y.tailing
        { b.litFor x.seq.laser (u.now - x.seq.phaseStart) with state := .cooling ⟨.missed, .none⟩ } u.now) →
      (0 < b.plan.tailLen → o = .next t.settled) ∧ (b.plan.tailLen = 0 → o = exec (.tailEnd c) t)) ∧
    (∀ r, b.state = .barred r → (∀ g ∈ y.gate, g.closed = false) →
      (x.seq.laser = .tail ∧ x.seq.active = .front ∨ b.gateVetoed = true →
        o = .next (State.settled (u.setChan c y.windowOver))) ∧
      (x.seq.active ≠ .front → b.gateVetoed = false → waitsInTurn y u.now rest →
        ∃ t : State, o = .next t.settled ∧ (t.chan c).seq = y.seq ∧ t.supply = u.supply ∧
          Completes c b ⟨.vetoed, r⟩ rest (u.setChan c y) t)))

theorem anchorEvent_outcome {o : Host.Outcome State Fault Refusal} (hh : u.held = false) (ha : x.tracker.anchor = some a)
    (hruns : tailRuns x) (ho : o = .next (anchorEvent c a (u.setChan c x)).settled) :
    AnchorOutcome c x x.anchored a.count u o := by
  obtain ⟨hqueue, -, hlaser, hactive, hstart, hend⟩ := anchored_keeps x
  obtain ⟨y, hy⟩ : ∃ y, y = x.anchored := ⟨_, rfl⟩
  have hanchor := anchorEvent_eq (u := u) (c := c) ha
  rw [← hy] at hqueue hlaser hactive hstart hend hanchor ⊢
  have hchan := State.setChan_chan u c y
  have hruns' : tailRuns ((u.setChan c y).chan c) := by
    rw [hchan, tailRuns, hlaser, hstart, hend]
    exact hruns
  refine ⟨fun hstays => ?_, fun b rest hq hre hopen => ?_⟩
  · rw [ho, hanchor]
    split
    · rename_i hre
      rw [runAtOnce_still ⟨zeroTail_eq_false.2 hruns', .inl ?_⟩]
      exact dueClose_setChan.2 (frontStays_iff.1 (hstays.resolve_right fun h => h (reanchors_iff.1 hre)))
    · rfl
  · have hyq : y.queue = b :: rest := hqueue.trans hq
    have hclose : (∀ g ∈ y.gate, awaitsClose b g) → o = .next (runAtOnce c none (closeWindow c (u.setChan c y))).settled := by
      intro hw
      rw [ho, hanchor, if_pos (reanchors_iff.2 hre), runAtOnce_due hruns']
      rw [hchan, State.setChan_now]
      exact closeDue_of_notOpen hyq hopen hw
    refine ⟨fun t hfront hcase ht => ?_, fun r hs hfresh => ?_⟩
    · have hlit : x.seq.laser.lit = true := by obtain ⟨-, hl⟩ | ⟨-, hl⟩ := hcase <;> rw [hl] <;> rfl
      have hstate : b.state = .heating ∨ b.state = .ready := hcase.imp And.left And.left
      have hwindow := closeWindow_front (s := u.setChan c y) (c := c) (b := b) (rest := rest) (by rw [hchan]; exact hyq) hstate
        (by rw [hchan, hactive]; exact hfront) (by rw [hchan, hlaser]; exact hlit)
      rw [hchan, State.setChan_now, setChan_setChan, hlaser, hstart] at hwindow
      have ho' := hclose fun g _ => hstate.elim .inl fun h => .inr (.inl h)
      rw [hwindow, runAtOnce_none (dueClose_setChan.2 (closeDue_tailing (v := ⟨.missed, .none⟩) rfl))] at ho'
      rw [ht]
      exact exec_tailing hh ho'
    · have ho' := hclose fun g hg => .inr (.inr ⟨r, hs, hfresh g hg⟩)
      refine ⟨fun hkept => ?_, fun hnf hv hwait => ?_⟩
      · rw [closeWindow_kept (b := b) (rest := rest) (by rw [hchan]; exact hyq) hs (by rw [hchan, hlaser, hactive]; exact hkept),
          hchan, setChan_setChan, runAtOnce_still ⟨?_, .inl (dueClose_setChan.2 (closeDue_windowOver hyq hs _))⟩] at ho'
        · exact ho'
        · rw [State.setChan_chan, zeroTail_eq_false]
          rw [hchan] at hruns'
          exact hruns'
      · have hover := closeWindow_over (s := u.setChan c y) (c := c) (b := b) (rest := rest) (r := r)
          (by rw [hchan]; exact hyq) hs (by rw [hchan, hactive]; exact fun h => hnf h.2) hv
          (by rw [hchan, State.setChan_now]; exact hwait)
        rw [runAtOnce_still ⟨?_, .inl (dueClose_eq_none.2 hover.still)⟩] at ho'
        · exact ⟨_, ho', hover.seq.trans (by rw [hchan]), hover.supply.trans (State.setChan_supply ..), hover.completes⟩
        · rw [hover.seq, zeroTail_eq_false]
          exact hruns'

/-! ## The loss of the reference -/

/-- The tracker of a channel loses its reference, when the channel `x` differs from that of `s` by its sync lines alone. -/
theorem loseReference_loses {cause : SyncCause} {tr : Tracker} (hstate : tr.state = .acquiring) (hmiss : tr.miss = 0)
    (hwedge : (tr.anchor.map fun a => a.wedge).getD 0 = 0)
    (hx : x = { s.chan c with syncLine := x.syncLine, indexPin := x.indexPin }) :
    LosesReference c cause tr s (loseReference c cause tr (s.setChan c x)) ∧
      ((loseReference c cause tr (s.setChan c x)).chan c).syncLine = x.syncLine ∧
      ((loseReference c cause tr (s.setChan c x)).chan c).indexPin = x.indexPin := by
  obtain ⟨w, hw⟩ : ∃ w, w = setTracker c tr (s.setChan c x) := ⟨_, rfl⟩
  have hset : w = s.setChan c { x with tracker := tr } := by rw [hw, setTracker, modChan_eq, setChan_setChan, State.setChan_chan]
  have hchan : w.chan c = { x with tracker := tr } := by rw [hset, State.setChan_chan]
  have hnow : w.now = s.now := by rw [hset, State.setChan_now]
  have hseq : x.seq = (s.chan c).seq := by rw [hx]
  have hqueue : x.queue = (s.chan c).queue := by rw [hx]
  have hlose : loseReference c cause tr (s.setChan c x) =
      placeNotice (.syncChange c cause .acquiring 0 tr.pest 0 (s.chan c).queue.length) (flushAll c w).1 := by
    rw [loseReference, ← hw]
    rw [flushAll_count, hchan, hqueue, syncChangeOf, hstate, hmiss, hwedge]
  have hflushed : (loseReference c cause tr (s.setChan c x)).chan c = Channel.flushed { x with tracker := tr } s.now := by
    rw [hlose, placeNotice_chan, flushAll_chan, hchan, hnow]
  obtain ⟨hheads, hlink⟩ := darkenHeat_congr (c := c) (t := w) (s := s) (by rw [hset, State.setChan_heads])
    (by rw [hset, State.setChan_link]) hnow (by rw [hchan]; exact hqueue) (by rw [hchan]; exact hseq)
  refine ⟨⟨?_, ?_, ?_, ?_, ?_, ?_, ?_⟩, ?_, ?_⟩
  · rw [hflushed]; rfl
  · rw [hflushed]
    exact (flushed_darkened { x with tracker := tr } s.now).of_same hseq (by rw [hx]) (by rw [hx]) (by rw [hx]) (by rw [hx])
      (by rw [hx])
  · rw [hlose, placeNotice_heads, flushAll_heads, hheads]
  · rw [hlose, placeNotice_link, placeNotice_link, flushAll_link, hlink]
  · rw [hlose, placeNotice_supply, flushAll_supply, hset, State.setChan_supply, State.setChan_other]
  · rw [SameOther, hlose, placeNotice_chan, flushAll_other, hset, State.setChan_other]
  · rw [hlose]
    refine .trans ?_ ((Calm.flushAll c w).trans (.placeNotice ..)).tables
    rw [hset]
    exact ⟨by constructor <;> simp, by simp, by simp⟩
  · rw [hflushed]; rfl
  · rw [hflushed]; rfl

/-! ## The miss expiry -/

theorem missDue_iff (ha : x.tracker.anchor = some a) (n : Nat) : missDue x n = true ↔
    (x.tracker.state = .locked ∨ x.tracker.state = .coasting) ∧
      a.time + x.tracker.pest + x.config.tw + x.config.syncFilter.ticks < n := by
  unfold missDue Tracker.synced Tracker.prediction
  rw [ha]
  simp only [Option.any_some, Bool.and_eq_true, decide_eq_true_eq]
  refine and_congr ?_ Iff.rfl
  cases x.tracker.state <;> simp

theorem exec_missExpiry (hh : s.held = false) :
    exec (.missExpiry c) s = .next (if missDue (s.chan c) s.now then miss c s else s).settled := by
  have hexec : exec (.missExpiry c) s = .next (onEvent (fun s => if missDue (s.chan c) s.now then miss c s else s) s) := rfl
  rw [hexec, onEvent_eq hh]

/-- Settles O47: the miss that is not due, the lock lost, and the coasted wedge. -/
theorem missExpiryCoastsOrLosesLock : Obligations.MissExpiryCoastsOrLosesLock := by
  intro c s x a w hh hx ha hw
  subst hx
  have hexec := exec_missExpiry (c := c) hh
  refine ⟨fun hle => ?_, fun hlt hsynced => ?_⟩
  · rw [hexec, if_neg]
    rw [missDue_iff ha]
    omega
  · rw [if_pos ((missDue_iff ha _).2 ⟨hsynced, hlt⟩), miss] at hexec
    dsimp only at hexec
    rw [ha] at hexec
    dsimp only at hexec
    refine ⟨fun hm => ?_, fun y u hm hruns hy hu => ?_⟩
    · rw [if_neg (Nat.not_lt.2 hm)] at hexec
      have hloses := loseReference_loses (s := s) (c := c) (x := s.chan c) (cause := .lost)
        (tr := acquiringTracker (s.chan c).config.pnom) rfl rfl rfl rfl
      rw [setChan_self] at hloses
      exact ⟨_, hexec, hloses.2.1, hloses.2.2, hloses.1⟩
    · rw [if_pos hm] at hexec
      obtain ⟨x1, hx1⟩ : ∃ x1, x1 = { s.chan c with
          tracker := ⟨.coasting, some ⟨a.time + (s.chan c).tracker.pest, w, a.count + 1⟩, (s.chan c).tracker.pest,
            (s.chan c).tracker.good, (s.chan c).tracker.miss + 1⟩ } := ⟨_, rfl⟩
      rw [← hx1] at hy
      have huheld : u.held = false := by
        rw [hu]
        split
        · exact (Calm.placeNotice ..).tables.held.trans hh
        · exact hh
      have hunow : u.now = s.now ∧ u.supply = s.supply := by
        rw [hu]
        split <;> exact ⟨rfl, rfl⟩
      have hset : u.setChan c x1 = if (s.chan c).tracker.state = .locked then
          placeNotice (.syncChange c .coasting .coasting w (s.chan c).tracker.pest ((s.chan c).tracker.miss + 1) 0)
            (s.setChan c x1) else s.setChan c x1 := by
        rw [hu]
        split
        · rw [placeNotice_setChan]
        · rfl
      have houtcome := anchorEvent_outcome (u := u) (c := c) (x := x1)
        (a := ⟨a.time + (s.chan c).tracker.pest, w, a.count + 1⟩) (o := exec (.missExpiry c) s) huheld (by rw [hx1])
        (by rw [hx1]; exact hruns) (by rw [hexec, hset, hx1, hw]; rfl)
      rw [← hy, hx1, AnchorOutcome, hunow.1, hunow.2] at houtcome
      exact houtcome

end Sys2Proof.Machine
end

section
/-! PROOFS. SYNC_RECOGNITION: the edges of SYNCn and INDEXn taken in turn (R49, R50), acquisition (R56, R57) and tracking (R58,
R61). -/

namespace Sys2Proof.Machine

variable {s t u : State} {c : Chan} {x y : Channel} {a : Anchor} {e : LineEdge} {p : SyncPin}
  {sync index rest : List LineEdge} {l : List (SyncPin × LineEdge)}

/-! ## The sync that waits to be recognised -/

theorem syncDue_iff {m : Nat} : syncDue x m = true ↔ syncWaits x m := by
  unfold syncDue lineDue Line.due filterHeld syncWaits
  cases x.syncLine.high <;> cases x.syncLine.filtered <;> simp

theorem carriesIndex_iff : carriesIndex x = true ↔ indexCarried x := by
  unfold carriesIndex indexCarried
  simp

theorem recogniseSync_eq {m : Nat} (hw : syncWaits (s.chan c) m) : recogniseSync c s =
    syncRecognised c (s.chan c).syncLine.since (carriesIndex (s.chan c)) (s.setChan c
      ((s.chan c).syncTaken ((s.chan c).syncLine.since + (s.chan c).config.syncFilter.ticks))) := by
  obtain ⟨hhigh, -, -⟩ := hw
  unfold recogniseSync Channel.syncTaken Line.recognised Pin.heldUntil
  dsimp only
  rw [hhigh]

theorem exec_syncRecognition (hh : s.held = false) : exec (.syncRecognition c sync index) s =
    .next (onEvent (fun s => if syncDue (s.chan c) s.now then recogniseSync c s else s)
      ((edgesInOrder sync index).foldl (takeEdge c) s)) := by
  have hexec : exec (.syncRecognition c sync index) s = execSyncRecognition c sync index s := rfl
  rw [hexec, execSyncRecognition, if_neg (by rw [hh]; decide)]

/-- What the edges leave is recognised as it is without them. -/
theorem exec_syncRecognition_nil (hh : s.held = false) : exec (.syncRecognition c [] []) s =
    .next (if syncDue (s.chan c) s.now then recogniseSync c s else s).settled := by
  rw [exec_syncRecognition hh, show edgesInOrder [] [] = [] from rfl, List.foldl_nil, onEvent_eq hh]

theorem exec_syncRecognised (hh : s.held = false) (hw : syncWaits (s.chan c) s.now) :
    exec (.syncRecognition c [] []) s = .next (syncRecognised c (s.chan c).syncLine.since (carriesIndex (s.chan c))
      (s.setChan c ((s.chan c).syncTaken
        ((s.chan c).syncLine.since + (s.chan c).config.syncFilter.ticks)))).settled := by
  rw [exec_syncRecognition_nil hh, if_pos (syncDue_iff.2 hw), recogniseSync_eq hw]

/-! ## Edges in the order of time -/

theorem edgesInOrder_sync (hindex : ∀ d ∈ index, e.time < d.time) :
    edgesInOrder (e :: rest) index = (.sync, e) :: edgesInOrder rest index := by
  induction index with
  | nil => rfl
  | cons d index ih =>
    have hcons : ∀ sync, edgesInOrder sync (d :: index) = placeEdge d (edgesInOrder sync index) := fun _ => rfl
    rw [hcons, hcons, ih fun k hk => hindex k (List.mem_cons_of_mem _ hk), placeEdge,
      if_neg (Nat.not_le.2 (hindex d (List.mem_cons_self ..)))]

theorem mem_placeEdge {d : SyncPin × LineEdge} (h : d ∈ placeEdge e l) : d = (.index, e) ∨ d ∈ l := by
  induction l with
  | nil => exact .inl (List.mem_singleton.1 h)
  | cons k l ih =>
    unfold placeEdge at h
    split at h
    · exact List.mem_cons.1 h
    · obtain rfl | h := List.mem_cons.1 h
      · exact .inr (List.mem_cons_self ..)
      · exact (ih h).imp_right (List.mem_cons_of_mem _)

theorem mem_edgesInOrder {d : SyncPin × LineEdge} (h : d ∈ edgesInOrder sync index) : d.2 ∈ sync ∨ d.2 ∈ index := by
  induction index with
  | nil =>
    obtain ⟨k, hk, rfl⟩ := List.mem_map.1 h
    exact .inl hk
  | cons k index ih =>
    obtain rfl | h := mem_placeEdge (l := edgesInOrder sync index) h
    · exact .inr (List.mem_cons_self ..)
    · exact (ih h).imp_right (List.mem_cons_of_mem _)

theorem edgesInOrder_index (hsync : ∀ d ∈ sync, e.time ≤ d.time) (hrest : ∀ d ∈ rest, e.time ≤ d.time) :
    edgesInOrder sync (e :: rest) = (.index, e) :: edgesInOrder sync rest := by
  have hcons : edgesInOrder sync (e :: rest) = placeEdge e (edgesInOrder sync rest) := rfl
  rw [hcons]
  cases hl : edgesInOrder sync rest with
  | nil => rfl
  | cons d l =>
    have hd : d ∈ edgesInOrder sync rest := by rw [hl]; exact List.mem_cons_self ..
    rw [placeEdge, if_pos ((mem_edgesInOrder hd).elim (hsync d.2) (hrest d.2))]

/-- The first edge of a line told in order comes before the others, and with it all that comes before it. -/
theorem edgesWf_head {m : Nat} {l : List LineEdge} (hwf : edgesWf l = true) (hhead : ∀ d ∈ l.head?, m ≤ d.time) :
    ∀ d ∈ l, m ≤ d.time := by
  cases l with
  | nil => exact fun _ h => nomatch h
  | cons k l =>
    intro d hd
    obtain rfl | hd := List.mem_cons.1 hd
    · exact hhead d rfl
    · exact (hhead k rfl).trans (edgesWf_le hwf d hd)

/-- The first edge in the order of time. -/
theorem edgesInOrder_first (hs : edgesWf sync = true) (hi : edgesWf index = true) :
    (sync = e :: rest → (∀ d ∈ index.head?, e.time < d.time) →
      edgesInOrder sync index = (.sync, e) :: edgesInOrder rest index) ∧
    (index = e :: rest → (∀ d ∈ sync.head?, e.time ≤ d.time) →
      edgesInOrder sync index = (.index, e) :: edgesInOrder sync rest) := by
  refine ⟨fun hsync hfirst => ?_, fun hindex hfirst => ?_⟩
  · subst hsync
    exact edgesInOrder_sync (edgesWf_head (m := e.time + 1) hi hfirst)
  · subst hindex
    exact edgesInOrder_index (edgesWf_head hs hfirst) (edgesWf_le hi)

/-! ## One edge -/

/-- The first edge of a command, when no recognition was due before it. -/
theorem exec_syncRecognition_edge (hh : s.held = false) {sync' index' : List LineEdge}
    (hfirst : edgesInOrder sync index = (p, e) :: edgesInOrder sync' index')
    (hnot : ¬ (syncWaits (s.chan c) (stampOf e.time s) ∧ stampOf e.time s ≤ s.now)) :
    exec (.syncRecognition c sync index) s = exec (.syncRecognition c sync' index') (moveEdge c p e s) := by
  have htake : takeEdge c s (p, e) = moveEdge c p e s := by
    unfold takeEdge
    dsimp only
    rw [if_neg]
    rw [Bool.and_eq_true, syncDue_iff, decide_eq_true_eq]
    exact hnot
  have hheld : (moveEdge c p e s).held = false := by
    rw [moveEdge, modChan_eq, State.setChan_held, hh]
  rw [exec_syncRecognition hh, exec_syncRecognition hheld, hfirst, List.foldl_cons, htake]

theorem recogniseSync_tables (c : Chan) (s : State) : SameTables s (recogniseSync c s) := by
  unfold recogniseSync
  dsimp only
  exact .trans ⟨by constructor <;> simp, by simp, by simp⟩ (Calm.syncRecognised ..).tables

theorem recogniseSync_line (c : Chan) (s : State) :
    ((recogniseSync c s).settled.chan c).syncLine = (s.chan c).syncLine.recognised (s.chan c).config.syncFilter := by
  have hsettled : ((recogniseSync c s).settled.chan c).syncLine = ((startNotice (recogniseSync c s)).chan c).syncLine := by
    rw [State.settled, driveOutputs_chan]
    rfl
  have hnotice : ((startNotice (recogniseSync c s)).chan c).syncLine = ((recogniseSync c s).chan c).syncLine := by
    rw [startNotice_frame]
    cases c <;> rfl
  rw [hsettled, hnotice]
  unfold recogniseSync
  dsimp only
  rw [((Calm.syncRecognised ..).lines c).syncLine, State.setChan_chan]

/-- A recognition that was due before the first edge is an event of its own, taken first. -/
theorem exec_syncRecognition_overtaken (hh : s.held = false) (hfirst : edgesInOrder sync index = (p, e) :: l)
    (hw : syncWaits (s.chan c) (stampOf e.time s)) (hle : stampOf e.time s ≤ s.now) :
    ∃ t : State, exec (.syncRecognition c [] []) s = .next t ∧
      exec (.syncRecognition c sync index) s = exec (.syncRecognition c sync index) t := by
  obtain ⟨t, ht⟩ : ∃ t, t = (recogniseSync c s).settled := ⟨_, rfl⟩
  have htables := recogniseSync_tables c s
  have hline := recogniseSync_line c s
  have hframe := settled_frame (recogniseSync c s)
  rw [← ht] at hline hframe
  have hheld : t.held = false := by rw [hframe]; exact htables.held.trans hh
  have hstill : syncDue (t.chan c) (stampOf e.time t) = false := by
    unfold syncDue lineDue Line.due
    rw [hline]
    simp [Line.recognised]
  have hnow : syncDue (s.chan c) s.now = true := syncDue_iff.2 ⟨hw.1, hw.2.1, hw.2.2.trans hle⟩
  refine ⟨t, by rw [exec_syncRecognition_nil hh, if_pos hnow, ht], ?_⟩
  have htake : takeEdge c s (p, e) = takeEdge c t (p, e) := by
    unfold takeEdge
    dsimp only
    rw [if_pos (by rw [syncDue_iff.2 hw, decide_eq_true hle]; rfl), hstill, onEvent_eq hh, ← ht]
    rfl
  rw [exec_syncRecognition hh, exec_syncRecognition hheld, hfirst, List.foldl_cons, List.foldl_cons, htake]

theorem sync_mem_dueEvents (hh : s.held = false) (hw : syncWaits (s.chan c) s.now) :
    Instr.syncRecognition c [] [] ∈ dueEvents s := by
  refine mem_dueEvents (c := c) hh ?_
  unfold channelDue
  simp [mem_whenDue, syncDue_iff.2 hw]

theorem edgeMovesPin_iff {high level : Bool} {since edge now : Nat} :
    edgeMovesPin high since level edge now = true ↔ high ≠ level ∧ since ≤ edge ∧ edge ≤ now := by
  simp [edgeMovesPin, and_assoc]

theorem moveEdge_sync (c : Chan) (e : LineEdge) (s : State) : moveEdge c .sync e s = s.setChan c { s.chan c with
    syncLine := if (s.chan c).syncLine.high ≠ e.high ∧ (s.chan c).syncLine.since ≤ stampOf e.time s ∧ stampOf e.time s ≤ s.now
      then ⟨e.high, stampOf e.time s, false⟩ else (s.chan c).syncLine } := by
  rw [moveEdge, modChan_eq]
  dsimp only
  rw [Line.syncMoved, if_congr edgeMovesPin_iff rfl rfl]

theorem moveEdge_index (c : Chan) (e : LineEdge) (s : State) : moveEdge c .index e s = s.setChan c { s.chan c with
    indexPin := if (s.chan c).indexPin.high ≠ e.high ∧ (s.chan c).indexPin.since ≤ stampOf e.time s ∧ stampOf e.time s ≤ s.now
      then ⟨e.high, stampOf e.time s⟩ else (s.chan c).indexPin } := by
  rw [moveEdge, modChan_eq]
  dsimp only
  rw [Pin.moved, if_congr edgeMovesPin_iff rfl rfl]

/-! ## Acquisition -/

theorem setTracker_setChan (t : Tracker) : setTracker c t (s.setChan c y) = s.setChan c { y with tracker := t } := by
  rw [setTracker, modChan_eq, setChan_setChan, State.setChan_chan]

section Interval

variable {cfg : ChanConfig} {t tr : Tracker} {stamp : Nat} {i : Bool}

/-- A sync with an anchor held, that makes the tracker `t` (R57). -/
theorem acquire_next (hcfg : y.config = cfg) (htr : y.tracker = tr) (ha : tr.anchor = some a)
    (ht : nextInterval cfg tr a stamp i = t) : acquire c stamp i (s.setChan c y) =
      if t.state = .locked then placeNotice (syncChangeOf c .acquired t 0) (s.setChan c { y with tracker := t })
      else s.setChan c { y with tracker := t } := by
  unfold acquire
  dsimp only
  rw [State.setChan_chan, htr, ha]
  dsimp only
  rw [← hcfg] at ht
  rw [ht, setTracker_setChan]

theorem nextInterval_index (hlow : (cfg.pnom : Int) - cfg.tw ≤ (stamp : Int) - a.time)
    (hhigh : (stamp : Int) - a.time ≤ (cfg.pnom : Int) + cfg.tw) :
    nextInterval cfg tr a stamp true = { tr with anchor := some ⟨stamp, 0, 0⟩, good := 0 } := by
  unfold nextInterval
  dsimp only
  rw [if_pos ⟨hlow, hhigh⟩]
  rfl

theorem nextInterval_good (hlow : (cfg.pnom : Int) - cfg.tw ≤ (stamp : Int) - a.time)
    (hhigh : (stamp : Int) - a.time ≤ (cfg.pnom : Int) + cfg.tw) :
    nextInterval cfg tr a stamp false = ⟨if 2 ≤ tr.good + 1 then .locked else .acquiring,
      some ⟨stamp, (a.wedge + 1) % cfg.w, a.count + 1⟩, min (stamp - a.time) 65535, tr.good + 1, 0⟩ := by
  unfold nextInterval
  dsimp only
  rw [if_pos ⟨hlow, hhigh⟩, Int.toNat_sub]
  rfl

theorem nextInterval_bad (hout : (stamp : Int) - a.time < (cfg.pnom : Int) - cfg.tw ∨
    (cfg.pnom : Int) + cfg.tw < (stamp : Int) - a.time) :
    nextInterval cfg tr a stamp true = { tr with pest := cfg.pnom, good := 0, anchor := some ⟨stamp, 0, 0⟩ } ∧
      nextInterval cfg tr a stamp false = { tr with pest := cfg.pnom, good := 0, anchor := none } := by
  have hnot : ¬ ((cfg.pnom : Int) - cfg.tw ≤ (stamp : Int) - a.time ∧ (stamp : Int) - a.time ≤ (cfg.pnom : Int) + cfg.tw) := by
    omega
  unfold nextInterval
  dsimp only
  rw [if_neg hnot, if_neg hnot]
  exact ⟨rfl, rfl⟩

end Interval

/-- Settles O45: the edges taken in turn, the sync that is not due, and the sync that is recognised while OFFLINE and while
ACQUIRING. -/
theorem syncAcquires : Obligations.SyncAcquires := by
  intro c s x stamp y hh hx hstamp hy
  subst hx
  refine ⟨fun sync index e at' hs hi hat => ?_, fun hnot => ?_, fun hw => sync_mem_dueEvents hh hw, fun hw => ?_⟩
  · obtain rfl : stampOf e.time s = at' := hat.symm
    refine ⟨fun hfirst hw hle => ?_, fun hnot => ⟨fun rest hsync hfirst => ?_, fun rest hindex hfirst => ?_⟩⟩
    · obtain ⟨rest, hsync, hfirst⟩ | ⟨rest, hindex, hfirst⟩ := hfirst
      · exact exec_syncRecognition_overtaken hh ((edgesInOrder_first hs hi).1 hsync hfirst) hw hle
      · exact exec_syncRecognition_overtaken hh ((edgesInOrder_first hs hi).2 hindex hfirst) hw hle
    · rw [exec_syncRecognition_edge hh ((edgesInOrder_first hs hi).1 hsync hfirst) hnot, moveEdge_sync]
    · rw [exec_syncRecognition_edge hh ((edgesInOrder_first hs hi).2 hindex hfirst) hnot, moveEdge_index]
  · rw [exec_syncRecognition_nil hh, if_neg (by rw [syncDue_iff]; exact hnot)]
  · have hexec := exec_syncRecognised hh hw
    rw [← hstamp, ← hy] at hexec
    have hchan := State.setChan_chan s c y
    have htr : y.tracker = (s.chan c).tracker := by rw [hy]; rfl
    have hcfg : y.config = (s.chan c).config := by rw [hy]; rfl
    unfold syncRecognised at hexec
    rw [hchan, htr] at hexec
    refine ⟨fun hoff => ?_, fun hacq hnone => ?_, fun a hacq ha => ?_⟩
    · rw [hoff] at hexec
      exact hexec
    · rw [hacq] at hexec
      dsimp only at hexec
      rw [acquire, hchan, htr, hnone] at hexec
      refine ⟨fun hindex => ?_, fun hindex => ?_⟩
      · rw [carriesIndex_iff.2 hindex] at hexec
        dsimp only at hexec
        rw [if_pos rfl, setTracker_setChan] at hexec
        exact hexec
      · rw [← carriesIndex_iff, Bool.not_eq_true] at hindex
        rw [hindex] at hexec
        exact hexec
    · rw [hacq] at hexec
      dsimp only at hexec
      have hnext := fun i t => acquire_next (s := s) (c := c) (stamp := stamp) (i := i) (t := t) hcfg htr ha
      refine ⟨fun hlow hhigh => ⟨fun hindex => ?_, fun hindex hgood => ?_, fun hindex hgood => ?_⟩,
        fun hout => ⟨fun hindex => ?_, fun hindex => ?_⟩⟩
      · rw [carriesIndex_iff.2 hindex, hnext _ _ (nextInterval_index hlow hhigh), if_neg (by rw [hacq]; decide)] at hexec
        exact hexec
      · rw [← carriesIndex_iff, Bool.not_eq_true] at hindex
        have hgap := nextInterval_good (tr := (s.chan c).tracker) hlow hhigh
        rw [hgood, if_neg (by decide)] at hgap
        rw [hindex, hnext _ _ hgap, if_neg (fun h => nomatch h)] at hexec
        exact hexec
      · rw [← carriesIndex_iff, Bool.not_eq_true] at hindex
        have hgap := nextInterval_good (tr := (s.chan c).tracker) hlow hhigh
        rw [hgood, if_pos (by decide)] at hgap
        rw [hindex, hnext _ _ hgap, if_pos rfl] at hexec
        exact hexec
      · rw [carriesIndex_iff.2 hindex, hnext _ _ (nextInterval_bad hout).1, if_neg (by rw [hacq]; decide)] at hexec
        exact hexec
      · rw [← carriesIndex_iff, Bool.not_eq_true] at hindex
        rw [hindex, hnext _ _ (nextInterval_bad hout).2, if_neg (by rw [hacq]; decide)] at hexec
        exact hexec

/-! ## Tracking -/

theorem accepts_iff {cfg : ChanConfig} {tr : Tracker} {stamp : Nat} : accepts cfg tr a stamp = true ↔
    ((a.time + tr.pest : Int) - cfg.tw ≤ stamp ∧ (stamp : Int) ≤ (a.time + tr.pest : Int) + cfg.tw) := by
  unfold accepts Tracker.prediction
  simp

/-- Settles O46: the sync outside the tracking window, the index slip, and the anchor. -/
theorem syncTracks : Obligations.SyncTracks := by
  intro c s x y0 stamp a w p hh hx hw hstamp hy hsynced ha hwedge hp
  subst hx
  have hexec := exec_syncRecognised hh hw
  rw [← hstamp, ← hy] at hexec
  have hchan := State.setChan_chan s c y0
  have htr : y0.tracker = (s.chan c).tracker := by rw [hy]; rfl
  have hcfg : y0.config = (s.chan c).config := by rw [hy]; rfl
  have htrack : exec (.syncRecognition c [] []) s =
      .next (track c stamp (carriesIndex (s.chan c)) (s.setChan c y0)).settled := by
    rw [hexec, syncRecognised, hchan, htr]
    obtain hsynced | hsynced := hsynced <;> rw [hsynced]
  rw [track, hchan, htr, ha, hcfg] at htrack
  dsimp only at htrack
  refine ⟨fun hout => ?_, fun hlow hhigh => ?_⟩
  · rw [if_neg (by rw [accepts_iff]; omega)] at htrack
    exact htrack
  · rw [if_pos (accepts_iff.2 ⟨hlow, hhigh⟩), ← hwedge] at htrack
    refine ⟨fun hindex hw0 => ?_, fun y hanchor hruns hy1 => ?_⟩
    · rw [if_pos ⟨carriesIndex_iff.2 hindex, hw0⟩] at htrack
      obtain ⟨hloses, hsync, hpin⟩ := loseReference_loses (s := s) (c := c) (x := y0) (cause := .indexSlip)
        (tr := ⟨.acquiring, some ⟨stamp, 0, 0⟩, (s.chan c).config.pnom, 0, 0⟩) rfl rfl rfl (by rw [hy]; rfl)
      exact ⟨_, htrack, hsync, hpin, hloses⟩
    · rw [if_neg (by rw [carriesIndex_iff]; tauto), setTracker_setChan] at htrack
      have hpest : updatedPest (s.chan c).tracker.pest a stamp = p := by rw [hp]; rfl
      rw [hpest] at htrack
      have houtcome := anchorEvent_outcome (u := s) (c := c) (x := { y0 with
        tracker := ⟨.locked, some ⟨stamp, w, a.count + 1⟩, p, (s.chan c).tracker.good, 0⟩ }) hh rfl
        (by rw [hy]; exact hruns) htrack
      rw [← hy1, hy] at houtcome
      exact houtcome

end Sys2Proof.Machine
end

section
/-! PROOFS. CANCEL (R20, R21): what it does to one queue, and what follows the removal of a front burst. -/

namespace Sys2Proof.Machine

variable {s t u w : State} {c : Chan} {x y : Channel} {b d k : Burst} {rest left : List Burst} {out : Burst → Bool}

/-! ## One queue -/

/-- CANCEL on the queue of one channel, of the bursts that `out` selects (R20). -/
def cancelQueue (c : Chan) (out : Burst → Bool) (s : State) : State :=
  if (s.chan c).queue.head?.any out then atOnce c (fun s => removeWhere c out (cancelFront c s)) s else removeWhere c out s

theorem cancelOn_eq {sel : Burst → Bool} (hout : ∀ b, out b = (sel b && !runsOn b.state)) (s : State) :
    cancelOn c sel s = (cancelQueue c out s, (s.chan c).queue.countP out,
      (s.chan c).queue.countP fun b => sel b && runsOn b.state) := by
  have hskips : ∀ k : BurstState, k.skipsCancel = runsOn k := fun k => by cases k <;> rfl
  obtain rfl : out = fun b => sel b && !b.state.skipsCancel := funext fun b => by rw [hout, hskips]
  unfold cancelOn
  simp only [hskips]
  rfl

theorem SameOther.cancelQueue (c : Chan) (out : Burst → Bool) (s : State) : SameOther c s (cancelQueue c out s) := by
  unfold Machine.cancelQueue
  split
  · exact .atOnce ((SameOther.cancelFront ..).trans (.removeWhere ..))
  · exact .removeWhere ..

theorem Calm.cancelQueue (c : Chan) (out : Burst → Bool) (s : State) : Calm s (cancelQueue c out s) := by
  unfold Machine.cancelQueue
  split
  · exact .atOnce ((Calm.cancelFront c s).trans (.removeWhere ..))
  · exact .removeWhere ..

/-- A CANCEL that leaves the front burst. -/
theorem cancelQueue_kept (hout : ∀ b ∈ (s.chan c).queue.head?, out b = false) :
    cancelQueue c out s = s.setChan c { s.chan c with queue := (s.chan c).queue.filter fun b => !out b } := by
  have hnot : ¬ (s.chan c).queue.head?.any out = true := by
    rw [Option.any_eq_true]
    rintro ⟨b, hb, hyes⟩
    rw [hout b hb] at hyes
    cases hyes
  rw [cancelQueue, if_neg hnot, removeWhere_eq, Channel.without, if_neg hnot]

theorem cancelQueue_none (hout : ∀ b ∈ (s.chan c).queue, out b = false) : cancelQueue c out s = s := by
  have hall : (s.chan c).queue.filter (fun b => !out b) = (s.chan c).queue :=
    List.filter_eq_self.2 fun b hb => by rw [hout b hb]; rfl
  rw [cancelQueue_kept fun b hb => hout b (List.mem_of_mem_head? hb), hall]
  exact setChan_self s c

/-! ## The removal of a front burst -/

/-- The front burst of a channel in R67's table: a HEATING or READY one is lit, and a BARRED one that the Sequencer runs is in its
tail. -/
theorem phaseMatches_front (hp : phaseMatches x) (hb : x.queue.head? = some b) :
    (b.state = .heating ∨ b.state = .ready → x.seq.laser.lit = true ∧ x.seq.active = .front) ∧
      ((∃ r, b.state = .barred r) → x.seq.active = .front → x.seq.laser = .tail) := by
  have hrest : (∀ d ∈ x.queue.head?, d.state.begun = false) → ¬ (b.state = .heating ∨ b.state = .ready) := by
    rintro hf (hs | hs) <;> have hb := hf b hb <;> rw [hs] at hb <;> cases hb
  have hfront : ∀ P : Burst → Prop, (∃ d ∈ x.queue.head?, P d) → P b := by
    rintro P ⟨d, hd, hp⟩
    rw [hb] at hd
    cases hd
    exact hp
  unfold phaseMatches at hp
  split at hp
  next hl ha => exact ⟨fun h => absurd h (hrest hp.2), fun _ h => (nomatch ha.symm.trans h)⟩
  next hl ha => exact ⟨fun h => absurd h (hrest hp.2), fun _ h => (nomatch ha.symm.trans h)⟩
  next hl ha => exact ⟨fun _ => ⟨by rw [hl]; rfl, ha⟩, fun ⟨r, h⟩ => (nomatch (hfront _ hp).symm.trans h)⟩
  next hl ha => exact ⟨fun _ => ⟨by rw [hl]; rfl, ha⟩, fun ⟨r, h⟩ => (nomatch (hfront _ hp).symm.trans h)⟩
  next hl ha => exact ⟨fun _ => ⟨by rw [hl]; rfl, ha⟩, fun ⟨r, h⟩ => (nomatch (hfront _ hp).symm.trans h)⟩
  next hl ha => exact ⟨fun _ => ⟨by rw [hl]; rfl, ha⟩, fun ⟨r, h⟩ => (nomatch (hfront _ hp).symm.trans h)⟩
  next hl ha => exact ⟨fun _ => ⟨by rw [hl]; rfl, ha⟩, fun _ _ => hl⟩
  next hl ha => exact ⟨fun h => absurd h (hrest hp), fun _ h => (nomatch ha.symm.trans h)⟩
  next => exact hp.elim

theorem cancelled_front (hq : x.queue = b :: rest) (hout : out b = true) (n : Nat) : x.cancelled out n = { x with
    queue := asFront (rest.filter fun b => !out b)
    gate := (rest.filter fun b => !out b).head?.bind (expectedGate x.tracker)
    seq := (x.cancelled out n).seq } := by
  have hkept : (b :: rest).filter (fun b => !out b) = rest.filter fun b => !out b :=
    List.filter_cons_of_neg (by simp [hout])
  unfold Channel.cancelled
  dsimp only
  rw [hq, hkept]
  dsimp only
  rw [if_pos hout]

theorem cancelled_seq (hq : x.queue = b :: rest) (hout : out b = true) (n : Nat) :
    (b.state = .heating ∨ b.state = .ready → (x.cancelled out n).seq = { x.seq with
        laser := .tail
        active := .detached (b.litFor x.seq.laser (n - x.seq.phaseStart))
        phaseEnd := some (n + b.plan.tailLen)
        overrunAt := none
        phaseStart := n }) ∧
      (∀ r, b.state = .barred r → (x.cancelled out n).seq =
        if x.seq.active = .front then { x.seq with active := .detached b } else x.seq) ∧
      (b.state = .queued → (x.cancelled out n).seq = x.seq) := by
  unfold Channel.cancelled
  dsimp only
  rw [hq]
  dsimp only
  rw [if_pos hout]
  refine ⟨fun hs => ?_, fun r hs => ?_, fun hs => ?_⟩
  · obtain hs | hs := hs <;> rw [hs]
  · rw [hs]
  · rw [hs]

theorem released_tail (hq : x.queue = b :: rest) (ht : x.frontTail = true) :
    x.released = { x with seq := { x.seq with active := .detached b } } := by
  unfold Channel.released
  rw [hq]
  dsimp only
  rw [if_pos ht, ← hq]

theorem released_still (ht : x.frontTail = false) : x.released = x := by
  unfold Channel.released
  split
  · rfl
  · rw [ht]
    rfl

/-- A front burst leaves by CANCEL (R20, R69, R93). -/
theorem cancelFront_removed (hp : phaseMatches (s.chan c)) (hq : (s.chan c).queue = b :: rest) (hout : out b = true)
    (hruns : runsOn b.state = false) (hblind : ∀ l n, out (b.litFor l n) = out b) :
    removeWhere c out (cancelFront c s) = (cancelHeat c out s).setChan c ((s.chan c).cancelled out s.now) := by
  obtain ⟨hlit, hbarred⟩ := phaseMatches_front hp (b := b) (by rw [hq]; rfl)
  obtain ⟨hbegun, hbar, hqueued⟩ := cancelled_seq hq hout s.now
  have hwithout : ∀ (y : Channel) (d : Burst), y.queue = d :: rest → out d = true → y.tracker = (s.chan c).tracker →
      y.without out = { y with
        queue := asFront (rest.filter fun b => !out b)
        gate := (rest.filter fun b => !out b).head?.bind (expectedGate (s.chan c).tracker) } := by
    intro y d hy hd ht
    rw [without_front hy hd, ht]
  have hlitCase : b.state = .heating ∨ b.state = .ready →
      removeWhere c out (detachFront c (enterTail c s)) = s.setChan c ((s.chan c).cancelled out s.now) := by
    intro hs
    obtain ⟨hl, ha⟩ := hlit hs
    have htail := enterTail_front hq ha hl id
    have hself : modFront c id s = s := by
      rw [modFront_eq, hq, modFirst, id, ← hq]
      exact setChan_self s c
    rw [hself] at htail
    have hfront : (s.setChan c ((s.chan c).tailing (b.litFor (s.chan c).seq.laser (s.now - (s.chan c).seq.phaseStart)) s.now)).front c =
        some (b.litFor (s.chan c).seq.laser (s.now - (s.chan c).seq.phaseStart)) := by
      rw [State.front, State.setChan_chan]
      rfl
    rw [htail, id, detachFront, hfront]
    dsimp only
    rw [modSeq_eq, removeWhere_eq, setChan_setChan, setChan_setChan, State.setChan_chan, State.setChan_chan,
      hwithout _ (b.litFor (s.chan c).seq.laser (s.now - (s.chan c).seq.phaseStart)) ?_ ?_ ?_, cancelled_front hq hout,
      hbegun hs]
    · rfl
    · rw [Channel.tailing, hq]
      rfl
    · rw [hblind, hout]
    · rfl
  have hfront : s.front c = some b := by rw [State.front, hq]; rfl
  have hheat : (cancelHeat c out s) = match b.state with
      | .barred _ => if out b ∧ (s.chan c).seq.active ≠ .front then charge b.head (heatOf b.acc) s else s
      | .queued | .heating | .ready | .writing | .cooling _ => s := by
    rw [cancelHeat, hq] <;> rfl
  unfold cancelFront
  rw [hfront, hheat]
  dsimp only
  cases hs : b.state with
  | heating => exact hlitCase (.inl hs)
  | ready => exact hlitCase (.inr hs)
  | queued =>
    dsimp only
    rw [removeWhere_eq, hwithout _ b hq hout rfl, cancelled_front hq hout, hqueued hs]
  | barred r =>
    dsimp only
    rw [releaseFront_eq, removeWhere_eq, State.setChan_chan, setChan_setChan, cancelled_front hq hout, hbar r hs]
    by_cases ha : (s.chan c).seq.active = .front
    · have htail : (s.chan c).frontTail = true := frontTail_eq_true.2 ⟨hbarred ⟨r, hs⟩ ha, ha⟩
      rw [if_neg fun h => h.2 ha, if_pos ha, chargeEnded, if_pos htail, released_tail hq htail,
        hwithout { s.chan c with seq := { (s.chan c).seq with active := .detached b } } b hq hout rfl]
    · have htail : (s.chan c).frontTail = false := by
        rw [← Bool.not_eq_true, frontTail_eq_true]
        exact fun h => ha h.2
      have hcharge : chargeEnded c s = charge b.head (heatOf b.acc) s := by
        rw [chargeEnded, if_neg (by rw [htail]; decide), chargeFront, hfront]
        rfl
      rw [if_pos ⟨hout, ha⟩, if_neg ha, hcharge, charge_chan, released_still htail, hwithout _ b hq hout rfl]
  | writing => rw [hs] at hruns; cases hruns
  | cooling v => rw [hs] at hruns; cases hruns

theorem cancelHeat_frame (c : Chan) (out : Burst → Bool) (s : State) :
    cancelHeat c out s = { s with heads := (cancelHeat c out s).heads, link := (cancelHeat c out s).link } := by
  unfold cancelHeat
  split
  · rfl
  · split
    · split
      · exact charge_frame ..
      · rfl
    all_goals rfl

@[simp] theorem cancelHeat_chan (c d : Chan) (out : Burst → Bool) (s : State) : (cancelHeat c out s).chan d = s.chan d := by
  rw [cancelHeat_frame]; cases d <;> rfl
@[simp] theorem cancelHeat_now (c : Chan) (out : Burst → Bool) (s : State) : (cancelHeat c out s).now = s.now := by
  rw [cancelHeat_frame]

theorem cancelHeat_kept (hout : ∀ b ∈ (s.chan c).queue.head?, out b = false) : cancelHeat c out s = s := by
  unfold cancelHeat
  split
  · rfl
  · rename_i b rest hq
    split
    · rw [if_neg fun h => by rw [hout b (by rw [hq]; rfl)] at h; cases h.1]
    all_goals rfl

theorem cancelled_kept (hout : ∀ b ∈ x.queue.head?, out b = false) (n : Nat) :
    x.cancelled out n = { x with queue := x.queue.filter fun b => !out b } := by
  unfold Channel.cancelled
  dsimp only
  split
  · rename_i hq
    rw [hq, List.filter_nil, ← hq]
  · rename_i b rest hq
    rw [if_neg (by rw [hout b (by rw [hq]; rfl)]; decide)]

/-- The heat that a CANCEL charges depends on the heads, the link and the channel alone. -/
theorem cancelHeat_setChan {e : Chan} (he : e ≠ c) (y : Channel) (s : State) :
    cancelHeat c out (s.setChan e y) = (cancelHeat c out s).setChan e y := by
  have hchan : (s.setChan e y).chan c = s.chan c := by cases c <;> cases e <;> first | rfl | exact absurd rfl he
  unfold cancelHeat
  rw [hchan]
  split
  · rfl
  · split
    · split
      · exact charge_setChan ..
      · rfl
    all_goals rfl

/-- The bursts that a CANCEL selects are known by their tags, heads and states, and none of them is WRITING or COOLING (R20). -/
structure Selects (out : Burst → Bool) : Prop where
  stops : ∀ b, out b = true → runsOn b.state = false
  blind : ∀ b d : Burst, d.tag = b.tag → d.head = b.head → d.state = b.state → out d = out b

/-- What CANCEL leaves of a queue when nothing follows at once. -/
theorem cancelQueue_eq (hsel : Selects out) (hp : phaseMatches (s.chan c))
    (hcond : ∀ b ∈ (s.chan c).queue.head?, out b = true → tailRuns (s.chan c) ∧
      waitsInTurn (s.chan c) s.now ((s.chan c).queue.filter fun d => !out d) ∧
      (b.state = .heating ∨ b.state = .ready → 0 < b.plan.tailLen)) :
    cancelQueue c out s = (cancelHeat c out s).setChan c ((s.chan c).cancelled out s.now) := by
  by_cases hany : (s.chan c).queue.head?.any out = true
  · obtain ⟨b, hb, hout⟩ := (Option.any_eq_true ..).1 hany
    obtain ⟨rest, hq⟩ : ∃ rest, (s.chan c).queue = b :: rest := ⟨_, front_queue hb⟩
    obtain ⟨hruns, hwait, hlen⟩ := hcond b hb hout
    obtain ⟨hbegun, hbar, hqueued⟩ := cancelled_seq hq hout s.now
    have hremoved := cancelFront_removed hp hq hout (hsel.stops b hout) fun l n => hsel.blind b _ rfl rfl rfl
    have hkept : ((s.chan c).queue.filter fun d => !out d) = rest.filter fun d => !out d := by
      rw [hq]
      exact List.filter_cons_of_neg (by simp [hout])
    have hchan := State.setChan_chan (cancelHeat c out s) c ((s.chan c).cancelled out s.now)
    rw [cancelQueue, if_pos hany, ← hremoved]
    refine atOnce_still ?_ ?_
    · rw [hremoved, hchan]
      have hstops := hsel.stops b hout
      unfold tailRuns
      cases hs : b.state with
      | heating =>
        rw [hbegun (.inl hs)]
        rintro - e ⟨⟩
        exact Nat.lt_add_of_pos_right (hlen (.inl hs))
      | ready =>
        rw [hbegun (.inr hs)]
        rintro - e ⟨⟩
        exact Nat.lt_add_of_pos_right (hlen (.inr hs))
      | queued => rw [hqueued hs]; exact hruns
      | barred r =>
        rw [hbar r hs]
        split <;> exact hruns
      | writing => rw [hs] at hstops; cases hstops
      | cooling v => rw [hs] at hstops; cases hstops
    · rw [hremoved, hchan, State.setChan_now, cancelHeat_now]
      rw [hkept] at hwait
      rw [cancelled_front hq hout]
      exact hwait.closeDue rfl rfl rfl
  · have hout : ∀ b ∈ (s.chan c).queue.head?, out b = false := by
      intro b hb
      by_contra hyes
      exact hany ((Option.any_eq_true ..).2 ⟨b, hb, by simpa using hyes⟩)
    rw [cancelQueue_kept hout, cancelHeat_kept hout, cancelled_kept hout]

/-! ## A tail of no length -/

/-- A HEATING or READY front burst whose tail has no length is removed: the tail is over at once. -/
theorem cancelQueue_zero (hsel : Selects out) (hp : phaseMatches (s.chan c)) (hq : (s.chan c).queue = b :: rest)
    (hout : out b = true) (hs : b.state = .heating ∨ b.state = .ready) (hlen : b.plan.tailLen = 0)
    (hu : u = s.setChan c ((s.chan c).cancelled out s.now)) :
    phaseDue .tail (u.chan c).seq u.now = true ∧
      (waitsInTurn (s.chan c) s.now (rest.filter fun d => !out d) → cancelQueue c out s = tailOver c u) ∧
      (∀ r, (rest.filter fun d => !out d) = d :: left → closesOnEntry (s.chan c) s.now d r →
        waitsInTurn (s.chan c) s.now left → TagLaw s →
        Settles c { d with state := .barred r } ⟨.vetoed, r⟩ left (tailOver c u) (cancelQueue c out s)) := by
  obtain ⟨hbegun, -, -⟩ := cancelled_seq hq hout s.now
  have hremoved := cancelFront_removed hp hq hout (hsel.stops b hout) fun l n => hsel.blind b _ rfl rfl rfl
  have hheat : cancelHeat c out s = s := by
    unfold cancelHeat
    rw [hq]
    dsimp only
    obtain hs | hs := hs <;> rw [hs]
  rw [hheat, ← hu] at hremoved
  have hcancel : cancelQueue c out s = atOnce c (fun s => removeWhere c out (cancelFront c s)) s := by
    rw [cancelQueue, if_pos]
    rw [hq, List.head?_cons, Option.any_some, hout]
  have hchan : u.chan c = (s.chan c).cancelled out s.now := by rw [hu, State.setChan_chan]
  have hnow : u.now = s.now := by rw [hu, State.setChan_now]
  have hseq := hbegun hs
  rw [← hchan, hlen] at hseq
  have hfront := cancelled_front hq hout s.now
  rw [← hchan] at hfront
  refine ⟨by rw [hseq, hnow]; simp [phaseDue], fun hwait => ?_, fun r hkept hcloses hwait htag => ?_⟩
  · rw [hcancel, atOnce_of_none, hremoved, tailAtOnce, if_pos (by rw [hseq]; simp [zeroTail])]
    rw [hremoved, dueClose_eq_none, hnow]
    exact hwait.closeDue (by rw [hfront]) (by rw [hfront]) (by rw [hfront])
  · obtain ⟨hdfront, hdv, g, hg, hfresh, hle⟩ := hcloses.front (left := left)
    obtain ⟨hdue, hover, hend, hsettles⟩ := zeroTail_closes (u := u) (c := c) (k := { d with state := .barred r }) (left := left)
      (d := b.litFor (s.chan c).seq.laser (s.now - (s.chan c).seq.phaseStart)) (g := g) (r := r) (by rw [hseq]) (by rw [hseq])
      (by rw [hseq, hnow]; rfl) (by rw [hseq, hnow]) (by rw [hfront, hkept]; exact hdfront) rfl hdv
      (by rw [hfront, hkept]; exact hg) hfresh (by rw [hfront, hnow]; exact hle)
      (by rw [hnow]; unfold waitsInTurn; rw [hfront]; exact hwait)
    have hown : dueClose c u ≠ dueClose c s := by
      rw [hdue]
      intro heq
      have hmem : d ∈ rest.filter fun d => !out d := by rw [hkept]; exact List.mem_cons_self ..
      exact htag.front_ne hq d (List.mem_filter.1 hmem).1 (dueClose_front hq heq.symm)
    have hatOnce : cancelQueue c out s = runAtOnce c none u := by
      rw [hcancel]
      unfold atOnce
      dsimp only
      rw [hremoved, if_neg hown]
    rw [hatOnce, hend, hover]
    exact hsettles

/-! ## What every CANCEL leaves -/

/-- No burst of the queue is lit and waiting for its gate. -/
def NoneLit (q : List Burst) : Prop := ∀ d ∈ q, ¬ (d.state = .heating ∨ d.state = .ready)

theorem NoneLit.asFront {q : List Burst} (h : NoneLit q) : NoneLit (asFront q) := by
  cases q with
  | nil => exact h
  | cons b rest =>
    intro d hd
    rw [Machine.asFront_eq] at hd
    obtain rfl | hd := List.mem_cons.1 hd
    · unfold Burst.enterDecidedBar
      split
      · exact fun hs => hs.elim (fun h => nomatch h) fun h => nomatch h
      · exact h b (List.mem_cons_self ..)
    · exact h d (List.mem_cons_of_mem _ hd)

theorem closeWindow_still (hq : (s.chan c).queue = b :: rest) (hs : b.state = .queued ∨ runsOn b.state = true) :
    closeWindow c s = s := by
  unfold closeWindow State.front
  rw [hq]
  dsimp only [List.head?_cons]
  cases hstate : b.state <;> rw [hstate] at hs <;> first | rfl | simp [runsOn] at hs

/-- The close of a window changes no Sequencer while no front burst is lit. -/
theorem closeWindow_unlit (h : NoneLit (s.chan c).queue) : ((closeWindow c s).chan c).seq = (s.chan c).seq ∧
    NoneLit ((closeWindow c s).chan c).queue := by
  cases hq : (s.chan c).queue with
  | nil =>
    have hnone : closeWindow c s = s := by
      unfold closeWindow State.front
      rw [hq]
      rfl
    rw [hnone, hq]
    exact ⟨rfl, fun _ hd => nomatch hd⟩
  | cons b rest =>
    rw [hq] at h
    have hb := h b (List.mem_cons_self ..)
    have hrest : NoneLit rest := fun d hd => h d (List.mem_cons_of_mem _ hd)
    cases hs : b.state with
    | heating => exact absurd (.inl hs) hb
    | ready => exact absurd (.inr hs) hb
    | barred r =>
      have hover : NoneLit (s.chan c).windowOver.queue := by
        rw [windowOver_front hq]
        intro d hd
        obtain rfl | hd := List.mem_cons.1 hd
        · split <;> exact hb
        · exact hrest d hd
      rw [closeWindow_barred hq hs]
      split
      · rw [State.setChan_chan]
        exact ⟨rfl, hover⟩
      · refine ⟨by rw [completeBarred_seq, State.setChan_chan]; rfl, ?_⟩
        unfold completeBarred
        split
        · rw [State.setChan_chan]; exact hover
        · split
          · split
            · rw [completeFront_chan]
              split
              · rw [State.setChan_chan]; exact hover
              · unfold Channel.advanced
                rw [State.setChan_chan]
                exact NoneLit.asFront fun d hd => hover d (List.mem_of_mem_tail hd)
            · rw [State.setChan_chan]; exact hover
          all_goals rw [State.setChan_chan]; exact hover
    | queued => rw [closeWindow_still hq (.inl hs), hq]; exact ⟨rfl, h⟩
    | writing => rw [closeWindow_still hq (.inr (by rw [hs]; rfl)), hq]; exact ⟨rfl, h⟩
    | cooling v => rw [closeWindow_still hq (.inr (by rw [hs]; rfl)), hq]; exact ⟨rfl, h⟩

/-- With no lit burst in the queue, a tail that runs on stays as it is through what follows at once. -/
theorem runAtOnce_unlit {own : Option U16} (h : NoneLit (s.chan c).queue) (ht : tailRuns (s.chan c)) :
    ((runAtOnce c own s).chan c).seq = (s.chan c).seq := by
  have hrounds : ∀ (n : Nat) (s : State), NoneLit (s.chan c).queue → zeroTail (s.chan c).seq = false →
      ((atOnceRounds n c own s).chan c).seq = (s.chan c).seq := by
    intro n
    induction n with
    | zero => exact fun _ _ _ => rfl
    | succ n ih =>
      intro s h hz
      rw [atOnceRounds, if_neg (by rw [hz]; decide)]
      split
      · rfl
      · obtain ⟨hseq, hrest⟩ := closeWindow_unlit h
        rw [ih _ hrest (by rw [hseq]; exact hz), hseq]
  exact hrounds _ s h (zeroTail_eq_false.2 ht)

theorem QueueAges.known {q r : List Burst} (h : QueueAges q r) (hb : b ∈ r) : ∃ d ∈ q, d.tag = b.tag ∧ d.head = b.head := by
  obtain ⟨d, hd, hcore⟩ := List.mem_map.1 (h.cores.subset (List.mem_map_of_mem hb))
  exact ⟨d, hd, congrArg (fun p => p.1) hcore, congrArg (fun p => p.2.1) hcore⟩

/-- Every burst that is left was held, and was not selected. -/
theorem cancelQueue_bursts (hsel : Selects out) (hp : phaseMatches (s.chan c)) :
    ∀ b ∈ ((cancelQueue c out s).chan c).queue, ∃ d ∈ (s.chan c).queue, out d = false ∧ d.tag = b.tag ∧ d.head = b.head := by
  have hkept : ∀ q : List Burst, QueueAges ((s.chan c).queue.filter fun d => !out d) q → ∀ b ∈ q,
      ∃ d ∈ (s.chan c).queue, out d = false ∧ d.tag = b.tag ∧ d.head = b.head := by
    intro q hq b hb
    obtain ⟨d, hd, htag, hhead⟩ := hq.known hb
    obtain ⟨hd, hout⟩ := List.mem_filter.1 hd
    exact ⟨d, hd, by simpa using hout, htag, hhead⟩
  refine hkept _ ?_
  by_cases hany : (s.chan c).queue.head?.any out = true
  · obtain ⟨b, hb, hout⟩ := (Option.any_eq_true ..).1 hany
    have hq := front_queue (s := s) (c := c) hb
    have hremoved := cancelFront_removed hp hq hout (hsel.stops b hout) fun l n => hsel.blind b _ rfl rfl rfl
    rw [cancelQueue, if_pos hany, atOnce, hremoved]
    refine .trans ?_ ((Steady.runAtOnce ..).ages c).queue
    rw [State.setChan_chan, cancelled_front hq hout, hq, List.filter_cons_of_neg (by simp [hout])]
    exact .asFront _
  · rw [cancelQueue, if_neg hany, removeWhere_chan, Channel.without, if_neg hany]
    exact .refl _

/-- A HEATING or READY front burst with a tail leaves it running, detached. -/
theorem cancelQueue_detaches (hsel : Selects out) (hp : phaseMatches (s.chan c)) (hw : ∀ d ∈ rest, d.state = .queued)
    (hq : (s.chan c).queue = b :: rest) (hout : out b = true) (hs : b.state = .heating ∨ b.state = .ready)
    (hlen : 0 < b.plan.tailLen) : ((cancelQueue c out s).chan c).seq = { (s.chan c).seq with
      laser := .tail
      active := .detached (b.litFor (s.chan c).seq.laser (s.now - (s.chan c).seq.phaseStart))
      phaseEnd := some (s.now + b.plan.tailLen)
      overrunAt := none
      phaseStart := s.now } := by
  have hremoved := cancelFront_removed hp hq hout (hsel.stops b hout) fun l n => hsel.blind b _ rfl rfl rfl
  have hseq := (cancelled_seq hq hout s.now).1 hs
  have hchan := State.setChan_chan (cancelHeat c out s) c ((s.chan c).cancelled out s.now)
  rw [cancelQueue, if_pos (by rw [hq, List.head?_cons, Option.any_some, hout]), atOnce, hremoved, runAtOnce_unlit, hchan, hseq]
  · rw [hchan, cancelled_front hq hout]
    refine NoneLit.asFront fun d hd => ?_
    rw [hw d (List.mem_filter.1 hd).1]
    exact fun hs => hs.elim (fun h => nomatch h) fun h => nomatch h
  · rw [hchan, tailRuns, hseq]
    rintro - e ⟨⟩
    exact Nat.lt_add_of_pos_right hlen

/-! ## Both queues -/

/-- CANCEL on both queues, channel 0 first. -/
def cancelQueues (out : Chan → Burst → Bool) (s : State) : State := cancelQueue .c1 (out .c1) (cancelQueue .c0 (out .c0) s)

/-- The bursts that a CANCEL removes (R20). -/
def cancels (f : CancelFields) (c : Chan) (b : Burst) : Bool := reaches f c b && !runsOn b.state

theorem cancels_selects (f : CancelFields) (c : Chan) : Selects (cancels f c) where
  stops b hb := by
    obtain ⟨-, hruns⟩ := Bool.and_eq_true_iff.1 hb
    simpa using hruns
  blind b d ht hh hs := by
    unfold cancels reaches
    rw [ht, hh, hs]

/-- The bursts that a CANCEL reaches and skips (R20). -/
def skips (f : CancelFields) (c : Chan) (b : Burst) : Bool := reaches f c b && runsOn b.state

/-- The number of bursts in both queues that `sel` selects. -/
def countBoth (sel : Chan → Burst → Bool) (s : State) : Nat := s.ch0.queue.countP (sel .c0) + s.ch1.queue.countP (sel .c1)

theorem cancelBoth_eq {sel : Burst → Bool} {f : CancelFields} (hsel : ∀ c b, reaches f c b = sel b) (s : State) :
    cancelBoth sel s = (cancelQueues (cancels f) s, countBoth (cancels f) s, countBoth (skips f) s) := by
  have hout : ∀ c b, cancels f c b = (sel b && !runsOn b.state) := fun c b => by rw [cancels, hsel]
  have hskips : ∀ c, skips f c = fun b => sel b && runsOn b.state := fun c => funext fun b => by rw [skips, hsel]
  have hother : (cancelQueue .c0 (cancels f .c0) s).chan .c1 = s.ch1 := SameOther.cancelQueue .c0 _ s
  unfold cancelBoth cancelQueues countBoth
  rw [cancelOn_eq (hout .c0)]
  dsimp only
  rw [cancelOn_eq (hout .c1), hother, hskips, hskips]
  rfl

/-- A CANCEL that reaches one queue alone. -/
theorem cancelOne_eq {f : CancelFields} {c : Chan} (hone : ∀ b, reaches f c b = true) (hnone : ∀ b, reaches f c.other b = false)
    (s : State) : cancelOn c (fun _ => true) s =
      (cancelQueues (cancels f) s, countBoth (cancels f) s, countBoth (skips f) s) := by
  have hout : ∀ b, cancels f c b = (true && !runsOn b.state) := fun b => by rw [cancels, hone]
  have hskips : skips f c = fun b => true && runsOn b.state := funext fun b => by rw [skips, hone]
  have hkept : ∀ b, cancels f c.other b = false := fun b => by rw [cancels, hnone]; rfl
  have hzero : ∀ q : List Burst, q.countP (cancels f c.other) = 0 ∧ q.countP (skips f c.other) = 0 := fun q =>
    ⟨List.countP_eq_zero.2 fun b _ => by rw [hkept]; decide, List.countP_eq_zero.2 fun b _ => by rw [skips, hnone, Bool.false_and]; decide⟩
  rw [cancelOn_eq hout, ← hskips]
  unfold cancelQueues countBoth
  cases c with
  | c0 =>
    have hzero : _ ∧ _ := hzero s.ch1.queue
    rw [cancelQueue_none (c := .c1) (out := cancels f .c1) fun b _ => hkept b,
      show s.ch1.queue.countP (cancels f .c1) = 0 from hzero.1, show s.ch1.queue.countP (skips f .c1) = 0 from hzero.2]
    rfl
  | c1 =>
    have hzero : _ ∧ _ := hzero s.ch0.queue
    rw [cancelQueue_none (c := .c0) (out := cancels f .c0) fun b _ => hkept b,
      show s.ch0.queue.countP (cancels f .c0) = 0 from hzero.1, show s.ch0.queue.countP (skips f .c0) = 0 from hzero.2,
      Nat.zero_add, Nat.zero_add]
    rfl

/-- The service of a CANCEL whose selector names something (R20, R21). -/
theorem serveCancel_fits {f : CancelFields} (hsel : f.selector.toNat ≤ 2) (hchan : f.selector = 1 → f.value.toNat < 2)
    (hhead : f.selector = 2 → f.value.toNat < 24) (s : State) :
    serveCancel (.fits f) s = (cancelQueues (cancels f) s,
      .cancel (if f.selector ≠ 0 ∨ 0 < countBoth (cancels f) s then .ok else if 0 < countBoth (skips f) s then .tooLate else .notFound)
        (countBoth (cancels f) s) (countBoth (skips f) s)) := by
  unfold serveCancel withPayload
  dsimp only
  by_cases h0 : f.selector = 0
  · have hreach : ∀ c b, reaches f c b = (b.tag == f.value) := fun c b => by rw [reaches, if_pos h0]
    rw [if_pos h0, cancelBoth_eq hreach, if_congr (or_iff_right fun h => h h0) rfl rfl]
    rfl
  · have hok : ∀ k : Code, (if f.selector ≠ 0 ∨ 0 < countBoth (cancels f) s then .ok else k) = .ok := fun k => if_pos (.inl h0)
    rw [if_neg h0, hok]
    by_cases h1 : f.selector = 1
    · have hreach : ∀ c b, reaches f c b = (f.value.toNat == (chanCode c).toNat) := fun c b => by
        rw [reaches, if_neg h0, if_pos h1]
      have hlt := hchan h1
      rw [if_pos h1]
      by_cases hv : f.value = 0
      · rw [if_pos hv, cancelOne_eq (f := f) (fun b => by rw [hreach, hv]; rfl) (fun b => by rw [hreach, hv]; rfl)]
      · have hv1 : f.value = 1 := by bv_omega
        rw [if_neg hv, if_pos hv1, cancelOne_eq (f := f) (fun b => by rw [hreach, hv1]; rfl) (fun b => by rw [hreach, hv1]; rfl)]
    · have h2 : f.selector = 2 := by bv_omega
      have hreach : ∀ c b, reaches f c b = (b.head.val == f.value.toNat) := fun c b => by rw [reaches, if_neg h0, if_neg h1]
      rw [if_neg h1, if_pos h2, if_pos (hhead h2), cancelBoth_eq hreach]

theorem serveCancel_undefined {f : CancelFields} (h : 3 ≤ f.selector.toNat ∨ (f.selector = 1 ∧ 2 ≤ f.value.toNat) ∨
    (f.selector = 2 ∧ 24 ≤ f.value.toNat)) (s : State) : serveCancel (.fits f) s = (s, .code .fieldRange) := by
  unfold serveCancel withPayload
  dsimp only
  obtain h | ⟨h, hv⟩ | ⟨h, hv⟩ := h
  · rw [if_neg (by rintro h0; rw [h0] at h; contradiction), if_neg (by rintro h0; rw [h0] at h; contradiction),
      if_neg (by rintro h0; rw [h0] at h; contradiction)]
  · rw [h, if_neg (by decide), if_pos rfl, if_neg (by bv_omega), if_neg (by bv_omega)]
  · rw [h, if_neg (by decide), if_neg (by decide), if_pos rfl, if_neg (Nat.not_lt.2 hv)]

theorem Calm.cancelQueues (out : Chan → Burst → Bool) (s : State) : Calm s (cancelQueues out s) :=
  (Calm.cancelQueue ..).trans (.cancelQueue ..)

/-- What a CANCEL does to one channel depends on that channel alone, but for the heads, the link and the supply. -/
theorem cancelQueues_chan (out : Chan → Burst → Bool) (s : State) (c : Chan) :
    ∃ u : State, u.chan c = s.chan c ∧ u.now = s.now ∧ (cancelQueues out s).chan c = (cancelQueue c (out c) u).chan c := by
  unfold cancelQueues
  cases c with
  | c0 => exact ⟨s, rfl, rfl, SameOther.cancelQueue .c1 _ _⟩
  | c1 => exact ⟨_, SameOther.cancelQueue .c0 _ s, (Calm.cancelQueue .c0 _ s).tables.now, rfl⟩

/-- A CANCEL that selects bursts of one channel alone. -/
theorem cancelQueues_one {out : Chan → Burst → Bool} (h : ∀ b ∈ (s.chan c.other).queue, out c.other b = false) :
    cancelQueues out s = cancelQueue c (out c) s := by
  unfold cancelQueues
  cases c with
  | c0 => exact cancelQueue_none (c := .c1) fun b hb => h b ((SameOther.cancelQueue .c0 (out .c0) s) ▸ hb)
  | c1 => rw [cancelQueue_none (c := .c0) (out := out .c0) h]

/-- What CANCEL leaves of both queues when nothing follows at once. -/
theorem cancelQueues_eq {out : Chan → Burst → Bool} (hsel : ∀ c, Selects (out c)) (hp : PhaseLaw s)
    (hcond : ∀ c : Chan, ∀ b ∈ (s.chan c).queue.head?, out c b = true → tailRuns (s.chan c) ∧
      waitsInTurn (s.chan c) s.now ((s.chan c).queue.filter fun d => !out c d) ∧
      (b.state = .heating ∨ b.state = .ready → 0 < b.plan.tailLen)) :
    cancelQueues out s = { cancelHeat .c1 (out .c1) (cancelHeat .c0 (out .c0) s) with
      ch0 := s.ch0.cancelled (out .c0) s.now, ch1 := s.ch1.cancelled (out .c1) s.now } := by
  have hfirst := cancelQueue_eq (hsel .c0) (hp .c0).1 (hcond .c0)
  have hchan : (cancelQueue .c0 (out .c0) s).chan .c1 = s.chan .c1 := SameOther.cancelQueue .c0 _ s
  have hnow : (cancelQueue .c0 (out .c0) s).now = s.now := (Calm.cancelQueue .c0 _ s).tables.now
  unfold cancelQueues
  rw [cancelQueue_eq (hsel .c1) (by rw [hchan]; exact (hp .c1).1) (by rw [hchan, hnow]; exact hcond .c1), hchan, hnow, hfirst,
    cancelHeat_setChan (by decide)]
  rfl

/-- What CANCEL leaves of both queues when no front burst is removed. -/
theorem cancelQueues_kept {out : Chan → Burst → Bool} (h : ∀ c : Chan, ∀ b ∈ (s.chan c).queue.head?, out c b = false) :
    cancelQueues out s = { s with
      ch0 := { s.ch0 with queue := s.ch0.queue.filter fun b => !out .c0 b }
      ch1 := { s.ch1 with queue := s.ch1.queue.filter fun b => !out .c1 b } } := by
  have hchan : (cancelQueue .c0 (out .c0) s).chan .c1 = s.chan .c1 := SameOther.cancelQueue .c0 _ s
  unfold cancelQueues
  rw [cancelQueue_kept (c := .c1) (by rw [hchan]; exact h .c1), hchan, cancelQueue_kept (h .c0)]
  rfl

/-- Settles O40: the refusals, the CANCEL that leaves the front bursts, the one that nothing follows, the tail of no length, and
what every CANCEL leaves. -/
theorem cancelRemovesByState : Obligations.CancelRemovesByState := by
  intro tag f s hidle
  refine ⟨fun hs hout => ?_, fun out removed skipped code hsel hchan hhead hout hremoved hskipped hcode => ?_⟩
  · exact exec_unchanged (.code .fieldRange) hidle hs (by rw [serve, serveCancel_undefined hout])
  · obtain rfl : out = cancels f := funext fun c => funext fun b => hout c b
    obtain rfl : countBoth (cancels f) s = removed := hremoved.symm
    obtain rfl : countBoth (skips f) s = skipped := hskipped.symm
    have hexec : exec (.cancel tag (.fits f)) s = .next ((cancelQueues (cancels f) s).replying 0xA1 tag
        [code.byte, BitVec.ofNat 8 (countBoth (cancels f) s), BitVec.ofNat 8 (countBoth (skips f) s)]) :=
      exec_request _ _ hidle (Calm.cancelQueues ..).kept (by rw [serve, serveCancel_fits hsel hchan hhead, ← hcode])
    refine ⟨fun hkept => ?_, fun hp hcond => ?_, fun c hp hfront hother => ?_, fun hp => ⟨_, hexec, fun c b hb hreach => ?_,
      fun c b hb hout hs hlen => ?_, (Calm.cancelQueues ..).tables, (Calm.cancelQueues ..).requests⟩⟩
    · rw [hexec, cancelQueues_kept hkept]
    · rw [hexec, cancelQueues_eq (cancels_selects f) hp hcond]
    · obtain ⟨b, hb, hout, hs, hlen⟩ := hfront
      have hq := front_queue (s := s) (c := c) hb
      have hkept : ((s.chan c).queue.filter fun d => !cancels f c d) = (s.chan c).queue.tail.filter fun d => !cancels f c d := by
        rw [hq]
        exact List.filter_cons_of_neg (by simp [hout])
      obtain ⟨u, hu⟩ : ∃ u, u = s.setChan c ((s.chan c).cancelled (cancels f c) s.now) := ⟨_, rfl⟩
      have hzero := fun d left => cancelQueue_zero (left := left) (d := d) (cancels_selects f c) (hp c).1 hq hout hs hlen hu
      rw [cancelQueues_one hother] at hexec
      have hheld : u.held = false := by rw [hu, State.setChan_held]; exact hidle.running
      rw [← hu]
      refine ⟨tailOver c u, ?_, by rw [exec_tailEnd hheld, if_pos (hzero b []).1], fun hwait => ?_,
        fun d rest r hrest hcloses hwait htag => ?_⟩
      · rw [(Calm.tailOver c u).tx, hu, State.setChan_link]
        exact hidle.free
      · rw [hkept] at hwait
        rw [hexec, (hzero b []).2.1 hwait]
      · rw [hkept] at hrest
        have hsettles := (hzero d rest).2.2 r hrest hcloses hwait htag
        exact ⟨_, hsettles.seq, hsettles.supply, hsettles.completes, hexec⟩
    · obtain ⟨u, huchan, -, hchan⟩ := cancelQueues_chan (cancels f) s c
      rw [hchan] at hb
      obtain ⟨d, hd, hkept, htag, hhead⟩ := cancelQueue_bursts (cancels_selects f c) (by rw [huchan]; exact (hp c).1) b hb
      have hsame : reaches f c d = true := by
        rw [← hreach, reaches, reaches, htag, hhead]
      refine ⟨d, huchan ▸ hd, htag, ?_⟩
      rw [cancels, hsame, Bool.true_and] at hkept
      simpa using hkept
    · obtain ⟨u, huchan, hnow, hchan⟩ := cancelQueues_chan (cancels f) s c
      have hq := front_queue (s := s) (c := c) hb
      have hseq := cancelQueue_detaches (s := u) (cancels_selects f c) (by rw [huchan]; exact (hp c).1) (hp c).2
        (by rw [huchan]; exact hq) hout hs hlen
      rw [hchan, hseq, huchan, hnow]
      exact ⟨rfl, rfl, rfl, rfl⟩

end Sys2Proof.Machine
end

section
/-! PROOFS. What the part does with its channels, heads, tables and timer does not look at the transmitter or at the replies
that wait: each operation of a service commutes with a change of the two (R170, R171, R173). -/

namespace Sys2Proof.Machine

variable (t : Option Sending) (q : List QueuedReply) (s : State) (c : Chan)

/-- The state with another frame in the transmitter and other replies waiting. -/
def State.relink (t : Option Sending) (q : List QueuedReply) (s : State) : State :=
  { s with link := { s.link with tx := t, replies := q } }

/-! ## What is read -/

@[simp] theorem chan_relink : (s.relink t q).chan c = s.chan c := rfl
@[simp] theorem ch0_relink : (s.relink t q).ch0 = s.ch0 := rfl
@[simp] theorem ch1_relink : (s.relink t q).ch1 = s.ch1 := rfl
@[simp] theorem front_relink : (s.relink t q).front c = s.front c := rfl
@[simp] theorem heads_relink : (s.relink t q).heads = s.heads := rfl
@[simp] theorem now_relink : (s.relink t q).now = s.now := rfl
@[simp] theorem supply_relink : (s.relink t q).supply = s.supply := rfl
@[simp] theorem safe_relink : (s.relink t q).safe = s.safe := rfl
@[simp] theorem safety_relink : (s.relink t q).safety = s.safety := rfl
@[simp] theorem committedSum_relink : (s.relink t q).committedSum = s.committedSum := rfl
@[simp] theorem headroom_relink : headroom c (s.relink t q) = headroom c s := rfl
@[simp] theorem headBusy_relink (h : Fin 24) : (s.relink t q).headBusy h = s.headBusy h := rfl
@[simp] theorem elapsed_relink : (s.relink t q).elapsed = s.elapsed := rfl
@[simp] theorem armDue_relink : armDue c (s.relink t q) = armDue c s := rfl
@[simp] theorem dueClose_relink : dueClose c (s.relink t q) = dueClose c s := rfl

/-! ## The state's operations -/

@[simp] theorem modChan_relink (f : Channel → Channel) : (s.relink t q).modChan c f = (s.modChan c f).relink t q := by
  cases c <;> rfl

@[simp] theorem modSeq_relink (f : Sequencer → Sequencer) : (s.relink t q).modSeq c f = (s.modSeq c f).relink t q :=
  modChan_relink ..

@[simp] theorem setHead_relink (h : Fin 24) (r : Head) : (s.relink t q).setHead h r = (s.setHead h r).relink t q := rfl

@[simp] theorem placeNotice_relink (n : Notice) : placeNotice n (s.relink t q) = (placeNotice n s).relink t q := by
  by_cases h : Config.noticeCapacity ≤ s.link.notices.length <;>
    simp [placeNotice, State.modLink, State.relink, h]

/-- Two branches that each commute with the change make an operation that does. -/
theorem ite_relink (p : Prop) [Decidable p] (a b : State) :
    (if p then a.relink t q else b.relink t q) = (if p then a else b).relink t q :=
  (apply_ite (State.relink t q) p a b).symm

@[simp] theorem wearTest_relink (h : Fin 24) : wearTest h (s.relink t q) = (wearTest h s).relink t q := by
  unfold wearTest
  simp only [heads_relink, setHead_relink, placeNotice_relink, ite_relink]

@[simp] theorem charge_relink (h : Fin 24) (n : Nat) : charge h n (s.relink t q) = (charge h n s).relink t q := by
  unfold charge
  simp only [heads_relink, setHead_relink, wearTest_relink, ite_relink]

@[simp] theorem adoptPending_relink : adoptPending (s.relink t q) = (adoptPending s).relink t q := by
  unfold adoptPending
  simp only [supply_relink, committedSum_relink]
  split
  · rfl
  · exact ite_relink t q _ { s with supply := _ } s

@[simp] theorem setCommit_relink (v : Nat) : setCommit c v (s.relink t q) = (setCommit c v s).relink t q := by
  simp only [setCommit, modSeq_relink, adoptPending_relink]

@[simp] theorem modFront_relink (f : Burst → Burst) : modFront c f (s.relink t q) = (modFront c f s).relink t q :=
  modChan_relink ..

@[simp] theorem modActive_relink (f : Burst → Burst) : modActive c f (s.relink t q) = (modActive c f s).relink t q := by
  unfold modActive
  simp only [chan_relink, modFront_relink, modSeq_relink]
  split <;> rfl

@[simp] theorem refreshFront_relink : refreshFront c (s.relink t q) = (refreshFront c s).relink t q := modChan_relink ..

@[simp] theorem removeWhere_relink (out : Burst → Bool) :
    removeWhere c out (s.relink t q) = (removeWhere c out s).relink t q := by
  simp only [removeWhere, chan_relink, modChan_relink, refreshFront_relink, ite_relink]

/-! ## The phases of a laser -/

@[simp] theorem endPhase_relink : endPhase c (s.relink t q) = (endPhase c s).relink t q := by
  simp only [endPhase, chan_relink, now_relink, modActive_relink, ite_relink, modSeq_relink]

@[simp] theorem chargeBurst_relink (b : Burst) : chargeBurst b (s.relink t q) = (chargeBurst b s).relink t q :=
  charge_relink ..

@[simp] theorem goDark_relink : goDark c (s.relink t q) = (goDark c s).relink t q := by
  simp only [goDark, modSeq_relink, setCommit_relink]

@[simp] theorem enterTail_relink : enterTail c (s.relink t q) = (enterTail c s).relink t q := by
  simp only [enterTail, endPhase_relink, chan_relink, now_relink, modSeq_relink]
  split <;> rfl

@[simp] theorem detachFront_relink : detachFront c (s.relink t q) = (detachFront c s).relink t q := by
  simp only [detachFront, front_relink, modSeq_relink]
  split <;> rfl

@[simp] theorem completeFront_relink (v : Verdict) : completeFront c v (s.relink t q) = (completeFront c v s).relink t q := by
  simp only [completeFront, front_relink, modChan_relink, refreshFront_relink, chargeBurst_relink, heads_relink,
    setHead_relink, chan_relink, placeNotice_relink, ite_relink]
  split <;> rfl

@[simp] theorem completeBarred_relink : completeBarred c (s.relink t q) = (completeBarred c s).relink t q := by
  simp only [completeBarred, front_relink, chan_relink, completeFront_relink, ite_relink]
  split
  · rfl
  · split <;> rfl

@[simp] theorem barAtArming_relink (b : Burst) (r : Reason) :
    barAtArming c b r (s.relink t q) = (barAtArming c b r s).relink t q := by
  simp only [barAtArming, modFront_relink, modSeq_relink]

@[simp] theorem startBurst_relink (b : Burst) (l : LeadUsed) :
    startBurst c b l (s.relink t q) = (startBurst c b l s).relink t q := by
  simp only [startBurst, chan_relink, now_relink, heads_relink, modFront_relink, modSeq_relink, setCommit_relink]

@[simp] theorem arm_relink : arm c (s.relink t q) = (arm c s).relink t q := by
  simp only [arm, chan_relink, headroom_relink, heads_relink, barAtArming_relink, startBurst_relink, ite_relink]
  split
  · rfl
  · split
    · rfl
    · split <;> rfl

/-! ## The tail end and the window -/

@[simp] theorem settleRest_relink (b : Burst) : settleRest c b (s.relink t q) = (settleRest c b s).relink t q := by
  simp only [settleRest, heads_relink, headroom_relink, modSeq_relink, setCommit_relink, goDark_relink, ite_relink]

@[simp] theorem endTailBurst_relink : endTailBurst c (s.relink t q) = (endTailBurst c s).relink t q := by
  simp only [endTailBurst, chan_relink, front_relink, modSeq_relink, chargeBurst_relink, completeFront_relink,
    completeBarred_relink]
  split
  · rfl
  · rfl
  · split
    · rfl
    · split <;> rfl

@[simp] theorem endTail_relink : endTail c (s.relink t q) = (endTail c s).relink t q := by
  simp only [endTail, endPhase_relink, chan_relink, goDark_relink, endTailBurst_relink, settleRest_relink,
    armDue_relink, arm_relink, ite_relink]
  split <;> rfl

@[simp] theorem markClosed_relink : markClosed c (s.relink t q) = (markClosed c s).relink t q := modChan_relink ..

@[simp] theorem closeWindow_relink : closeWindow c (s.relink t q) = (closeWindow c s).relink t q := by
  simp only [closeWindow, front_relink, modFront_relink, enterTail_relink, markClosed_relink, completeBarred_relink,
    ite_relink]
  split
  · rfl
  · split <;> rfl

@[simp] theorem atOnceRounds_relink (n : Nat) (own : Option U16) :
    atOnceRounds n c own (s.relink t q) = (atOnceRounds n c own s).relink t q := by
  induction n generalizing s with
  | zero => rfl
  | succ n ih =>
    simp only [atOnceRounds, chan_relink, dueClose_relink, endTail_relink, closeWindow_relink, ih, ite_relink]

@[simp] theorem runAtOnce_relink (own : Option U16) :
    runAtOnce c own (s.relink t q) = (runAtOnce c own s).relink t q := atOnceRounds_relink ..

theorem atOnce_relink {f : State → State} (hf : f (s.relink t q) = (f s).relink t q) :
    atOnce c f (s.relink t q) = (atOnce c f s).relink t q := by
  simp only [atOnce, hf, dueClose_relink, runAtOnce_relink]

/-! ## Flushes -/

@[simp] theorem chargeDetached_relink : chargeDetached c (s.relink t q) = (chargeDetached c s).relink t q := by
  simp only [chargeDetached, chan_relink, chargeBurst_relink]
  split <;> rfl

@[simp] theorem chargeFront_relink : chargeFront c (s.relink t q) = (chargeFront c s).relink t q := by
  simp only [chargeFront, front_relink, chargeBurst_relink]
  split <;> rfl

theorem flushAll_relink : flushAll c (s.relink t q) = ((flushAll c s).1.relink t q, (flushAll c s).2) := by
  simp only [flushAll, keepSpan, emptyQueue, chan_relink, now_relink, modSeq_relink, endPhase_relink,
    chargeDetached_relink, chargeFront_relink, modChan_relink, goDark_relink]

@[simp] theorem releaseFront_relink : releaseFront c (s.relink t q) = (releaseFront c s).relink t q := by
  simp only [releaseFront, chan_relink, detachFront_relink, ite_relink]

@[simp] theorem chargeEnded_relink : chargeEnded c (s.relink t q) = (chargeEnded c s).relink t q := by
  simp only [chargeEnded, chan_relink, chargeFront_relink, ite_relink]

theorem flushHead_relink (h : Fin 24) : flushHead h (s.relink t q) = ((flushHead h s).1.relink t q, (flushHead h s).2) := by
  simp only [flushHead, heads_relink, chan_relink, front_relink, releaseFront_relink, ite_relink, removeWhere_relink]

@[simp] theorem endBiasOn_relink (h : Fin 24) : endBiasOn c h (s.relink t q) = (endBiasOn c h s).relink t q := by
  simp only [endBiasOn, chan_relink, goDark_relink, ite_relink]

@[simp] theorem darkenHeadOn_relink (h : Fin 24) : darkenHeadOn h c (s.relink t q) = (darkenHeadOn h c s).relink t q := by
  simp only [darkenHeadOn, chan_relink, endPhase_relink, chargeDetached_relink, goDark_relink, ite_relink]

@[simp] theorem darkenHead_relink (h : Fin 24) : darkenHead h (s.relink t q) = (darkenHead h s).relink t q := by
  simp only [darkenHead, darkenHeadOn_relink]

theorem enterSafeDark_relink (cause : SafeCause) :
    enterSafeDark cause (s.relink t q) = (enterSafeDark cause s).relink t q := by
  unfold enterSafeDark
  rw [safe_relink, ← ite_relink]
  have hfirst := flushAll_relink t q { s with safe := some cause } .c0
  have hsecond := flushAll_relink t q (flushAll .c0 { s with safe := some cause }).1 .c1
  refine congrArg (ite _ _) ?_
  dsimp only
  rw [show { s.relink t q with safe := some cause } = State.relink t q { s with safe := some cause } from rfl, hfirst]
  dsimp only
  rw [hsecond]
  dsimp only
  generalize flushAll .c1 (flushAll .c0 { s with safe := some cause }).1 = f
  exact placeNotice_relink t q { f.1 with safety := f.1.safety.stop } _

/-! ## Cancelling -/

@[simp] theorem cancelFront_relink : cancelFront c (s.relink t q) = (cancelFront c s).relink t q := by
  simp only [cancelFront, front_relink, enterTail_relink, detachFront_relink, chargeEnded_relink, releaseFront_relink]
  split
  · rfl
  · split <;> rfl

theorem cancelOn_relink (sel : Burst → Bool) :
    cancelOn c sel (s.relink t q) = ((cancelOn c sel s).1.relink t q, (cancelOn c sel s).2) := by
  simp only [cancelOn, chan_relink, removeWhere_relink]
  rw [atOnce_relink t q s c (by simp only [cancelFront_relink, removeWhere_relink]), ite_relink]

theorem cancelBoth_relink (sel : Burst → Bool) :
    cancelBoth sel (s.relink t q) = ((cancelBoth sel s).1.relink t q, (cancelBoth sel s).2) := by
  simp only [cancelBoth, cancelOn_relink]

/-! ## The services -/

/-- A service, or a part of one, that does not look at the transmitter or at the replies that wait. -/
def LinkBlind {α : Type} (f : State → State × α) : Prop :=
  ∀ t q s, f (s.relink t q) = ((f s).1.relink t q, (f s).2)

/-- A service that only answers. -/
theorem LinkBlind.same {α : Type} (p : α) : LinkBlind fun s => (s, p) := fun _ _ _ => rfl

/-- A service with one effect and a fixed reply. -/
theorem LinkBlind.effect {α : Type} {f : State → State} (h : ∀ t q s, f (s.relink t q) = (f s).relink t q) (p : α) :
    LinkBlind fun s => (f s, p) :=
  fun t q s => Prod.ext (h t q s) rfl

theorem LinkBlind.withPayload {α : Type} {f : α → State → State × Reply} (p : Payload α) (h : ∀ a, LinkBlind (f a)) :
    LinkBlind fun s => withPayload p s fun a => f a s := by
  cases p with
  | unfit => exact .same _
  | fits a => exact h a

theorem LinkBlind.withHeadState {f : Fin 24 → State → State × Reply} (p : HeadStateBody) (h : ∀ i, LinkBlind (f i)) :
    LinkBlind fun s => withHeadState p s fun i => f i s := by
  cases p with
  | unfit => exact .same _
  | undefinedAction => exact .same _
  | fits b =>
    unfold Machine.withHeadState
    dsimp only
    split
    · exact .same _
    · exact h _

/-- A service that judges a condition which does not look at the transmitter or the replies. -/
theorem LinkBlind.ite {α : Type} {p : State → Prop} [DecidablePred p] {f g : State → State × α}
    (hp : ∀ t q s, p (s.relink t q) ↔ p s) (hf : LinkBlind f) (hg : LinkBlind g) :
    LinkBlind fun s => if p s then f s else g s := by
  intro t q s
  dsimp only
  by_cases h : p s
  · rw [if_pos ((hp t q s).mpr h), if_pos h, hf]
  · rw [if_neg (mt (hp t q s).mp h), if_neg h, hg]

theorem refuseHeadState_blind (r : Code) (h : Fin 24) : LinkBlind (refuseHeadState r h) := fun _ _ _ => rfl

theorem serveChannelSet_blind (p : Payload ChannelSetFields) : LinkBlind (serveChannelSet p) := by
  refine .withPayload p fun f => ?_
  split
  · exact .same _
  · rename_i c _
    refine .ite (fun _ _ _ => Iff.rfl) (.same _) ?_
    split
    · exact .same _
    · exact .effect (fun t q s => modChan_relink t q s c _) _

theorem serveChannelOnline_blind (p : Payload Byte) : LinkBlind (serveChannelOnline p) := by
  refine .withPayload p fun b => ?_
  split
  · exact .same _
  · rename_i c _
    refine .ite (fun _ _ _ => Iff.rfl) (.same _) (.effect (fun t q s => ?_) _)
    simp only [setTracker, chan_relink, modChan_relink]
    generalize s.modChan c _ = u
    exact ite_relink t q _ { u with safety := _ } u

theorem serveChannelOffline_blind (p : Payload Byte) : LinkBlind (serveChannelOffline p) := by
  refine .withPayload p fun b => ?_
  split
  · exact .same _
  · rename_i c _
    refine .ite (fun _ _ _ => Iff.rfl) (fun t q s => ?_) (.same _)
    simp only [setTracker, chan_relink, modChan_relink, flushAll_relink]
    generalize flushAll c (s.modChan c _) = u
    exact Prod.ext (ite_relink t q _ u.1 { u.1 with safety := u.1.safety.stop }) rfl

theorem serveConditions_blind (p : Payload ConditionsFields) : LinkBlind (serveConditions p) := by
  refine .withPayload p fun f t q s => ?_
  simp only [modChan_relink, applyLimit, committedSum_relink]
  split <;> rfl

theorem serveHeadSet_blind (p : Payload HeadSetFields) : LinkBlind (serveHeadSet p) := by
  refine .withPayload p fun f => ?_
  split
  · rename_i h c _ _
    refine .ite (fun _ _ _ => Iff.rfl) (.same _) (fun t q s => ?_)
    simp only [heads_relink, setHead_relink, darkenHead_relink, wearTest_relink]
  · exact .same _

theorem serveHeadGet_blind (p : Payload Byte) : LinkBlind (serveHeadGet p) := by
  refine .withPayload p fun b => ?_
  split
  · exact .same _
  · exact fun _ _ _ => rfl

theorem servePark_blind (p : HeadStateBody) : LinkBlind (servePark p) := by
  refine .withHeadState p fun h => .ite (fun _ _ _ => Iff.rfl) (fun t q s => ?_) (refuseHeadState_blind _ h)
  simp only [heads_relink, front_relink, setHead_relink, flushHead_relink, endBiasOn_relink]
  refine Prod.ext ?_ rfl
  dsimp only
  rw [← ite_relink, atOnce_relink t q s _ (by simp only [setHead_relink, flushHead_relink, endBiasOn_relink])]

theorem serveUnpark_blind (p : HeadStateBody) : LinkBlind (serveUnpark p) :=
  .withHeadState p fun h => .ite (fun _ _ _ => Iff.rfl) (fun _ _ _ => rfl) (refuseHeadState_blind _ h)

theorem serveClearFault_blind (p : HeadStateBody) : LinkBlind (serveClearFault p) :=
  .withHeadState p fun h => .ite (fun _ _ _ => Iff.rfl) (fun _ _ _ => rfl) (refuseHeadState_blind _ h)

theorem serveRetire_blind (p : HeadStateBody) : LinkBlind (serveRetire p) :=
  .withHeadState p fun h => .ite (fun _ _ _ => Iff.rfl) (refuseHeadState_blind _ h)
    (.effect (fun t q s => by simp only [heads_relink, setHead_relink, darkenHead_relink]) _)

theorem serveProfileSet_blind (p : Payload ProfileSetFields) : LinkBlind (serveProfileSet p) := by
  refine .withPayload p fun f => ?_
  split
  · exact .same _
  · exact fun _ _ _ => rfl

theorem serveProfileGet_blind (p : Payload Byte) : LinkBlind (serveProfileGet p) := by
  refine .withPayload p fun b => ?_
  split
  · exact .same _
  · exact fun _ _ _ => rfl

theorem serveRangeSet_blind (p : Payload (List RangeWrite)) : LinkBlind (serveRangeSet p) := by
  refine .withPayload p fun ws => .ite (fun _ _ _ => Iff.rfl) (.same _) ?_
  split
  · exact .same _
  · exact fun _ _ _ => rfl

theorem serveRuleSet_blind (p : Payload RuleSetFields) : LinkBlind (serveRuleSet p) := by
  refine .withPayload p fun f => ?_
  split
  · exact fun _ _ _ => rfl
  · exact .same _

theorem serveRuleGet_blind (p : Payload Byte) : LinkBlind (serveRuleGet p) := by
  refine .withPayload p fun b => ?_
  split
  · exact .same _
  · exact fun _ _ _ => rfl

theorem serveCounters_blind (p : Payload CountersFields) : LinkBlind (serveCounters p) := by
  refine .withPayload p fun f => ?_
  split
  · exact .same _
  · refine .ite (fun _ _ _ => Iff.rfl) (.same _) fun t q s => Prod.ext ?_ rfl
    exact ite_relink t q _ { s with counters := _ } s

theorem serveCancel_blind (p : Payload CancelFields) : LinkBlind (serveCancel p) := by
  refine .withPayload p fun f => .ite (fun _ _ _ => Iff.rfl) ?_ (.ite (fun _ _ _ => Iff.rfl)
    (.ite (fun _ _ _ => Iff.rfl) ?_ (.ite (fun _ _ _ => Iff.rfl) ?_ (.same _)))
    (.ite (fun _ _ _ => Iff.rfl) (.ite (fun _ _ _ => Iff.rfl) ?_ (.same _)) (.same _)))
  · exact fun t q s => by rw [cancelBoth_relink]
  · exact fun t q s => by rw [cancelOn_relink]
  · exact fun t q s => by rw [cancelOn_relink]
  · exact fun t q s => by rw [cancelBoth_relink]

theorem serveSafetySet_blind (p : Payload SafetySetFields) : LinkBlind (serveSafetySet p) := by
  refine .withPayload p fun f => ?_
  split
  · exact .same _
  · exact fun _ _ _ => rfl

theorem takeTend_blind (ph : Phase) : LinkBlind (takeTend ph) := by
  refine .ite (p := fun s => ph ≠ s.safety.pointer) (fun _ _ _ => Iff.rfl) (fun _ _ _ => rfl) ?_
  cases ph with
  | a => exact fun _ _ _ => rfl
  | b =>
    exact .ite (p := fun s => closedPart s.safety.period s.safety.window ≤ s.elapsed) (fun _ _ _ => Iff.rfl)
      (fun _ _ _ => rfl) (.effect (f := fun s => enterSafeDark .earlyTend { s with safety := { s.safety with pointer := .a } })
        (fun t q s => enterSafeDark_relink t q { s with safety := { s.safety with pointer := .a } } .earlyTend) _)

theorem serveTend_blind (p : Payload Byte) : LinkBlind (serveTend p) := by
  refine .withPayload p fun b => ?_
  split
  · exact .same _
  · rename_i ph _
    exact .ite (fun _ _ _ => Iff.rfl) (.same _) fun t q s => by
      simp only [takeTend_blind ph t q s, safety_relink, elapsed_relink]

theorem serveResume_blind (p : Payload Unit) : LinkBlind (serveResume p) := by
  refine .withPayload p fun _ t q s => ?_
  simp only [safe_relink]
  split
  · rfl
  · by_cases h : s.supflt = true
    · have h' : (s.relink t q).supflt = true := h
      rw [if_pos h, if_pos h']
    · have h' : ¬(s.relink t q).supflt = true := h
      rw [if_neg h, if_neg h']
      exact Prod.ext (ite_relink t q _ { s with safe := none, safety := s.safety.start s.now } { s with safe := none }) rfl

/-- The service of a request that is answered at once, with no reset and no entries to take, does not look at the
transmitter or at the replies that wait. -/
def AnsweredBlindly (r : Instr) : Prop :=
  ∃ w : State → State × Reply, LinkBlind w ∧ (∀ s, LinkKept s (w s).1) ∧ ∀ s, serve r s = answer r .replied (w s)

/-- A request that is only answered. -/
theorem AnsweredBlindly.only {r : Instr} (p : Reply) (h : ∀ s, serve r s = answer r .replied (s, p)) : AnsweredBlindly r :=
  ⟨fun s => (s, p), .same p, fun s => .refl s, h⟩

/-- The command names a request (spec/10, section 10.2), an undefined kind included. -/
def IsRequest (r : Instr) : Prop := requestKind r ≠ 0 ∨ ∃ k tag, r = .undefinedRequest k tag

theorem serve_answeredBlindly (r : Instr) (hrequest : IsRequest r)
    (hplan : ∀ tag es, r = .plan tag (.fits es) → es.length = 0 ∨ 4 < es.length)
    (hreset : ∀ tag, r ≠ .resetFull tag .fits ∧ r ≠ .resetRun tag .fits) : AnsweredBlindly r := by
  cases r
  case ident tag p => exact ⟨_, .withPayload p fun _ => .same _, serveIdent_kept p, fun _ => rfl⟩
  case status tag p => exact ⟨_, .withPayload p fun _ _ _ _ => rfl, serveStatus_kept p, fun _ => rfl⟩
  case resetFull tag p =>
    cases p with
    | fits => exact absurd rfl (hreset tag).1
    | unfit => exact .only _ fun _ => rfl
    | undefinedScope => exact .only _ fun _ => rfl
  case resetRun tag p =>
    cases p with
    | fits => exact absurd rfl (hreset tag).2
    | unfit => exact .only _ fun _ => rfl
    | undefinedScope => exact .only _ fun _ => rfl
  case plan tag p =>
    cases p with
    | unfit => exact .only _ fun _ => rfl
    | fits es => exact .only _ fun s => by rw [serve, servePlan, if_pos (hplan tag es rfl)]
  case channelSet tag p => exact ⟨_, serveChannelSet_blind p, serveChannelSet_kept p, fun _ => rfl⟩
  case channelOnline tag p => exact ⟨_, serveChannelOnline_blind p, serveChannelOnline_kept p, fun _ => rfl⟩
  case channelOffline tag p => exact ⟨_, serveChannelOffline_blind p, serveChannelOffline_kept p, fun _ => rfl⟩
  case conditions tag p => exact ⟨_, serveConditions_blind p, serveConditions_kept p, fun _ => rfl⟩
  case headSet tag p => exact ⟨_, serveHeadSet_blind p, serveHeadSet_kept p, fun _ => rfl⟩
  case headGet tag p => exact ⟨_, serveHeadGet_blind p, serveHeadGet_kept p, fun _ => rfl⟩
  case park tag p => exact ⟨_, servePark_blind p, servePark_kept p, fun _ => rfl⟩
  case unpark tag p => exact ⟨_, serveUnpark_blind p, serveUnpark_kept p, fun _ => rfl⟩
  case clearFault tag p => exact ⟨_, serveClearFault_blind p, serveClearFault_kept p, fun _ => rfl⟩
  case retire tag p => exact ⟨_, serveRetire_blind p, serveRetire_kept p, fun _ => rfl⟩
  case profileSet tag p => exact ⟨_, serveProfileSet_blind p, serveProfileSet_kept p, fun _ => rfl⟩
  case profileGet tag p => exact ⟨_, serveProfileGet_blind p, serveProfileGet_kept p, fun _ => rfl⟩
  case rangeSet tag p => exact ⟨_, serveRangeSet_blind p, serveRangeSet_kept p, fun _ => rfl⟩
  case ruleSet tag p => exact ⟨_, serveRuleSet_blind p, serveRuleSet_kept p, fun _ => rfl⟩
  case ruleGet tag p => exact ⟨_, serveRuleGet_blind p, serveRuleGet_kept p, fun _ => rfl⟩
  case counters tag p => exact ⟨_, serveCounters_blind p, serveCounters_kept p, fun _ => rfl⟩
  case cancel tag p => exact ⟨_, serveCancel_blind p, serveCancel_kept p, fun _ => rfl⟩
  case safetySet tag p => exact ⟨_, serveSafetySet_blind p, serveSafetySet_kept p, fun _ => rfl⟩
  case tend tag p => exact ⟨_, serveTend_blind p, serveTend_kept p, fun _ => rfl⟩
  case resume tag p => exact ⟨_, serveResume_blind p, serveResume_kept p, fun _ => rfl⟩
  case undefinedRequest k tag => exact .only _ fun _ => rfl
  all_goals
    obtain hkind | ⟨k, tag, hk⟩ := hrequest
    · exact absurd rfl hkind
    · exact absurd hk (by simp)

end Sys2Proof.Machine
end

section
/-! PROOFS. Arrivals on a link that is not idle (R170, R171, R173, R178): the place, BUSY, the discard, and the service whose
reply waits. -/

namespace Sys2Proof.Machine

/-! ## The request of a frame -/

/-- The command of a frame's request, with the frame's kind and tag. -/
structure RequestFor (f : Frame) (r : Instr) : Prop where
  kind : requestKind r = f.kind
  tag : requestTag r = f.tag
  known : IsRequest r

/-- A command of one of the defined kinds. -/
theorem RequestFor.ofKind {f : Frame} {r : Instr} {k : Byte} (hk : f.kind = k) (hkind : requestKind r = k)
    (htag : requestTag r = f.tag) (hne : k ≠ 0 := by decide) : RequestFor f r :=
  ⟨hkind.trans hk.symm, htag, .inl (hkind ▸ hne)⟩

theorem resetRequest_for {f : Frame} (hk : f.kind = 0x03) : RequestFor f (resetRequest f.tag f.payload) := by
  unfold resetRequest
  repeat' refine iteInduction (motive := RequestFor f) (fun _ => ?_) (fun _ => ?_)
  all_goals exact .ofKind hk rfl rfl

theorem headStateRequest_for {f : Frame} (hk : f.kind = 0x12) : RequestFor f (headStateRequest f.tag f.payload) := by
  unfold headStateRequest
  repeat' refine iteInduction (motive := RequestFor f) (fun _ => ?_) (fun _ => ?_)
  all_goals exact .ofKind hk rfl rfl

/-- A frame's command is a request of the frame's kind and tag (R169, R172). -/
theorem requestOf_for (f : Frame) : RequestFor f (requestOf f) := by
  unfold requestOf
  dsimp only
  iterate 2 refine iteInduction (motive := RequestFor f) (fun hk => .ofKind hk rfl rfl) (fun _ => ?_)
  refine iteInduction (motive := RequestFor f) resetRequest_for (fun _ => ?_)
  iterate 6 refine iteInduction (motive := RequestFor f) (fun hk => .ofKind hk rfl rfl) (fun _ => ?_)
  refine iteInduction (motive := RequestFor f) headStateRequest_for (fun _ => ?_)
  iterate 11 refine iteInduction (motive := RequestFor f) (fun hk => .ofKind hk rfl rfl) (fun _ => ?_)
  exact ⟨rfl, rfl, .inr ⟨_, _, rfl⟩⟩

/-! ## The places taken -/

variable {s : State} {f : Frame} {r : Instr}

theorem arrive_waits (hreset : s.link.resetting = false) (hserved : s.link.served ≠ none) (hw : s.link.waiting = none) :
    arrive r s = { s with link := { s.link with waiting := some r } } := by
  obtain ⟨v, hv⟩ := Option.ne_none_iff_exists'.mp hserved
  rw [arrive, if_neg (by simp [hreset]), hv, hw]
  rfl

/-- The link with one BUSY reply more (R170). -/
def State.withBusy (s : State) (kind tag : Byte) : State :=
  { s with link := { s.link with replies := s.link.replies ++ [⟨.busy, kind ||| 0x80, tag, .code .busy⟩] } }

theorem arrive_busy (hreset : s.link.resetting = false) (hserved : s.link.served ≠ none) (hw : s.link.waiting ≠ none)
    (hfew : (s.link.replies.countP fun q => q.role == .busy) < 4) :
    arrive r s = s.withBusy (requestKind r) (requestTag r) := by
  obtain ⟨v, hv⟩ := Option.ne_none_iff_exists'.mp hserved
  obtain ⟨w, hw⟩ := Option.ne_none_iff_exists'.mp hw
  rw [arrive, if_neg (by simp [hreset]), hv, hw]
  exact if_pos hfew

theorem arrive_discarded (hreset : s.link.resetting = false) (hserved : s.link.served ≠ none) (hw : s.link.waiting ≠ none)
    (hmany : 4 ≤ (s.link.replies.countP fun q => q.role == .busy)) : arrive r s = s := by
  obtain ⟨v, hv⟩ := Option.ne_none_iff_exists'.mp hserved
  obtain ⟨w, hw⟩ := Option.ne_none_iff_exists'.mp hw
  rw [arrive, if_neg (by simp [hreset]), hv, hw]
  exact if_neg (Nat.not_lt.mpr hmany)

theorem arrive_resetting (hreset : s.link.resetting = true) : arrive r s = s := by
  rw [arrive, if_pos hreset]

/-- A link with nothing to send but notices lets the free transmitter take one. -/
theorem pump_settles (h : s.link.tx = none → s.link.replies = []) : pump s = startNotice s := by
  unfold pump
  split
  · rename_i htx hq
    exact absurd ((h htx).symm.trans hq) (by simp)
  · rfl

/-! ## The service on a busy link -/

/-- A request whose reply waits, as its service on an idle link leaves the rest of the part. -/
theorem exec_answered_busy (hr : r = requestOf f) (hrun : s.held = false) (htx : s.link.tx ≠ none)
    (hserved : s.link.served = none) (hwait : s.link.waiting = none) (h : AnsweredBlindly r) :
    ∃ (u : State) (p : Reply),
      exec r (s.relink none []) = .next (u.replying (f.kind ||| 0x80) f.tag p.payload) ∧
        exec r s = .next (driveOutputs { u with
          link := { u.link with
            tx := s.link.tx
            served := some ⟨r, .replied⟩
            replies := s.link.replies ++ [⟨.served, f.kind ||| 0x80, f.tag, p⟩] } }) := by
  obtain ⟨w, hblind, hkept, hserve⟩ := h
  have hfor : RequestFor f r := hr ▸ requestOf_for f
  have hkind : replyKind (requestKind r) = f.kind ||| 0x80 := by rw [hfor.kind, replyKind]
  refine ⟨(w (s.relink none [])).1, (w (s.relink none [])).2, ?_, ?_⟩
  · have harrival : exec r (s.relink none []) = .next (onLink (arrive r) (s.relink none [])) := by
      rw [hr]
      exact requestOf_isArrival f _
    rw [harrival, onLink_idle (s := s.relink none []) ⟨hrun, hserved, hwait, rfl, rfl⟩ r _ (hserve _) (hkept _), hkind, hfor.tag]
  · have hback : w s = ((w (s.relink none [])).1.relink s.link.tx s.link.replies, (w (s.relink none [])).2) :=
      hblind s.link.tx s.link.replies (s.relink none [])
    have hexec : exec r s = .next (driveOutputs (serve r s)) := by
      rw [hr]
      exact exec_served_busy hrun htx hserved hwait
    rw [hexec, hserve, hback, ← hkind, ← hfor.tag]
    rfl

/-- Settles O17: what the arrival makes of the places, what the transmitter then takes, and the services that do not look
at it. -/
theorem arrivalTakesAPlace : Obligations.ArrivalTakesAPlace := by
  refine ⟨fun f s hrun hs hserved hfree => ⟨fun hreset hw => ?_, fun hreset hw hfew => ⟨fun htx => ?_, fun htx => ?_⟩,
    fun hreset hw hmany => ?_, fun hreset => ?_⟩, fun f s s1 r hrun htx hserved hwait hr hs1 =>
      ⟨fun tag es hplan hone hfour => ?_, fun tag sc hreset => ?_, fun hplan hreset => ?_⟩⟩
  · rw [exec_requestOf f hrun, arrived, arrive_waits hreset hserved hw,
      pump_settles (s := { s with link := { s.link with waiting := some (requestOf f) } }) hfree]
    rfl
  · rw [exec_requestOf f hrun, arrived, arrive_busy hreset hserved hw hfew, (requestOf_for f).kind,
      (requestOf_for f).tag, pump_busy (s := s.withBusy f.kind f.tag) htx]
    exact congrArg Host.Outcome.next (driven_with_link hs _)
  · have hreplies : (s.withBusy f.kind f.tag).link.replies = [⟨.busy, f.kind ||| 0x80, f.tag, .code .busy⟩] := by
      rw [State.withBusy, hfree htx, List.nil_append]
    rw [exec_requestOf f hrun, arrived, arrive_busy hreset hserved hw hfew, (requestOf_for f).kind,
      (requestOf_for f).tag, pump_busyReply (s := s.withBusy f.kind f.tag) htx hreplies rfl, ← hfree htx]
    exact congrArg Host.Outcome.next (driven_with_link hs _)
  · have htx : s.link.tx ≠ none := fun h => by
      rw [hfree h] at hmany
      exact absurd hmany (by decide)
    rw [exec_requestOf f hrun, arrived, arrive_discarded hreset hserved hw hmany, pump_busy htx, hs]
  · rw [exec_requestOf f hrun, arrived, arrive_resetting hreset, pump_settles hfree]
    rfl
  · have hnot : ¬(es.length = 0 ∨ 4 < es.length) := by omega
    rw [hr, exec_served_busy hrun htx hserved hwait, ← hr, hplan, serve, servePlan, if_neg hnot]
    rfl
  · have hfor : RequestFor f r := hr ▸ requestOf_for f
    have hserve : serve r s = answer r (.resetting sc) (s, .reset sc (s.ch0.queue.length + s.ch1.queue.length)) := by
      obtain ⟨rfl, rfl⟩ | ⟨rfl, rfl⟩ := hreset <;> rfl
    have hkind : replyKind (requestKind r) = f.kind ||| 0x80 := by rw [hfor.kind, replyKind]
    rw [hr, exec_served_busy hrun htx hserved hwait, ← hr, hserve, ← hkind, ← hfor.tag]
    rfl
  · rw [hs1]
    exact exec_answered_busy hr hrun htx hserved hwait
      (serve_answeredBlindly r (hr ▸ (requestOf_for f).known) hplan hreset)

end Sys2Proof.Machine
end
